-- ==== Sys2Proof/Word.lean ====
section
/-!
DEFINITION. The plain data every other file is built from: bytes, and the sparse table in one
canonical form that holds memories, dictionary objects and per-unit records.
-/

namespace Sys2Proof

/-- One byte of an addressed memory (R7). -/
abbrev Byte := BitVec 8

/-- A sparse table: key and value pairs. A key that is not listed reads as the default that the
reader gives. The canonical form (`Tbl.wf`) has strictly rising keys and lists no default. With
bytes as values this is a list of `Host.Cell`. -/
abbrev Tbl (α : Type) := List (Nat × α)

/-- The value at key `q`, or `d` when the key is not listed. -/
def Tbl.get {α : Type} (d : α) : Tbl α → Nat → α
  | [], _ => d
  | (k, v) :: t, q => if q = k then v else Tbl.get d t q

/-- List `v` at key `k`, in key order. -/
def Tbl.put {α : Type} (k : Nat) (v : α) : Tbl α → Tbl α
  | [] => [(k, v)]
  | (k', v') :: t =>
    if k < k' then (k, v) :: (k', v') :: t
    else if k = k' then (k, v) :: t
    else (k', v') :: Tbl.put k v t

/-- Take key `k` out of the list. -/
def Tbl.del {α : Type} (k : Nat) : Tbl α → Tbl α
  | [] => []
  | (k', v') :: t => if k = k' then Tbl.del k t else (k', v') :: Tbl.del k t

/-- Give key `k` the value `v`, where an unlisted `k` reads `d`. -/
def Tbl.set {α : Type} [DecidableEq α] (d : α) (t : Tbl α) (k : Nat) (v : α) : Tbl α :=
  if v = d then Tbl.del k t else Tbl.put k v t

/-- The keys rise strictly from above `lo`. -/
def Tbl.rising {α : Type} : Option Nat → Tbl α → Bool
  | _, [] => true
  | lo, (k, _) :: t =>
    (match lo with
      | none => true
      | some l => decide (l < k)) && Tbl.rising (some k) t

/-- No key in the list holds the value an unlisted key reads as (`d k`). -/
def Tbl.lean {α : Type} [DecidableEq α] (d : Nat → α) : Tbl α → Bool
  | [] => true
  | (k, v) :: t => decide (v ≠ d k) && Tbl.lean d t

/-- The one canonical form of a table. -/
def Tbl.wf {α : Type} [DecidableEq α] (d : Nat → α) (t : Tbl α) : Bool :=
  Tbl.rising none t && Tbl.lean d t

/-- The numbers `lo, lo + 1, …` below `lo + n`, in order. -/
def upFrom : Nat → Nat → List Nat
  | _, 0 => []
  | lo, n + 1 => lo :: upFrom (lo + 1) n

/-- Bits `[hi:lo]` of `n` (R6). -/
def bits (n lo w : Nat) : Nat := (n >>> lo) % 2 ^ w

/-- Bit `i` of `n` as a Boolean. -/
def bitAt (n i : Nat) : Bool := n.testBit i

/-- Field `[lo + w - 1 : lo]` of `n` replaced by the low `w` bits of `v`. -/
def putBits (n lo w v : Nat) : Nat :=
  (n >>> (lo + w)) <<< (lo + w) + ((v % 2 ^ w) <<< lo) + n % 2 ^ lo

/-- A Boolean as one bit. -/
def b2n (b : Bool) : Nat := if b then 1 else 0

/-- Add `by'` to a counter that saturates at `2^w - 1` (the saturating counters of the object
tables). -/
def satAdd (w n by' : Nat) : Nat := min (2 ^ w - 1) (n + by')

/-- The little-endian number that a byte string spells, byte 0 lowest (R7). -/
def leNat : List Byte → Nat
  | [] => 0
  | b :: t => b.toNat + 256 * leNat t

/-- The low `k` bytes of `n`, lowest first (R7). -/
def leBytes : Nat → Nat → List Byte
  | 0, _ => []
  | k + 1, n => BitVec.ofNat 8 n :: leBytes k (n / 256)

/-- A `w`-bit pattern read as two's complement. -/
def signed (w n : Nat) : Int :=
  if n % 2 ^ w < 2 ^ (w - 1) then (n % 2 ^ w : Nat) else ((n % 2 ^ w : Nat) : Int) - 2 ^ w

/-- The `w`-bit pattern of an integer, two's complement. -/
def pattern (w : Nat) (z : Int) : Nat := (z % (2 ^ w : Nat)).toNat

/-- Replace element `i` of a list (no change past its end). -/
def setAt {α : Type} : List α → Nat → α → List α
  | [], _, _ => []
  | _ :: t, 0, v => v :: t
  | a :: t, i + 1, v => a :: setAt t i v

/-- Element `i` of a list, or `d` past its end. -/
def getAt {α : Type} (d : α) : List α → Nat → α
  | [], _ => d
  | a :: _, 0 => a
  | _ :: t, i + 1 => getAt d t i

end Sys2Proof
end

