-- ==== Sys2Proof/Syntax.lean ====
section
/-!
DEFINITION. The commands of the block: one constructor of `Instr` for every row of
spec/opcode_table.json, with the operands the row needs. A row is a host or ring access, or an event
that comes about in the device (a stroke, a frame's end, a timer, a supply change). What the row's
words do not carry and the outside world fixes (a frame's bits, a reading, a level) is an operand.
-/

namespace Sys2Proof

/-- Hamlet number h (R13). -/
abbrev Hamlet := Fin 8
/-- Logical croft number c within a hamlet (R17). -/
abbrev Croft := Fin 128
/-- Franel port p (R191). -/
abbrev Port := Fin 32
/-- Lane of a port, l (R191). -/
abbrev Lane := Fin 8
/-- Cellar n (R124). -/
abbrev Cellar := Fin 4
/-- Hedgerow region or I/O bank (R283). -/
abbrev Region := Fin 12
/-- Service core k (R333). -/
abbrev CoreNo := Fin 16
/-- Watch unit u (R355). -/
abbrev WatchUnit := Fin 9
/-- Initiator number (R154). -/
abbrev Initiator := Fin 2048

/-- The path over which a dictionary access reaches the device (R470 to R474): a ring command to this
module, a broadcast, the host through BAR0, or the dictionary mirror by a packet initiator. -/
inductive Via where
  | ring
  | broadcast
  | bar0
  | mirror (init : Initiator)
  deriving DecidableEq, Repr

/-- A target of packets that holds response buffers (R177): a croft endpoint, a cellar controller,
a green target, or the watch and maintenance attachment of a hamlet. -/
inductive Target where
  | croft (h : Hamlet) (c : Croft)
  | cellar (n : Cellar)
  | scratchpad
  | troughs
  | tallies
  | verger
  | hedgerow
  | watch (u : WatchUnit)
  | dictionary
  | config
  deriving DecidableEq, Repr

/-- An endpoint that can be shuttered (R185, 0x4804.01). -/
inductive Endpoint where
  | croft (h : Hamlet) (c : Croft)
  | routers (h : Hamlet)
  | franel (p : Port)
  | watch (h : Hamlet)
  deriving DecidableEq, Repr

/-- What a packet check error damaged (R173), which is dropped whole: a request flit, a flit of the answer (a
response or a beat of read data), or a beat of write data. -/
inductive PacketNet where
  | request
  | response
  | data
  deriving DecidableEq, Repr

/-- A request flit, field by field (R169). -/
structure ReqFlit where
  cls : BitVec 2
  op : BitVec 4
  dest : BitVec 11
  src : BitVec 11
  tag : BitVec 8
  size : BitVec 3
  addr : BitVec 37
  par : BitVec 4
  deriving DecidableEq, Repr

/-- A packet flit of the data network, field by field (R170); its reserved bits are sent as 0. -/
structure DataFlit where
  crc : BitVec 8
  cls : BitVec 2
  kind : BitVec 2
  dest : BitVec 11
  src : BitVec 11
  tag : BitVec 8
  beat : BitVec 3
  last : Bool
  be : BitVec 8
  data : BitVec 64
  deriving DecidableEq, Repr

/-- The fields of a request flit but for SRC, TAG and DEST (R169). -/
structure ReqAsk where
  cls : BitVec 2
  op : BitVec 4
  size : BitVec 3
  addr : BitVec 37
  par : BitVec 4
  deriving DecidableEq, Repr

/-- The fields of a packet flit of the data network but for SRC, TAG and DEST (R170). -/
structure DataBeat where
  crc : BitVec 8
  cls : BitVec 2
  kind : BitVec 2
  beat : BitVec 3
  last : Bool
  be : BitVec 8
  data : BitVec 64
  deriving DecidableEq, Repr

/-- A flit of a WRITE, but for the SRC, TAG and DEST that all of its flits have: its request, or a beat of its data
(R174). -/
inductive WriteFlit where
  | request (ask : ReqAsk)
  | data (beat : DataBeat)
  deriving DecidableEq, Repr

/-- A snoop flit, field by field (R179). -/
structure SnoopFlit where
  op : BitVec 3
  core : BitVec 4
  home : BitVec 11
  line : BitVec 29
  par : BitVec 1
  deriving DecidableEq, Repr

/-- The fields of a snoop flit but for OP and CORE (R179). -/
structure SnoopLine where
  home : BitVec 11
  line : BitVec 29
  par : BitVec 1
  deriving DecidableEq, Repr

/-- What happens to the flits of an answer on their way to the initiator (R171, R173): the bits that are flipped of each
flit, in the order in which they are sent (a response flit is the low 48 bits), and the hamlet whose router finds an
error that the flit's check shows. -/
structure Fate where
  finder : Hamlet
  flips : List (BitVec 144)
  deriving DecidableEq, Repr

/-- The answer arrives as it was sent. -/
def Fate.arrives : Fate := ⟨0, []⟩

/-- A GRANT on its way (R173, R176): the strokes that the initiator has waited for it (R184), and what happens to its
flit. -/
structure GrantWay where
  wait : Nat
  fate : Fate
  deriving DecidableEq, Repr

/-- The four networks of R150. -/
inductive Net where
  | request
  | response
  | snoop
  | data
  deriving DecidableEq, Repr

/-- A packet flit that an agent at a node gives to a network in a stroke (R150, R152): a request or response flit is the
low 80 or 48 bits of the word. -/
structure NetEntry where
  net : Net
  node : BitVec 11
  word : BitVec 144
  deriving DecidableEq, Repr

/-- What a stroke brings from outside the tables and the crofts: by router and input, the bits that are flipped in a G
flit that arrives there (R165); the packet flits that agents give to the networks; and, by network, node and input, the
bits that are flipped in a packet flit that arrives there (R173). -/
structure StrokeIn where
  errs : List (Nat × Nat × BitVec 144)
  packets : List NetEntry
  flips : List (Net × Nat × Nat × BitVec 144)
  deriving DecidableEq, Repr

/-- A stroke that brings nothing. -/
def StrokeIn.none : StrokeIn := ⟨[], [], []⟩

/-- One received lane frame: the 320 UI of the frame as the receiver took them, bit 0 first (R195). -/
structure LaneFrame where
  lane : Lane
  ui : BitVec 320
  deriving DecidableEq, Repr

/-- A Lomoc ring frame as it arrives: its bytes, TYPE first and CRC last (R458), and whether a code
violation was seen in it (R462). -/
structure RingFrame where
  bytes : List Byte
  violation : Bool
  deriving DecidableEq, Repr

/-- Which ring port a frame arrives on (R461). -/
inductive RingPort where
  | primary
  | branch
  deriving DecidableEq, Repr

/-- Which steeple message a port's interval is due for (R387). -/
inductive SteepleDue where
  | sync
  | delayReq
  | announce
  deriving DecidableEq, Repr

/-- The die of a thermal reading (R448). -/
inductive Die where
  | hamlet (h : Hamlet)
  | green
  | cellar (n : Cellar)
  deriving DecidableEq, Repr

/-- One set of sensor readings: the 16 sensors of each hamlet, the eight of the green, and the stack sensor of
each cellar, in °C (R448), and what the supply monitors read (0x2103): VMAIN and VSTBY in mV, the mean power
in mW and the energy in mJ. -/
structure Readings where
  hamlets : List (List Int)
  green : List Int
  cellars : List Int
  vmain : Nat
  vstby : Nat
  power : Nat
  energy : Nat
  deriving DecidableEq, Repr

/-- The unknown events of R444 that wake the device, and an armed wake. -/
inductive WakeCause where
  | armed
  | ring
  | pcie
  | tcap
  | eventSource
  | allset
  deriving DecidableEq, Repr

/-- A PLL of R438: the stroke PLL of a hamlet or of the green, the core PLL, or a fabric PLL. -/
inductive Pll where
  | strokeHamlet (h : Hamlet)
  | strokeGreen
  | core
  | fabric (j : Fin 4)
  deriving DecidableEq, Repr

/-- A unit that runs a background test (R146): a hamlet's larder test or the scratchpad test. -/
inductive TestUnit where
  | larder (h : Hamlet)
  | scratchpad
  deriving DecidableEq, Repr

/-- One mismatch that a background test of a block found: word within the block and first failing
column of the 72-bit stored word (R146). -/
structure Mismatch where
  word : Fin 64
  column : Fin 72
  deriving DecidableEq, Repr

/-- Where an upset falls (R424, R425, R121): the word, and the stored bit that flips. -/
inductive UpsetAt where
  | instruction (h : Hamlet) (c : Croft) (b : Fin 64) (w : Fin 1024) (bit : Fin 80)
  | frame (r : Region) (f : Fin 4160) (w : Fin 16) (bit : Fin 72)
  | larder (h : Hamlet) (c : Croft) (word : Fin 32768) (bit : Fin 72)
  | cellar (n : Cellar) (word : Fin 3221225472) (bit : Fin 72)
  | scratchpad (word : Fin 1048576) (bit : Fin 72)
  deriving DecidableEq, Repr

/-- What a core was doing when its access was answered with an error (R335). -/
inductive CoreAccess where
  | load
  | store
  | fetch
  deriving DecidableEq, Repr

/-- One result of an aging pass (R451, R452): the monitor's object, and its drift and margin; `none`
when the monitor's domain was skipped. -/
structure AgingResult where
  index : Nat
  sub : Nat
  reading : Option (Int × Nat)
  deriving DecidableEq, Repr

/-- A host or packet access at an address: a read of `size` bytes, or a write of data. -/
inductive Access where
  | read (size : Nat)
  | write (data : List Byte)
  deriving DecidableEq, Repr

/-- The kind of a configuration request to the PCIe endpoint (R498), whose configuration space
follows the PCI Express Base Specification (R497): a read or a write of a 4-byte register by its number, a read of the MSI-X
capability or a write of its Enable and Function Mask bits (R478), and a read or a clear of what Advanced Error Reporting
holds of a Completer Abort (R509). -/
inductive CfgKind where
  | read (reg : BitVec 10)
  | write (reg : BitVec 10) (value : BitVec 32)
  | msixRead
  | msix (enable funcMask : Bool)
  | aerRead
  | aerClear
  deriving DecidableEq, Repr

/-- The commands of the block, in the order of spec/opcode_table.json. -/
inductive Instr where
  /-- R40, R78: one stroke-clock period, with what it brings: damaged flits, and packet flits for the networks. -/
  | stroke (errs : StrokeIn)
  /-- R77. -/
  | rotaBoundary
  /-- R78. -/
  | fallowEnd
  /-- R239. -/
  | bellLocalMessage
  /-- R240, R241: the bell receive stroke of port `p`; `second` is the second verdict copy. The byte is
  the one that the port's group for the present stroke holds. -/
  | bellMessageReceive (p : Port) (second : Bool)
  /-- R239. -/
  | bellUpSend
  /-- R241. -/
  | bellRootForm
  /-- R242. -/
  | verdictCopySend (p : Port) (second : Bool)
  /-- R242, R249. -/
  | bellLost
  /-- R249, 0x2401.0A. -/
  | verdictRepair (via : Via) (byte : BitVec 8)
  /-- R247, 0x2401.05. -/
  | stopCommand (via : Via)
  /-- R246, 0x2401.06. -/
  | pauseCommand (via : Via)
  /-- R251, 0x2403.02 = 1. -/
  | alignmentArm (via : Via)
  /-- R255, 0x2403.02 = 2. -/
  | alignmentCancel (via : Via)
  /-- R251: the first stroke at or after T_a. -/
  | alignmentStep
  /-- R252, 0x2403.05 = 1. -/
  | startArm (via : Via)
  /-- R255, 0x2403.05 = 2. -/
  | startCancel (via : Via)
  /-- R252: count S0 − 4,096. -/
  | startSample
  /-- R252: count S0. -/
  | startRun
  /-- R103. -/
  | sheetRaise (via : Via) (h : Hamlet) (c : Croft)
  /-- R105. -/
  | sheetLower (via : Via) (h : Hamlet) (c : Croft)
  /-- R110: a write at a byte offset of a croft window outside the larder. -/
  | croftWindowWrite (init : Initiator) (h : Hamlet) (c : Croft) (off : Nat) (data : List Byte)
  /-- R116 to R119: an access to the larder by a requester that is not a BP. -/
  | nonBpLarderAccess (init : Initiator) (h : Hamlet) (c : Croft) (off : Nat) (acc : Access)
  /-- R117. -/
  | bankBusyTimeout (h : Hamlet) (c : Croft) (bank : Fin 4)
  /-- R141. -/
  | bankWake (h : Hamlet) (c : Croft) (bank : Fin 4)
  /-- R141. -/
  | bankRetainTimeout (h : Hamlet) (c : Croft) (bank : Fin 4)
  /-- R145, 0x3880.01. -/
  | applyRepairRecord (via : Via) (rec : BitVec 64)
  /-- R146, Hb+0x27.02 = 1. -/
  | larderTestStart (via : Via) (h : Hamlet)
  /-- R148, Hb+0x27.02 = 2. -/
  | larderTestStop (via : Via) (h : Hamlet)
  /-- R147. -/
  | testBlockYield (u : TestUnit)
  /-- R147. -/
  | testBlockResume (u : TestUnit)
  /-- R122. -/
  | larderScrubVisit (h : Hamlet) (c : Croft) (word : Fin 32768)
  /-- R126: the request of one binding of a cellar at its request stroke; `phyBad` when the transfer
  from the stack failed uncorrectably (R123). -/
  | cellarRequest (n : Cellar) (binding : Fin 4096) (phyBad : Bool)
  /-- R128: the returns of a cellar that are due at the present stroke. -/
  | cellarReturn (n : Cellar) (binding : Fin 4096)
  /-- R139. -/
  | cellarTemperatureRead (n : Cellar) (temp : Int)
  /-- R140. -/
  | refreshFallowRequest (n : Cellar)
  /-- R140. -/
  | forcedRefresh (n : Cellar)
  /-- R122. -/
  | cellarPatrolScrub (n : Cellar) (word : Fin 3221225472)
  /-- R508. -/
  | cellarReady (n : Cellar)
  /-- R176: an RSV flit at a target, whose node is its DEST. -/
  | rsv (tgt : Target) (src : BitVec 11) (tag : BitVec 8) (ask : ReqAsk)
  /-- R176; `wait` is the grant wait in strokes (R184), with what happens to the flit. -/
  | grant (tgt : Target) (init : Initiator) (wait : GrantWay)
  /-- R176: a RELEASE flit at a target, whose node is its DEST; `who` is its SRC and TAG. -/
  | release (tgt : Target) (who : BitVec 11 × BitVec 8) (ask : ReqAsk)
  /-- R172: a READ flit at its target. `lat` is the latency in strokes of the answer (R184), and `fate` what becomes
  of it on its way. -/
  | packetRead (src : BitVec 11) (tag : BitVec 8) (dest : BitVec 11) (ask : ReqAsk) (lat : Nat) (fate : Fate)
  /-- R174: flits of a WRITE at its target, in the order in which they arrive; the rest of them may come by other
  commands, and flits of other packets between them. `lat` and `fate` as for a READ. -/
  | packetWrite (src : BitVec 11) (tag : BitVec 8) (dest : BitVec 11) (flits : List WriteFlit) (lat : Nat) (fate : Fate)
  /-- R173: a flit of the transaction `tag` of `init` to `tgt` is found in error in hamlet `h`. -/
  | packetCheckError (h : Hamlet) (net : PacketNet) (tgt : Target) (init : Initiator) (tag : BitVec 8)
  /-- R175. -/
  | transactionTimeout (init : Initiator) (tag : BitVec 8)
  /-- R175. -/
  | unmatchedWriteTimeout (tgt : Target) (init : Initiator)
  /-- R178: an INVALIDATE flit at a core. -/
  | invalidate (op : BitVec 3) (core : BitVec 4) (line : SnoopLine)
  /-- R178: an INV_ACK flit at a home. -/
  | invAck (op : BitVec 3) (core : BitVec 4) (line : SnoopLine)
  /-- R186, 0x4804.02 = 1. -/
  | shutter (via : Via)
  /-- R186. -/
  | shutterDrainEnd (e : Endpoint)
  /-- R187, 0x4804.02 = 2. -/
  | unshutter (via : Via)
  /-- R187. -/
  | unshutterOpen (e : Endpoint)
  /-- R188, 0x4801.05 = 1. -/
  | swapArmAtRota (via : Via)
  /-- R188, 0x4801.05 = 2. -/
  | swapArmWithLower (via : Via)
  /-- R188, 0x4801.05 = 3. -/
  | swapCancel (via : Via)
  /-- R188: the start of rota r − 1. -/
  | swapDrainStart
  /-- R182, 0x4803.04 = 1. -/
  | tApply (via : Via)
  /-- R189, 0x4803.04 = 2. -/
  | tRemove (via : Via)
  /-- R189: a write of 0x4805.05, or of 0x4805.06 when `high`. -/
  | tableEntryWrite (via : Via) (high : Bool) (value : BitVec 64)
  /-- R184. -/
  | statisticsClear (via : Via) (init : Fin 128)
  /-- R224: one port frame; `ready` is the system stroke count at which its group 0 became ready. -/
  | frameReceive (p : Port) (lanes : List LaneFrame) (ready : Nat)
  /-- R203. -/
  | linkStatus (p : Port) (msg : BitVec 112)
  /-- R214: a PACE_PROBE, and the steeple time (2^−32 ns units) at which its frame's last group became ready. -/
  | paceProbe (p : Port) (msg : BitVec 112) (lastReady : BitVec 64)
  /-- R210. -/
  | laneCdrLock (p : Port) (l : Lane)
  /-- R210: 64 good blocks, or (`ok` false) failure at every offset. -/
  | laneBlockLock (p : Port) (l : Lane) (ok : Bool)
  /-- R210: four good frames of logical lane `ln` (a SPARE frame when `spare`), or 4,096 frames without success. -/
  | laneFrameAlign (p : Port) (l : Lane) (ok : Bool) (ln : Lane) (spare : Bool)
  /-- R227. -/
  | laneLost (p : Port) (l : Lane)
  /-- R211, R212: the skew of the port's lanes in strokes. -/
  | portTrained (p : Port) (skew : Nat)
  /-- R213. -/
  | goodFrameCount (p : Port)
  /-- R211, Pb.03 = 1. -/
  | retrain (via : Via) (p : Port)
  /-- R211, Pb.03 = 2. -/
  | takeDown (via : Via) (p : Port)
  /-- R231, Pb.03 = 3. -/
  | swapLaneCommand (via : Via) (p : Port)
  /-- R230, Pb.03 = 4. -/
  | readmit (via : Via) (p : Port)
  /-- R228: swap frame N at the sender (`tx`) or the receiver of port `p`. -/
  | swapFrame (p : Port) (tx : Bool)
  /-- R229: whether frames N to N + 3 passed before the bound. -/
  | swapVerify (p : Port) (ok : Bool)
  /-- R230. -/
  | spareRegained (p : Port)
  /-- R214, Pb+0x1.06. -/
  | measureCommand (via : Via) (p : Port)
  /-- R233. -/
  | laneTestModeWrite (via : Via) (p : Port) (l : Lane) (mode : BitVec 8)
  /-- R232: the bits a PRBS checker took in one report, oldest first. -/
  | prbsCheckerLock (p : Port) (l : Lane) (rx : List Bool)
  /-- R234. -/
  | injectSingle (via : Via) (p : Port) (l : Lane)
  /-- R234. -/
  | injectStartPeriodic (via : Via) (p : Port) (l : Lane)
  /-- R234. -/
  | injectStop (via : Via) (p : Port) (l : Lane)
  /-- R234. -/
  | injectIntervalExpiry (p : Port) (l : Lane)
  /-- R302. -/
  | regionRaise (via : Via) (r : Region)
  /-- R302. -/
  | regionLower (via : Via) (r : Region)
  /-- R304. -/
  | regionWindowWrite (init : Initiator) (r : Region) (off : Nat) (data : List Byte)
  /-- R291: the line, and the two cells (region, cell) found driving it. -/
  | globalContention (line : Fin 4096) (a b : Region × Fin 16384)
  /-- R291, 0x5000.03. -/
  | reEnableLine (via : Via) (line : BitVec 16)
  /-- R292. -/
  | peepholeWrite (via : Via) (r : Region) (k : Fin 64) (sel : BitVec 16)
  /-- R306, 0x5001.01 to .04. -/
  | pllSettingsWrite (via : Via) (j : Fin 4) (value : BitVec 32)
  /-- R293. -/
  | rotaClockTick
  /-- R297. -/
  | commitPulse
  /-- R298. -/
  | packetStart (i : Fin 64)
  /-- R298: the answer of a hedgerow initiator's packet reaches it; `lat` is its latency in strokes (R184), and `fate`
  what becomes of it on its way. -/
  | packetDone (i : Fin 64) (lat : Nat) (fate : Fate)
  /-- R301: VIO of the bank in mV. -/
  | bankSupplySample (b : Region) (mv : Nat)
  /-- R308. -/
  | push (init : Initiator) (t : Fin 256) (item : BitVec 64)
  /-- R308. -/
  | pushEop (init : Initiator) (t : Fin 256) (item : BitVec 64)
  /-- R317. -/
  | pop (init : Initiator) (t : Fin 256)
  /-- R311. -/
  | drop (init : Initiator) (t : Fin 256)
  /-- R318. -/
  | publish (init : Initiator) (t : Fin 256) (value : BitVec 64)
  /-- R318. -/
  | troughRelease (init : Initiator) (t : Fin 256) (value : BitVec 64)
  /-- R318. -/
  | bankViewWrite (init : Initiator) (t : Fin 256) (off : Nat) (data : List Byte)
  /-- R323. -/
  | troughReset (via : Via) (t : Fin 256)
  /-- R325. -/
  | tallyFeed (init : Initiator) (n : Fin 16) (data : List Byte)
  /-- R326: bytes that the snooped source moved. -/
  | tallySnoopFeed (n : Fin 16) (data : List Byte)
  /-- R324. -/
  | tallyRestart (via : Via) (n : Fin 16)
  /-- R327. -/
  | tallyRunningWrite (via : Via) (n : Fin 16) (value : BitVec 64)
  /-- R343. -/
  | arm (init : Initiator) (task : BitVec 12)
  /-- R343. -/
  | signal (init : Initiator) (task : BitVec 12) (amount : BitVec 12)
  /-- R343. -/
  | cancel (init : Initiator) (task : BitVec 12)
  /-- R343. -/
  | done (init : Initiator)
  /-- R343. -/
  | yield (init : Initiator)
  /-- R345: a word written to COMMAND that is no command. -/
  | commandError (init : Initiator) (word : BitVec 64)
  /-- R347. -/
  | take (k : CoreNo)
  /-- R350. -/
  | delayListDue (j : Fin 4)
  /-- R349. -/
  | preEmptOverrun (k : CoreNo)
  /-- R354. -/
  | cacheCommand (via : Via) (k : CoreNo) (which : BitVec 8)
  /-- R337. -/
  | coreHoldReset (via : Via) (k : CoreNo)
  /-- R337. -/
  | coreRelease (via : Via) (k : CoreNo)
  /-- R335. -/
  | coreAccessFault (k : CoreNo) (kind : CoreAccess) (addr : BitVec 64)
  /-- R336. -/
  | reservationTimeout (k : CoreNo)
  /-- R354. -/
  | scratchpadTestStart (via : Via)
  /-- R354. -/
  | scratchpadTestStop (via : Via)
  /-- R363. -/
  | watchArm (via : Via) (u : WatchUnit)
  /-- R369. -/
  | forceTrigger (via : Via) (u : WatchUnit)
  /-- R363. -/
  | watchStop (via : Via) (u : WatchUnit)
  /-- R363. -/
  | watchReset (via : Via) (u : WatchUnit)
  /-- R363. -/
  | postComplete (u : WatchUnit)
  /-- R365. -/
  | spillWrite (u : WatchUnit)
  /-- R363. -/
  | drainComplete (u : WatchUnit)
  /-- R379. -/
  | watchWindowWrite (init : Initiator) (u : WatchUnit) (off : Nat) (data : List Byte)
  /-- R383. -/
  | referencePeriod
  /-- R389: a SYNC and its receive time NS.FRAC (R387). -/
  | sync (p : Port) (msg : BitVec 112) (ready : BitVec 64)
  /-- R387: a DELAY_REQ and its receive time NS.FRAC. -/
  | delayReq (p : Port) (msg : BitVec 112) (ready : BitVec 64)
  /-- R389. -/
  | delayResp (p : Port) (msg : BitVec 112)
  /-- R388. -/
  | announce (p : Port) (msg : BitVec 112)
  /-- R388. -/
  | announceExpiry (p : Port)
  /-- R391. -/
  | syncTimeout
  /-- R387. -/
  | steepleSendDue (p : Port) (due : SteepleDue)
  /-- R392. -/
  | pulseArm (via : Via) (i : Fin 8)
  /-- R395. -/
  | pulseDisarm (via : Via) (i : Fin 8)
  /-- R392: the pin's level is judged at the present stroke. -/
  | pulseFire (i : Fin 8)
  /-- R393. -/
  | captureEdge (i : Fin 8) (rising : Bool)
  /-- R395. -/
  | capturePop (via : Via) (i : Fin 8)
  /-- R403. -/
  | storeWrite (via : Via)
  /-- R404. -/
  | storeErase (via : Via)
  /-- R404. -/
  | storeMirror (via : Via)
  /-- R405. -/
  | storeApply (via : Via)
  /-- R403. -/
  | storeCommandComplete
  /-- R414. -/
  | restartCommand (via : Via)
  /-- R411. -/
  | undercoat
  /-- R426. -/
  | storePatrol
  /-- R416. -/
  | loadCommand (via : Via)
  /-- R417. -/
  | loadComplete
  /-- R419. -/
  | allsetRelease
  /-- R419, 0x2304.05. -/
  | hostHoldWrite (via : Via) (value : BitVec 8)
  /-- R420: the filtered level of the shared line. -/
  | allsetSeen (high : Bool)
  /-- R423. -/
  | croftRemap (via : Via)
  /-- R424. -/
  | instructionScrub (h : Hamlet) (c : Croft) (b : Fin 64) (w : Fin 1024)
  /-- R425. -/
  | hedgerowScrub (r : Region) (f : Fin 4160)
  /-- R406. -/
  | keyProgram (via : Via) (slot : Fin 4)
  /-- R406. -/
  | keyRevoke (via : Via) (slot : Fin 4)
  /-- R410. -/
  | attest (via : Via)
  /-- R410. -/
  | attestReady
  /-- R431. -/
  | vstbyGood
  /-- R431. -/
  | vstbyLoss
  /-- R432: VMAIN at or above 40 V for 1 ms. -/
  | vmainGood
  /-- R432, R206: the strap value, whether the reference is present. -/
  | waking (brdid : Fin 16) (reference : Bool)
  /-- R433. -/
  | powerFail
  /-- R447, 0x2100.06 = 1. -/
  | standbyCommand (via : Via)
  /-- R447, 0x2100.06 = 2. -/
  | wakeCommand (via : Via)
  /-- R432. -/
  | standbyWakeTimer
  /-- R439. -/
  | referenceLoss
  /-- R443. -/
  | powerStateChoice
  /-- R444, R445. -/
  | powerStateWake (cause : WakeCause)
  /-- R453. -/
  | wakeAlarmWrite (via : Via) (i : Fin 4) (value : BitVec 64)
  /-- R436. -/
  | domainOff (via : Via)
  /-- R436. -/
  | domainOn (via : Via)
  /-- R450. -/
  | domainRestore (via : Via)
  /-- R448. -/
  | sensorRead (r : Readings)
  /-- R449. -/
  | thermalLevelFall
  /-- R449. -/
  | thermalRequest
  /-- R450. -/
  | safetyShutdown (d : Die)
  /-- R455: by command, or (`none`) at the period. -/
  | agingMeasure (via : Option Via)
  /-- R452. -/
  | agingPassComplete (results : List AgingResult)
  /-- R470: a ring READ frame. -/
  | read (port : RingPort) (f : RingFrame)
  /-- R470: a ring WRITE frame. -/
  | writeObject (port : RingPort) (f : RingFrame)
  /-- R468. -/
  | broadcastWrite (f : RingFrame)
  /-- R464: an ASSIGN frame; it arrives on primary in, or back on branch in. -/
  | assign (port : RingPort) (f : RingFrame)
  /-- R466. -/
  | mread (port : RingPort) (f : RingFrame)
  /-- R466. -/
  | mwrite (port : RingPort) (f : RingFrame)
  /-- R466. -/
  | response
  /-- R461. -/
  | frameForward (port : RingPort) (f : RingFrame)
  /-- R462. -/
  | ringFrameDiscard (port : RingPort) (f : RingFrame)
  /-- R478. -/
  | notify (src : Fin 4096)
  /-- R463: the duration in ms. -/
  | stileClosePrimary (via : Via) (ms : BitVec 24)
  /-- R463. -/
  | stileCloseBranch (via : Via)
  /-- R463. -/
  | stileOpenBranch (via : Via)
  /-- R463. -/
  | primaryStileReopen
  /-- R463. -/
  | branchLockLoss
  /-- R457. -/
  | receiverLock (port : RingPort) (locked : Bool)
  /-- R476, 0x2001.01 = 1. -/
  | settle (via : Via)
  /-- R476, 0x2001.01 = 2. -/
  | reset (via : Via)
  /-- R477. -/
  | eventFire (src : Fin 4096) (cause : Fin 16)
  /-- R480, 0x6000.23. -/
  | softwareRaise (via : Via) (src : BitVec 16)
  /-- R478. -/
  | msixPendingSend (v : Fin 64)
  /-- R473. -/
  | bar0Access (off : Nat) (acc : Access)
  /-- R473: a write at an offset of the octet data block. -/
  | octetDataWrite (init : Initiator) (off : Nat) (data : List Byte)
  /-- R498. -/
  | bar2Access (off : Nat) (acc : Access)
  /-- R498: the level of PERST_L after the edge. -/
  | perst (high : Bool)
  /-- R501: an instruction is loaded; the level of TEST_EN_L. -/
  | tapInstruction (code : BitVec 8) (testEn : Bool)
  /-- R501. -/
  | tapInstructionExit
  /-- R10: a write to an object with no row of its own. -/
  | registerWrite (via : Via) (index : BitVec 16) (sub : BitVec 8) (value : List Byte)
  /-- R438. -/
  | crystalTimeout
  /-- R432. -/
  | referenceArrival
  /-- R438. -/
  | pllLock (pll : Pll)
  /-- R339. -/
  | scratchpadScrubVisit (word : Fin 1048576)
  /-- R146. -/
  | testBlockDone (u : TestUnit) (found : List Mismatch)
  /-- R423. -/
  | remapComplete
  /-- R285: an edge of a clock line of a region; the levels at the bank's pins. -/
  | hedgerowClockEdge (r : Region) (line : Fin 8) (rising : Bool) (pins : BitVec 40)
  /-- R333. -/
  | coreInstruction (k : CoreNo)
  /-- R333. -/
  | mtimecmpReached (k : CoreNo)
  /-- R498; `link` is the rate and width that the link has (0x1020.02). -/
  | configurationRequest (kind : CfgKind) (link : BitVec 9)
  /-- R424. -/
  | upset (loc : UpsetAt)
  deriving DecidableEq, Repr

end Sys2Proof
end

