-- ==== Sys2Proof/Decode.lean ====
section
/-!
DEFINITION. Decoding of a command from a numbered word. The block has no instruction words: no row of
spec/opcode_table.json gives bits, so no word spells a command (assumption log 1). The frames and
packets that carry commands are decoded where they arrive: `FRAME_RECEIVE` and the ring commands.
-/

namespace Sys2Proof

/-- The command that a word spells by the bits of spec/opcode_table.json. No row of the table has
bits, so the answer is `none` for every word. -/
def decodeTableWord (_nbits _w : Nat) : Option Instr := none

end Sys2Proof
end

