-- ==== Sys2Proof/Config.lean ====
section
/-!
DEFINITION. What the manual leaves open: the free values and the functions of outside standards.
Each is a constant without a body, so no proof can lean on a value of it.
-/

namespace Sys2Proof.Config

/-- A free value of `w` bits. The argument names the occurrence: the machine gives every occurrence
an argument of its own, built from the counter `State.freeCtr` (assumption log 3). -/
opaque freeBits : (w : Nat) → Nat → BitVec w

/-- A free choice of a Boolean, in the same form (assumption log 3). -/
opaque freeBool : Nat → Bool

/-- SHA3-256 of FIPS 202 over a byte string, as the 256-bit digest with byte 0 lowest (R399, R406).
The manual cites the standard and does not restate it (assumption log 4). -/
opaque sha3_256 : List Byte → Nat

/-- ML-DSA.Verify of FIPS 204 with an empty context (R408): the parameter set (1 ML-DSA-44, 2 ML-DSA-65),
public key, message and signature (assumption log 4). -/
opaque mlDsaVerify : Nat → List Byte → List Byte → List Byte → Bool

/-- The ML-DSA-44 signature by the device's identity key over a message (R410, assumption log 4). -/
opaque attestSign : List Byte → List Byte

/-- The public part of the identity key, and the ML-DSA-65 signature of a message by the key of slot 0 (R410, assumption
log 4). -/
opaque identityKey : List Byte

@[inherit_doc identityKey] opaque certSign : List Byte → List Byte

/-- The highest row of a bank of a cellar stack, which bounds ROW of a repair record (R143); the manual
does not give it (assumption log 10). -/
opaque cellarTopRow : Nat

/-- The stack bank and row, as SBANK and ROW of a repair record in one number, that hold a cellar word; the
manual gives of a word's place in its stack the pseudo-channel alone (R124, R143, assumption log 85). -/
opaque cellarRow : Nat → Nat

end Sys2Proof.Config
end

