-- ==== Sys2Proof/Machine/Flags.lean ====
section
/-!
DEFINITION. The check codes and the evaluation rules that are functions of bits alone: the check byte
of R35 and R121, the CRCs of the flits, frames and images, parity, and exact evaluation over unknown
inputs (R66).
-/

namespace Sys2Proof.Machine

/-! ## SECDED: R35, R36, R121 -/

/-- Powers of two: the positions that no data bit takes (R35). -/
def isPow2 (n : Nat) : Bool := n != 0 && (n &&& (n - 1)) == 0

/-- The XOR of the positions of the set data bits, bit 0 of `data` standing at the first position from
`pos` on that is not a power of two. Its bit `j` is check bit `j` of R35. -/
def xorPositions : Nat → Nat → Nat → Nat
  | 0, _, _ => 0
  | fuel + 1, pos, data =>
    if isPow2 pos then xorPositions fuel (pos + 1) data
    else (if data % 2 = 1 then pos else 0) ^^^ xorPositions fuel (pos + 1) (data / 2)

/-- The XOR of the low `k` bits of `n`. -/
def parity : Nat → Nat → Bool
  | 0, _ => false
  | k + 1, n => xor (n % 2 == 1) (parity k (n / 2))

/-- The check byte of `k` data bits, the last of which stands at position `last` (R35, R121). -/
def checkByte (k last data : Nat) : Nat :=
  let c := xorPositions (last - 2) 3 data
  c + 128 * b2n (xor (parity k data) (parity 7 c))

/-- What decoding a stored word decides (R36). -/
inductive Decoded where
  | clean (data : Nat)
  | corrected (data : Nat)
  | bad
  deriving DecidableEq, Repr

/-- R36 over a stored word of `k` data bits and its check byte above them. -/
def secdedDecode (k last stored : Nat) : Decoded :=
  let data := stored % 2 ^ k
  let syn := xorPositions (last - 2) 3 data ^^^ bits stored k 7
  let odd := parity (k + 8) stored
  if syn = 0 then (if odd then .corrected data else .clean data)
  else if !odd then .bad
  else if isPow2 syn then .corrected data
  else if syn ≤ last then .corrected (data ^^^ (1 <<< (syn - 2 - Nat.log2 syn)))
  else .bad

/-- Whether decoding corrected an error. -/
def Decoded.isCorrected : Decoded → Bool
  | .corrected _ => true
  | _ => false

/-- The data that decoding delivers, or 0. -/
def Decoded.data : Decoded → Nat
  | .clean d => d
  | .corrected d => d
  | .bad => 0

/-- R35: an instruction word from its 72-bit payload. -/
def makeWord (payload : BitVec 72) : BitVec 80 :=
  BitVec.ofNat 80 (payload.toNat + (checkByte 72 79 payload.toNat) <<< 72)

/-- R36: decoding of a fetched instruction word. -/
def decodeWord (w : BitVec 80) : Decoded := secdedDecode 72 79 w.toNat

/-- R121: decoding of a 72-bit stored word whose error pattern is `e`. The code is linear: a stored
word that holds data `d` under error pattern `e` decodes as `e` does, with `d` added. -/
def decodeError (e : BitVec 72) : Decoded := secdedDecode 64 71 e.toNat

/-- The NOP payload of R55. -/
def nopPayload : BitVec 72 := 0x10

/-- The NOP word of R55. -/
def nopWord : BitVec 80 := makeWord nopPayload

/-! ## CRCs -/

/-- One step of a CRC of width `w` that takes bits most significant first. -/
def crcStep (w poly reg : Nat) (b : Bool) : Nat :=
  let top := reg.testBit (w - 1)
  let sh := (reg * 2) % 2 ^ w
  if xor top b then sh ^^^ poly else sh

/-- A CRC over a bit string, first bit first, without reflection. -/
def crcBits (w poly : Nat) : Nat → List Bool → Nat
  | reg, [] => reg
  | reg, b :: t => crcBits w poly (crcStep w poly reg b) t

/-- The low `k` bits of `n`, most significant first. -/
def msbFirst : Nat → Nat → List Bool
  | 0, _ => []
  | k + 1, n => n.testBit k :: msbFirst k n

/-- The low `k` bits of `n`, least significant first. -/
def lsbFirst : Nat → Nat → List Bool
  | 0, _ => []
  | k + 1, n => (n % 2 == 1) :: lsbFirst k (n / 2)

/-- The low `w` bits of `n` in the opposite order. -/
def reflect (w n : Nat) : Nat := (lsbFirst w n).foldl (fun a b => a * 2 + b2n b) 0

/-- The bits of a byte string, least significant bit of each byte first when `refin`. -/
def byteBits (refin : Bool) : List Byte → List Bool
  | [] => []
  | b :: t => (if refin then lsbFirst 8 b.toNat else msbFirst 8 b.toNat) ++ byteBits refin t

/-- CRC-8 of a G flit (R164): polynomial x^8 + x^2 + x + 1, initial value 0, bit 135 first. -/
def crc8 (flit : Nat) : Nat := crcBits 8 0x07 0 (msbFirst 136 flit)

/-- A CRC with the parameters of R397 and R328: reflection of input and output, initial value and
final XOR. -/
def crcBytes (w poly init : Nat) (refin refout : Bool) (xorOut : Nat) (bs : List Byte) : Nat :=
  let r := crcBits w poly init (byteBits refin bs)
  (if refout then reflect w r else r) ^^^ xorOut

/-- CRC-32C with the parameters of R397. -/
def crc32c (bs : List Byte) : Nat := crcBytes 32 0x1EDC6F41 0xFFFFFFFF true true 0xFFFFFFFF bs

/-! ## Evaluation: R50, R63, R66, R67, R75 -/

/-- A signal on two rails (R63): value and known. A two-state signal is always known. -/
structure Rail where
  v : Bool
  k : Bool
  deriving DecidableEq, Repr

/-- X as the device produces it (R63). -/
def Rail.x : Rail := ⟨false, false⟩

/-- A known value. -/
def Rail.known (b : Bool) : Rail := ⟨b, true⟩

/-- Four operand signals, A lowest (R34). -/
structure Quad4 where
  a : Rail
  b : Rail
  c : Rail
  d : Rail
  deriving DecidableEq, Repr

/-- The value rails as the nibble `[D,C,B,A]`. -/
def Quad4.vNib (q : Quad4) : Nat := b2n q.a.v + 2 * b2n q.b.v + 4 * b2n q.c.v + 8 * b2n q.d.v

/-- The known rails as the nibble `[D,C,B,A]`. -/
def Quad4.kNib (q : Quad4) : Nat := b2n q.a.k + 2 * b2n q.b.k + 4 * b2n q.c.k + 8 * b2n q.d.k

/-- The index values that agree with the known inputs (R66). -/
def cube (v k : Nat) : List Nat := (upFrom 0 16).filter (fun i => (i &&& k) == (v &&& k))

/-- R66: exact evaluation of a truth table over the cube of the unknown inputs. With every input known
it is the table bit of R50. -/
def evalTT (tt : BitVec 16) (v k : Nat) : Rail :=
  let ts := (cube v k).map (fun i => tt.getLsbD i)
  if ts.all (fun b => b) then .known true
  else if ts.all (fun b => !b) then .known false
  else .x

/-- R50, R66: evaluation with D fixed at known 0. -/
def evalTT3 (tt : BitVec 16) (v k : Nat) : Rail := evalTT tt (v % 8) (k % 8 + 8)

/-- R75: the result of a gang over its 16 data bits; `none` for a reserved sub-operation (R52). -/
def gangResult (sub : Nat) (data : BitVec 16) (select : Nat) : Option Bool :=
  match sub with
  | 0 => some (data.getLsbD (select % 16))
  | 1 => some (data == 0xFFFF)
  | 2 => some (data != 0)
  | 3 => some (parity 16 data.toNat)
  | _ => none

end Sys2Proof.Machine
end

