-- ==== Sys2Proof/Machine/Objects.lean ====
section
/-!
DEFINITION. The object table of the dictionary: every object of the object tables of the chapters,
with its sub-indices, sizes, access codes and defaults (R10, R469).
-/

namespace Sys2Proof.Machine

/-- The access codes of R10. -/
inductive Acc where
  | ro
  | rw
  | wo
  | w1c
  | rc
  | ws
  deriving DecidableEq, Repr

/-- Sub-indices `lo` to `hi` of a record: size in bytes (R469), access code (R10) and default. A
default that the spec gives as fused or as the grade stands as 0 here, and the read takes it from the
device's fuses. -/
structure SubRow where
  lo : Nat
  hi : Nat
  size : Nat
  acc : Acc
  dflt : Nat
  deriving DecidableEq, Repr

/-- Objects at indices `base + stride * i` for `i < count`, all with one table of sub-indices. -/
structure Group where
  base : Nat
  stride : Nat
  count : Nat
  subs : List SubRow
  deriving DecidableEq, Repr

/-- 0x1000 (16_lomoc_ring_dictionary_events.md). -/
def subs1000 : List SubRow := [
  ⟨0, 0, 1, .ro, 5⟩, -- Highest sub-index
  ⟨1, 1, 2, .ro, 0x6508⟩, -- Device code
  ⟨2, 2, 1, .ro, 0⟩, -- Stepping
  ⟨3, 3, 1, .ro, 0⟩, -- Speed grade
  ⟨4, 4, 16, .ro, 0⟩, -- Unique identity
  ⟨5, 5, 1, .ro, 0⟩ -- Highest contract level
]

/-- 0x1010 (16_lomoc_ring_dictionary_events.md). -/
def subs1010 : List SubRow := [
  ⟨0, 0, 1, .ro, 0xe⟩, -- Highest sub-index
  ⟨1, 1, 2, .ro, 0⟩, -- Ring address
  ⟨2, 2, 2, .ro, 0⟩, -- Branch low
  ⟨3, 3, 2, .ro, 0⟩, -- Branch high
  ⟨4, 4, 1, .ro, 1⟩, -- Expected alive
  ⟨5, 5, 1, .ro, 2⟩, -- Stile state
  ⟨6, 6, 1, .rw, 1⟩, -- Branch enable
  ⟨7, 7, 4, .wo, 0⟩, -- Stile command
  ⟨8, 8, 4, .rc, 0⟩, -- Frames consumed
  ⟨9, 9, 4, .rc, 0⟩, -- CRC errors
  ⟨0xa, 0xa, 4, .rc, 0⟩, -- Discarded frames
  ⟨0xb, 0xb, 4, .rc, 0⟩, -- Refusals
  ⟨0xc, 0xc, 4, .rc, 0⟩, -- Busy discards
  ⟨0xd, 0xd, 4, .rc, 0⟩, -- Broadcast refusals
  ⟨0xe, 0xe, 8, .ro, 0⟩ -- Last broadcast refusal
]

/-- 0x1020 (17_pins_electrical_reliability.md). -/
def subs1020 : List SubRow := [
  ⟨0, 0, 1, .ro, 5⟩, -- Highest sub-index
  ⟨1, 1, 8, .rw, 0⟩, -- BAR2 window base
  ⟨2, 2, 2, .ro, 0⟩, -- Link status
  ⟨3, 3, 4, .rc, 0⟩, -- Correctable errors
  ⟨4, 4, 4, .rc, 0⟩, -- Uncorrectable errors
  ⟨5, 5, 1, .ro, 0⟩ -- Test port status
]

/-- 0x1100 (14_configuration_and_start.md). -/
def subs1100 : List SubRow := [
  ⟨0, 0, 1, .ro, 7⟩, -- Highest sub-index
  ⟨1, 4, 32, .ro, 0⟩, -- Key slot i digest
  ⟨5, 5, 1, .ro, 1⟩, -- Slot state
  ⟨6, 6, 32, .rw, 0⟩, -- Staged digest
  ⟨7, 7, 1, .wo, 0⟩ -- Key command
]

/-- 0x1110 (14_configuration_and_start.md). -/
def subs1110 : List SubRow := [
  ⟨0, 0, 1, .ro, 3⟩, -- Highest sub-index
  ⟨1, 1, 32, .rw, 0⟩, -- Nonce
  ⟨2, 2, 1, .wo, 0⟩, -- Attest command
  ⟨3, 3, 1, .ro, 0⟩ -- Attest status
]

/-- 0x2000 (16_lomoc_ring_dictionary_events.md). -/
def subs2000 : List SubRow := [
  ⟨0, 0, 1, .ro, 0⟩ -- Device state
]

/-- 0x2001 (16_lomoc_ring_dictionary_events.md). -/
def subs2001 : List SubRow := [
  ⟨0, 0, 1, .ro, 4⟩, -- Highest sub-index
  ⟨1, 1, 1, .wo, 0⟩, -- Device command
  ⟨2, 2, 1, .ro, 0⟩, -- Halt cause
  ⟨3, 3, 1, .ro, 0⟩, -- Previous state
  ⟨4, 4, 4, .rc, 0⟩ -- State changes
]

/-- 0x2100 (15_power_clocks_sleep.md). -/
def subs2100 : List SubRow := [
  ⟨0, 0, 1, .ro, 0xa⟩, -- Highest sub-index
  ⟨1, 1, 1, .ro, 0⟩, -- Power state
  ⟨2, 2, 1, .rw, 3⟩, -- Sleep ceiling
  ⟨3, 3, 1, .rw, 1⟩, -- Sleep enable
  ⟨4, 4, 8, .ro, 0xffffffffffffffff⟩, -- Time to next known event
  ⟨5, 5, 1, .ro, 0xff⟩, -- Next event source
  ⟨6, 6, 1, .wo, 0⟩, -- Standby command
  ⟨7, 7, 1, .ws, 1⟩, -- Auto-wake
  ⟨8, 8, 4, .rw, 0⟩, -- Standby wake time
  ⟨9, 9, 4, .rc, 0⟩, -- Sleeps
  ⟨0xa, 0xa, 1, .ro, 0⟩ -- Wake reason
]

/-- 0x2101 (15_power_clocks_sleep.md). -/
def subs2101 : List SubRow := [
  ⟨0, 0, 1, .ro, 5⟩, -- Highest sub-index
  ⟨1, 1, 1, .ws, 0⟩, -- Slow clock select
  ⟨2, 2, 1, .rw, 0⟩, -- Stroke clock
  ⟨3, 3, 1, .ro, 0⟩, -- Slow clock in use
  ⟨4, 4, 2, .ro, 0⟩, -- PLL lock
  ⟨5, 5, 1, .w1c, 0⟩ -- Reference flags
]

/-- 0x2102 (15_power_clocks_sleep.md). -/
def subs2102 : List SubRow := [
  ⟨0, 0, 1, .ro, 4⟩, -- Highest sub-index
  ⟨1, 4, 8, .rw, 0⟩ -- Wake alarm i
]

/-- 0x2103 (15_power_clocks_sleep.md). -/
def subs2103 : List SubRow := [
  ⟨0, 0, 1, .ro, 4⟩, -- Highest sub-index
  ⟨1, 1, 4, .ro, 0⟩, -- VMAIN
  ⟨2, 2, 2, .ro, 0⟩, -- VSTBY
  ⟨3, 3, 4, .ro, 0⟩, -- Module power
  ⟨4, 4, 8, .ro, 0⟩ -- Energy
]

/-- 0x2110 (15_power_clocks_sleep.md). -/
def subs2110 : List SubRow := [
  ⟨0, 0, 1, .ro, 0x24⟩, -- Highest sub-index
  ⟨1, 0x24, 8, .ro, 0⟩ -- Domain states
]

/-- 0x2111 (15_power_clocks_sleep.md). -/
def subs2111 : List SubRow := [
  ⟨0, 0, 1, .ro, 2⟩, -- Highest sub-index
  ⟨1, 1, 2, .rw, 0⟩, -- Domain
  ⟨2, 2, 1, .wo, 0⟩ -- Domain command
]

/-- 0x2120 (15_power_clocks_sleep.md). -/
def subs2120 : List SubRow := [
  ⟨0, 0, 1, .ro, 0xf⟩, -- Highest sub-index
  ⟨1, 8, 1, .ro, 0⟩, -- Hamlet h temperature
  ⟨9, 9, 1, .ro, 0⟩, -- Green temperature
  ⟨0xa, 0xa, 1, .rw, 0x5f⟩, -- Hamlet threshold
  ⟨0xb, 0xb, 1, .rw, 0x5a⟩, -- Green threshold
  ⟨0xc, 0xc, 1, .ro, 0⟩, -- Thermal level
  ⟨0xd, 0xd, 4, .rc, 0⟩, -- Thermal requests
  ⟨0xe, 0xe, 4, .rc, 0⟩, -- Safety shutdowns
  ⟨0xf, 0xf, 1, .rc, 0x80⟩ -- Peak temperature
]

/-- 0x2121 (15_power_clocks_sleep.md). -/
def subs2121 : List SubRow := [
  ⟨0, 0, 1, .ro, 7⟩, -- Highest sub-index
  ⟨1, 1, 2, .rw, 0x40⟩, -- N_1
  ⟨2, 2, 2, .rw, 0x20⟩, -- N_2
  ⟨3, 3, 2, .rw, 0x10⟩, -- N_3
  ⟨4, 4, 2, .rw, 8⟩, -- N_4
  ⟨5, 5, 2, .rw, 4⟩, -- N_5
  ⟨6, 6, 2, .rw, 2⟩, -- N_6
  ⟨7, 7, 2, .rw, 1⟩ -- N_7
]

/-- 0x2130 (15_power_clocks_sleep.md). -/
def subs2130 : List SubRow := [
  ⟨0, 0, 1, .ro, 3⟩, -- Highest sub-index
  ⟨1, 1, 2, .rw, 0x18⟩, -- Measurement period
  ⟨2, 2, 1, .wo, 0⟩, -- Measure command
  ⟨3, 3, 4, .ro, 0⟩ -- Passes
]

/-- 0x2140+h (15_power_clocks_sleep.md). -/
def subs2140 : List SubRow := [
  ⟨0, 0, 1, .ro, 0x89⟩, -- Highest sub-index
  ⟨1, 0x84, 4, .ro, 0x30000000⟩, -- Physical croft p
  ⟨0x85, 0x85, 4, .ro, 0x30000000⟩, -- Uncore
  ⟨0x86, 0x89, 4, .ro, 0x30000000⟩ -- Port 4h + j
]

/-- 0x2148 (15_power_clocks_sleep.md). -/
def subs2148 : List SubRow := [
  ⟨0, 0, 1, .ro, 1⟩, -- Highest sub-index
  ⟨1, 1, 4, .ro, 0x30000000⟩ -- Green core
]

/-- 0x2200 (13_steeple_time.md). -/
def subs2200 : List SubRow := [
  ⟨0, 0, 1, .ro, 7⟩, -- Highest sub-index
  ⟨1, 1, 1, .ro, 0⟩, -- State
  ⟨2, 2, 8, .ro, 0⟩, -- Time snapshot
  ⟨3, 3, 4, .rw, 0⟩, -- Rate
  ⟨4, 4, 1, .w1c, 0⟩, -- Flags
  ⟨5, 5, 4, .ro, 0⟩, -- Offset
  ⟨6, 6, 4, .ro, 0⟩, -- Path delay
  ⟨7, 7, 1, .ro, 0xff⟩ -- Slave port
]

/-- 0x2201 (13_steeple_time.md). -/
def subs2201 : List SubRow := [
  ⟨0, 0, 1, .ro, 6⟩, -- Highest sub-index
  ⟨1, 1, 1, .rw, 0⟩, -- Domain
  ⟨2, 2, 1, .rw, 0x80⟩, -- Priority 1
  ⟨3, 3, 1, .rw, 0xf8⟩, -- Class
  ⟨4, 4, 1, .rw, 0x80⟩, -- Priority 2
  ⟨5, 5, 2, .rw, 0xc88⟩, -- Intervals
  ⟨6, 6, 4, .rw, 0xffffffff⟩ -- Port enable
]

/-- 0x2202 (13_steeple_time.md). -/
def subs2202 : List SubRow := [
  ⟨0, 0, 1, .ro, 3⟩, -- Highest sub-index
  ⟨1, 1, 4, .rw, 0⟩, -- Epoch wrap
  ⟨2, 2, 8, .rw, 0⟩, -- Epoch base
  ⟨3, 3, 4, .ro, 0⟩ -- Wraps
]

/-- 0x2203 (13_steeple_time.md). -/
def subs2203 : List SubRow := [
  ⟨0, 0, 1, .ro, 2⟩, -- Highest sub-index
  ⟨1, 1, 8, .ro, 0⟩, -- Last committed rota
  ⟨2, 2, 8, .ro, 0⟩ -- Commit stamp
]

/-- 0x2210+i (13_steeple_time.md). -/
def subs2210 : List SubRow := [
  ⟨0, 0, 1, .ro, 6⟩, -- Highest sub-index
  ⟨1, 1, 1, .rw, 0⟩, -- Mode
  ⟨2, 2, 4, .rw, 0⟩, -- Start
  ⟨3, 3, 4, .rw, 0x3e8⟩, -- Period
  ⟨4, 4, 4, .rw, 0x64⟩, -- Width
  ⟨5, 5, 1, .wo, 0⟩, -- Command
  ⟨6, 6, 1, .ro, 0⟩ -- Status
]

/-- 0x2220+i (13_steeple_time.md). -/
def subs2220 : List SubRow := [
  ⟨0, 0, 1, .ro, 6⟩, -- Highest sub-index
  ⟨1, 1, 1, .rw, 0⟩, -- Edge mode
  ⟨2, 2, 8, .ro, 0⟩, -- Head time
  ⟨3, 3, 8, .ro, 0⟩, -- Head stroke count
  ⟨4, 4, 8, .ro, 0⟩, -- Head rota
  ⟨5, 5, 1, .wo, 0⟩, -- Pop
  ⟨6, 6, 4, .ro, 0⟩ -- Fill and overflow
]

/-- 0x2240+p (13_steeple_time.md). -/
def subs2240 : List SubRow := [
  ⟨0, 0, 1, .ro, 3⟩, -- Highest sub-index
  ⟨1, 1, 4, .rw, 0⟩, -- Asymmetry
  ⟨2, 2, 1, .ro, 0⟩, -- Role
  ⟨3, 3, 4, .rc, 0⟩ -- Discarded messages
]

/-- 0x2300 (14_configuration_and_start.md). -/
def subs2300 : List SubRow := [
  ⟨0, 0, 1, .ro, 9⟩, -- Highest sub-index
  ⟨1, 1, 1, .ro, 0⟩, -- Store state
  ⟨2, 2, 1, .ro, 0xff⟩, -- Fault area
  ⟨3, 3, 1, .ro, 0⟩, -- Fault statuses
  ⟨4, 4, 4, .rw, 0x15180⟩, -- Patrol period
  ⟨5, 5, 4, .rc, 0⟩, -- Patrol errors
  ⟨6, 6, 1, .wo, 0⟩, -- Restart command
  ⟨7, 7, 1, .ro, 0⟩, -- Skim coat applied
  ⟨8, 8, 1, .w1c, 0⟩, -- Flags
  ⟨9, 9, 4, .rc, 0⟩ -- Defaults skipped
]

/-- 0x2301 (14_configuration_and_start.md). -/
def subs2301 : List SubRow := [
  ⟨0, 0, 1, .ro, 0x23⟩, -- Highest sub-index
  ⟨1, 0x23, 8, .ro, 0⟩ -- Area a
]

/-- 0x2302 (14_configuration_and_start.md). -/
def subs2302 : List SubRow := [
  ⟨0, 0, 1, .ro, 5⟩, -- Highest sub-index
  ⟨1, 1, 1, .rw, 0⟩, -- Area
  ⟨2, 2, 4, .rw, 0⟩, -- Image length
  ⟨3, 3, 1, .wo, 0⟩, -- Command
  ⟨4, 4, 1, .ro, 0⟩, -- Status
  ⟨5, 5, 1, .ro, 0⟩ -- Result
]

/-- 0x2304 (14_configuration_and_start.md). -/
def subs2304 : List SubRow := [
  ⟨0, 0, 1, .ro, 7⟩, -- Highest sub-index
  ⟨1, 1, 8, .rw, 0⟩, -- Staging base
  ⟨2, 2, 8, .rw, 0⟩, -- Staged length
  ⟨3, 3, 1, .wo, 0⟩, -- Load command
  ⟨4, 4, 4, .rw, 0⟩, -- Bind block length
  ⟨5, 5, 1, .rw, 0⟩, -- ALLSET host hold
  ⟨6, 6, 2, .ro, 1⟩, -- Release conditions
  ⟨7, 7, 1, .ro, 0⟩ -- ALLSET status
]

/-- 0x2306 (14_configuration_and_start.md). -/
def subs2306 : List SubRow := [
  ⟨0, 0, 1, .ro, 6⟩, -- Highest sub-index
  ⟨1, 1, 4, .rw, 0x64⟩, -- Instruction scrub period
  ⟨2, 2, 4, .rw, 0x64⟩, -- Hedgerow scrub period
  ⟨3, 3, 4, .rc, 0⟩, -- Cared corrected
  ⟨4, 4, 4, .rc, 0⟩, -- Cared uncorrectable
  ⟨5, 5, 4, .rc, 0⟩, -- Uncared repaired
  ⟨6, 6, 8, .ro, 0⟩ -- Last cared location
]

/-- 0x2307 (14_configuration_and_start.md). -/
def subs2307 : List SubRow := [
  ⟨0, 0, 1, .ro, 4⟩, -- Highest sub-index
  ⟨1, 1, 2, .rw, 0⟩, -- Remap croft
  ⟨2, 2, 1, .rw, 0⟩, -- Remap target
  ⟨3, 3, 1, .wo, 0⟩, -- Remap command
  ⟨4, 4, 1, .ro, 0⟩ -- Remap status
]

/-- 0x2380 (08_stencil_contract.md). -/
def subs2380 : List SubRow := [
  ⟨0, 0, 1, .ro, 8⟩, -- Highest sub-index
  ⟨1, 1, 1, .ro, 0⟩, -- Loader status
  ⟨2, 2, 2, .ro, 0⟩, -- Reject code
  ⟨3, 3, 2, .ro, 0xffff⟩, -- Section
  ⟨4, 4, 8, .ro, 0⟩, -- Location
  ⟨5, 5, 1, .ro, 0⟩, -- Image kind
  ⟨6, 6, 1, .ro, 0⟩, -- Contract level
  ⟨7, 7, 32, .ro, 0⟩, -- Bind digest
  ⟨8, 8, 8, .ro, 0⟩ -- System identity
]

/-- 0x2400 (03_croft_and_rota.md). -/
def subs2400 : List SubRow := [
  ⟨0, 0, 1, .ro, 7⟩, -- Highest sub-index
  ⟨1, 1, 2, .ro, 0⟩, -- Rota length
  ⟨2, 2, 1, .ro, 0⟩, -- Commit lag
  ⟨3, 3, 8, .ro, 0⟩, -- Executing rota
  ⟨4, 4, 8, .ro, 0⟩, -- Committed rotas
  ⟨5, 5, 4, .rc, 0⟩, -- Replays
  ⟨6, 6, 8, .ro, 0⟩, -- Fallow strokes
  ⟨7, 7, 2, .rc, 0⟩ -- Write-buffer peak
]

/-- 0x2401 (07_system_lockstep.md). -/
def subs2401 : List SubRow := [
  ⟨0, 0, 1, .ro, 0xb⟩, -- Highest sub-index
  ⟨1, 1, 2, .ro, 0⟩, -- Report lag
  ⟨2, 2, 2, .ro, 0⟩, -- Holding stroke
  ⟨3, 3, 1, .ro, 0⟩, -- Tree role
  ⟨4, 4, 8, .ro, 0⟩, -- Last verdict
  ⟨5, 5, 1, .wo, 0⟩, -- Stop command
  ⟨6, 6, 1, .wo, 0⟩, -- Pause command
  ⟨7, 7, 2, .ro, 0⟩, -- Consecutive fouls
  ⟨8, 8, 2, .rw, 0xff⟩, -- Replay limit
  ⟨9, 9, 8, .ro, 0xffffffffffffffff⟩, -- Bell-lost rota
  ⟨0xa, 0xa, 1, .wo, 0⟩, -- Verdict repair
  ⟨0xb, 0xb, 4, .rc, 0⟩ -- Invalid messages
]

/-- 0x2402 (07_system_lockstep.md). -/
def subs2402 : List SubRow := [
  ⟨0, 0, 1, .ro, 6⟩, -- Highest sub-index
  ⟨1, 1, 4, .ro, 0x40⟩, -- Replay fallow F_R
  ⟨2, 2, 4, .ro, 0x8c0⟩, -- Refresh fallow F_F
  ⟨3, 3, 4, .ro, 0x400⟩, -- Thermal fallow F_T
  ⟨4, 4, 4, .ro, 0x400⟩, -- Pause fallow F_P
  ⟨5, 5, 4, .ro, 0x200⟩, -- Lane-swap fallow
  ⟨6, 6, 4, .rc, 0⟩ -- Planned fallows
]

/-- 0x2403 (07_system_lockstep.md). -/
def subs2403 : List SubRow := [
  ⟨0, 0, 1, .ro, 7⟩, -- Highest sub-index
  ⟨1, 1, 4, .rw, 0⟩, -- Alignment time
  ⟨2, 2, 1, .wo, 0⟩, -- Alignment command
  ⟨3, 3, 1, .ro, 0⟩, -- Alignment status
  ⟨4, 4, 8, .rw, 0⟩, -- Start count
  ⟨5, 5, 1, .wo, 0⟩, -- Start command
  ⟨6, 6, 1, .ro, 0⟩, -- Start status
  ⟨7, 7, 8, .ro, 0⟩ -- System stroke count
]

/-- 0x2410 (08_stencil_contract.md). -/
def subs2410 : List SubRow := [
  ⟨0, 0, 1, .ro, 0x14⟩, -- Highest sub-index
  ⟨1, 1, 1, .rw, 1⟩, -- Hazard action
  ⟨2, 2, 2, .rw, 0x7fe⟩, -- Kind mask
  ⟨3, 3, 4, .rc, 0⟩, -- Hazards
  ⟨4, 4, 4, .rc, 0⟩, -- Record count
  ⟨5, 0x14, 8, .ro, 0⟩ -- Hazard records
]

/-- 0x2420+p (07_system_lockstep.md). -/
def subs2420 : List SubRow := [
  ⟨0, 0, 1, .ro, 3⟩, -- Highest sub-index
  ⟨1, 1, 1, .ro, 0⟩, -- Bell role
  ⟨2, 2, 2, .ro, 0⟩, -- Up stroke
  ⟨3, 3, 2, .ro, 0⟩ -- Down stroke
]

/-- Hb+0x10 (02_boolean_processor.md). -/
def subs3010 : List SubRow := [
  ⟨0, 0, 1, .ro, 3⟩, -- Highest sub-index
  ⟨1, 1, 4, .rc, 0⟩, -- Correctable fetches
  ⟨2, 2, 4, .rc, 0⟩, -- Uncorrectable fetches
  ⟨3, 3, 4, .ro, 0⟩ -- Last uncorrectable fetch
]

/-- Hb+0x20 (04_design_memories.md). -/
def subs3020 : List SubRow := [
  ⟨0, 0, 1, .ro, 0x80⟩, -- Highest sub-index
  ⟨1, 0x80, 1, .rw, 0⟩ -- Larder bank mode
]

/-- Hb+0x21 (04_design_memories.md). -/
def subs3021 : List SubRow := [
  ⟨0, 0, 1, .ro, 0x80⟩, -- Highest sub-index
  ⟨1, 0x80, 4, .rc, 0⟩ -- Larder write collisions
]

/-- Hb+0x22 (04_design_memories.md). -/
def subs3022 : List SubRow := [
  ⟨0, 0, 1, .ro, 0x80⟩, -- Highest sub-index
  ⟨1, 0x80, 4, .rc, 0⟩ -- Larder bank conflicts
]

/-- Hb+0x23 (04_design_memories.md). -/
def subs3023 : List SubRow := [
  ⟨0, 0, 1, .ro, 0x80⟩, -- Highest sub-index
  ⟨1, 0x80, 4, .rc, 0⟩ -- Larder corrected errors
]

/-- Hb+0x24 (04_design_memories.md). -/
def subs3024 : List SubRow := [
  ⟨0, 0, 1, .ro, 0x80⟩, -- Highest sub-index
  ⟨1, 0x80, 4, .rc, 0⟩ -- Larder uncorrectable errors
]

/-- Hb+0x25 (04_design_memories.md). -/
def subs3025 : List SubRow := [
  ⟨0, 0, 1, .ro, 0x80⟩, -- Highest sub-index
  ⟨1, 0x80, 4, .rc, 0⟩ -- Non-BP timeouts
]

/-- Hb+0x26 (04_design_memories.md). -/
def subs3026 : List SubRow := [
  ⟨0, 0, 1, .ro, 1⟩, -- Highest sub-index
  ⟨1, 1, 4, .rw, 0x3e8⟩ -- Larder scrub interval
]

/-- Hb+0x27 (04_design_memories.md). -/
def subs3027 : List SubRow := [
  ⟨0, 0, 1, .ro, 4⟩, -- Highest sub-index
  ⟨1, 1, 2, .rw, 0⟩, -- Test target
  ⟨2, 2, 1, .wo, 0⟩, -- Test command
  ⟨3, 3, 1, .ro, 0⟩, -- Test status
  ⟨4, 4, 8, .rc, 0⟩ -- Test result
]

/-- 0x3000+h×0x100+0x80+c (03_croft_and_rota.md). -/
def subs3080 : List SubRow := [
  ⟨0, 0, 1, .ro, 7⟩, -- Highest sub-index
  ⟨1, 1, 1, .ro, 0⟩, -- Croft mode
  ⟨2, 2, 1, .ro, 0⟩, -- Sheet state
  ⟨3, 3, 1, .wo, 0⟩, -- Sheet command
  ⟨4, 4, 8, .ro, 0⟩, -- Sheet rota
  ⟨5, 5, 2, .rc, 0⟩, -- Write-buffer peak
  ⟨6, 6, 4, .rc, 0⟩, -- X-address write counter
  ⟨7, 7, 4, .rc, 0⟩ -- Replayed rotas
]

/-- 0x38n0 (04_design_memories.md). -/
def subs3800 : List SubRow := [
  ⟨0, 0, 1, .ro, 0xb⟩, -- Highest sub-index
  ⟨1, 1, 1, .ro, 0⟩, -- Cellar state
  ⟨2, 2, 1, .ro, 0⟩, -- Temperature
  ⟨3, 3, 1, .ro, 0⟩, -- Refresh band
  ⟨4, 4, 4, .rc, 0⟩, -- Refresh fallows
  ⟨5, 5, 4, .rc, 0⟩, -- Corrected errors
  ⟨6, 6, 4, .rc, 0⟩, -- Uncorrectable errors
  ⟨7, 7, 4, .rc, 0⟩, -- Write collisions
  ⟨8, 8, 4, .rc, 0⟩, -- Refused requests
  ⟨9, 9, 2, .rc, 0⟩, -- Pending-store peak
  ⟨0xa, 0xa, 1, .ro, 0⟩, -- Soft repairs applied
  ⟨0xb, 0xb, 4, .rc, 0⟩ -- X-address requests
]

/-- 0x3880 (04_design_memories.md). -/
def subs3880 : List SubRow := [
  ⟨0, 0, 1, .ro, 1⟩, -- Highest sub-index
  ⟨1, 1, 8, .wo, 0⟩ -- Apply repair record
]

/-- Pb (06_franel_links.md). -/
def subs4000 : List SubRow := [
  ⟨0, 0, 1, .ro, 0xc⟩, -- Highest sub-index
  ⟨1, 1, 1, .ro, 0⟩, -- Configured mode
  ⟨2, 2, 1, .ro, 0⟩, -- Port state
  ⟨3, 3, 1, .wo, 0⟩, -- Port command
  ⟨4, 4, 1, .rw, 0⟩, -- Swap lane
  ⟨5, 5, 4, .ro, 0x1fac688⟩, -- Lane map
  ⟨6, 6, 1, .ro, 0⟩, -- Receive spare state
  ⟨7, 7, 8, .ro, 0⟩, -- Partner identity
  ⟨8, 8, 1, .ro, 0⟩, -- Partner transmit pace
  ⟨9, 9, 1, .ro, 0⟩, -- Board ID
  ⟨0xa, 0xa, 4, .ro, 0⟩, -- Good frames
  ⟨0xb, 0xb, 4, .rc, 0⟩, -- Swaps
  ⟨0xc, 0xc, 1, .ro, 0⟩ -- Swapped-out lanes
]

/-- Pb+0x1 (06_franel_links.md). -/
def subs4001 : List SubRow := [
  ⟨0, 0, 1, .ro, 6⟩, -- Highest sub-index
  ⟨1, 1, 1, .ro, 0⟩, -- Receive pace
  ⟨2, 2, 1, .ro, 0⟩, -- Transmit pace
  ⟨3, 3, 2, .ro, 0xffff⟩, -- Measured minimum pace
  ⟨4, 4, 2, .rc, 0x7fff⟩, -- Minimum slack
  ⟨5, 5, 4, .rc, 0⟩, -- Late groups
  ⟨6, 6, 1, .wo, 0⟩ -- Measure command
]

/-- Pb+0x2 (06_franel_links.md). -/
def subs4002 : List SubRow := [
  ⟨0, 0, 1, .ro, 7⟩, -- Highest sub-index
  ⟨1, 1, 8, .ro, 0⟩, -- Frames received
  ⟨2, 2, 4, .rc, 0⟩, -- CRC errors
  ⟨3, 3, 4, .rc, 0⟩, -- Foul reports
  ⟨4, 4, 4, .rc, 0⟩, -- Protocol errors
  ⟨5, 5, 4, .rc, 0⟩, -- Lane losses
  ⟨6, 6, 4, .rc, 0⟩, -- Discarded messages
  ⟨7, 7, 1, .ro, 0⟩ -- Skew
]

/-- Pb+0x3 (06_franel_links.md). -/
def subs4003 : List SubRow := [
  ⟨0, 0, 1, .ro, 4⟩, -- Highest sub-index
  ⟨1, 1, 1, .rw, 0⟩, -- Table select
  ⟨2, 2, 1, .rw, 0⟩, -- Table bank
  ⟨3, 3, 2, .rw, 0⟩, -- Table entry
  ⟨4, 4, 4, .rw, 0⟩ -- Entry data
]

/-- Pb+0x8+l (06_franel_links.md). -/
def subs4008 : List SubRow := [
  ⟨0, 0, 1, .ro, 0xd⟩, -- Highest sub-index
  ⟨1, 1, 1, .ro, 0⟩, -- Lane state
  ⟨2, 2, 1, .ro, 0xff⟩, -- Logical role
  ⟨3, 3, 1, .rw, 0⟩, -- Test mode
  ⟨4, 4, 1, .ro, 0⟩, -- Checker state
  ⟨5, 5, 8, .rc, 0⟩, -- PRBS bits checked
  ⟨6, 6, 4, .rc, 0⟩, -- PRBS errors
  ⟨7, 7, 1, .wo, 0⟩, -- Inject command
  ⟨8, 8, 4, .rw, 0xf4240⟩, -- Inject interval
  ⟨9, 9, 2, .rw, 0⟩, -- Inject position
  ⟨0xa, 0xa, 4, .rc, 0⟩, -- CRC errors
  ⟨0xb, 0xb, 4, .rc, 0⟩, -- Scrim violations
  ⟨0xc, 0xc, 2, .rc, 0⟩, -- Wander peak
  ⟨0xd, 0xd, 8, .ro, 0⟩ -- Equalisation entry
]

/-- 0x4800 (05_on_package_network.md). -/
def subs4800 : List SubRow := [
  ⟨0, 0, 1, .ro, 6⟩, -- Highest sub-index
  ⟨1, 1, 4, .rc, 0⟩, -- G check errors
  ⟨2, 2, 4, .rc, 0⟩, -- Packet check errors
  ⟨3, 3, 4, .rc, 0⟩, -- Discarded codes
  ⟨4, 4, 4, .rw, 0x10000⟩, -- Transaction timeout
  ⟨5, 5, 4, .rc, 0⟩, -- Shutter responses
  ⟨6, 6, 4, .rc, 0⟩ -- Revocations
]

/-- 0x4801 (05_on_package_network.md). -/
def subs4801 : List SubRow := [
  ⟨0, 0, 1, .ro, 6⟩, -- Highest sub-index
  ⟨1, 1, 1, .ro, 0⟩, -- Active bank
  ⟨2, 2, 1, .ro, 0⟩, -- Swap state
  ⟨3, 3, 8, .rw, 0⟩, -- Swap rota
  ⟨4, 4, 2, .rw, 0⟩, -- Swap croft
  ⟨5, 5, 1, .wo, 0⟩, -- Swap command
  ⟨6, 6, 8, .ro, 0⟩ -- Old-bank release rota
]

/-- 0x4802 (05_on_package_network.md). -/
def subs4802 : List SubRow := [
  ⟨0, 0, 1, .ro, 0x11⟩, -- Highest sub-index
  ⟨1, 1, 4, .rc, 0⟩, -- Record count
  ⟨2, 0x11, 8, .ro, 0⟩ -- Revocation records
]

/-- 0x4803 (05_on_package_network.md). -/
def subs4803 : List SubRow := [
  ⟨0, 0, 1, .ro, 5⟩, -- Highest sub-index
  ⟨1, 1, 2, .rw, 0⟩, -- T initiator
  ⟨2, 2, 2, .rw, 0⟩, -- T target node
  ⟨3, 3, 1, .rw, 0⟩, -- T budget
  ⟨4, 4, 1, .wo, 0⟩, -- T command
  ⟨5, 5, 1, .ro, 0⟩ -- T status
]

/-- 0x4804 (05_on_package_network.md). -/
def subs4804 : List SubRow := [
  ⟨0, 0, 1, .ro, 4⟩, -- Highest sub-index
  ⟨1, 1, 2, .rw, 0⟩, -- Shutter endpoint
  ⟨2, 2, 1, .wo, 0⟩, -- Shutter command
  ⟨3, 3, 1, .ro, 0⟩, -- Shutter state
  ⟨4, 4, 4, .rc, 0⟩ -- Drain overruns
]

/-- 0x4805 (05_on_package_network.md). -/
def subs4805 : List SubRow := [
  ⟨0, 0, 1, .ro, 6⟩, -- Highest sub-index
  ⟨1, 1, 2, .rw, 0⟩, -- Table node
  ⟨2, 2, 1, .rw, 0⟩, -- Table select
  ⟨3, 3, 1, .rw, 0⟩, -- Table bank
  ⟨4, 4, 2, .rw, 0⟩, -- Table entry
  ⟨5, 5, 8, .rw, 0⟩, -- Entry data, low
  ⟨6, 6, 1, .rw, 0⟩ -- Entry data, high
]

/-- 0x4880+i (05_on_package_network.md). -/
def subs4880 : List SubRow := [
  ⟨0, 0, 1, .ro, 0x18⟩, -- Highest sub-index
  ⟨1, 1, 8, .ro, 0⟩, -- Transactions
  ⟨2, 2, 8, .ro, 0⟩, -- Bytes
  ⟨3, 3, 4, .ro, 0xffffffff⟩, -- Minimum latency
  ⟨4, 4, 4, .ro, 0⟩, -- Maximum latency
  ⟨5, 5, 8, .ro, 0⟩, -- Latency sum
  ⟨6, 6, 8, .ro, 0⟩, -- Grant wait sum
  ⟨7, 7, 4, .ro, 0⟩, -- Error answers
  ⟨8, 0x17, 4, .ro, 0⟩, -- Histogram bins 0–15
  ⟨0x18, 0x18, 1, .wo, 0⟩ -- Control
]

/-- 0x5000 (09_hedgerow_and_io_banks.md). -/
def subs5000 : List SubRow := [
  ⟨0, 0, 1, .ro, 3⟩, -- Highest sub-index
  ⟨1, 1, 4, .rc, 0⟩, -- Contentions
  ⟨2, 2, 4, .ro, 0⟩, -- Last contention
  ⟨3, 3, 2, .wo, 0⟩ -- Re-enable line
]

/-- 0x5001 (09_hedgerow_and_io_banks.md). -/
def subs5001 : List SubRow := [
  ⟨0, 0, 1, .ro, 5⟩, -- Highest sub-index
  ⟨1, 4, 4, .rw, 0⟩, -- PLL j settings
  ⟨5, 5, 1, .ro, 0⟩ -- PLL lock
]

/-- 0x5010+r (09_hedgerow_and_io_banks.md). -/
def subs5010 : List SubRow := [
  ⟨0, 0, 1, .ro, 3⟩, -- Highest sub-index
  ⟨1, 1, 1, .ro, 0⟩, -- Sheet state
  ⟨2, 2, 1, .wo, 0⟩, -- Sheet command
  ⟨3, 3, 8, .ro, 0⟩ -- Sheet rota
]

/-- 0x5020+b (09_hedgerow_and_io_banks.md). -/
def subs5020 : List SubRow := [
  ⟨0, 0, 1, .ro, 5⟩, -- Highest sub-index
  ⟨1, 1, 1, .ro, 0⟩, -- Bank state
  ⟨2, 2, 2, .ro, 0⟩, -- VIO measured
  ⟨3, 3, 2, .ro, 0⟩, -- VIO declared
  ⟨4, 4, 8, .ro, 0⟩, -- Pin inputs
  ⟨5, 5, 4, .rc, 0⟩ -- Supply faults
]

/-- 0x5040+r (09_hedgerow_and_io_banks.md). -/
def subs5040 : List SubRow := [
  ⟨0, 0, 1, .ro, 0x40⟩, -- Highest sub-index
  ⟨1, 0x40, 2, .rw, 0x3000⟩ -- Peephole channel k
]

/-- 0x5080+i (09_hedgerow_and_io_banks.md). -/
def subs5080 : List SubRow := [
  ⟨0, 0, 1, .ro, 5⟩, -- Highest sub-index
  ⟨1, 1, 1, .ro, 0xff⟩, -- Owner
  ⟨2, 2, 1, .ro, 0⟩, -- Receive mode
  ⟨3, 3, 4, .rc, 0⟩, -- Logged hand-offs
  ⟨4, 4, 4, .rc, 0⟩, -- Discarded receives
  ⟨5, 5, 4, .rc, 0⟩ -- Packet errors
]

/-- 0x5100+t (10_troughs_and_tallies.md). -/
def subs5100 : List SubRow := [
  ⟨0, 0, 1, .ro, 0xd⟩, -- Highest sub-index
  ⟨1, 1, 1, .ro, 0⟩, -- Direction
  ⟨2, 2, 1, .ro, 0⟩, -- Flags
  ⟨3, 3, 2, .rw, 0⟩, -- Threshold
  ⟨4, 4, 8, .rw, 0⟩, -- Idle item
  ⟨5, 5, 2, .ro, 0⟩, -- Far-side position
  ⟨6, 6, 2, .ro, 0⟩, -- Committed design position
  ⟨7, 7, 2, .ro, 0⟩, -- Pending design position
  ⟨8, 8, 1, .wo, 0⟩, -- Command
  ⟨9, 9, 4, .rc, 0⟩, -- Underruns
  ⟨0xa, 0xa, 4, .rc, 0⟩, -- Overflows
  ⟨0xb, 0xb, 4, .rc, 0⟩, -- Rejected packets
  ⟨0xc, 0xc, 4, .rc, 0⟩, -- Dropped items
  ⟨0xd, 0xd, 4, .rc, 0⟩ -- Protocol
]

/-- 0x5200+n (10_troughs_and_tallies.md). -/
def subs5200 : List SubRow := [
  ⟨0, 0, 1, .ro, 0xc⟩, -- Highest sub-index
  ⟨1, 1, 1, .rw, 0x20⟩, -- Width
  ⟨2, 2, 8, .rw, 0x1edc6f41⟩, -- Polynomial
  ⟨3, 3, 8, .rw, 0xffffffff⟩, -- Initial value
  ⟨4, 4, 1, .rw, 3⟩, -- Flags
  ⟨5, 5, 8, .rw, 0xffffffff⟩, -- Final XOR
  ⟨6, 6, 2, .rw, 0⟩, -- Source
  ⟨7, 7, 8, .rw, 0xffffffff⟩, -- Running value
  ⟨8, 8, 8, .ro, 0⟩, -- Result
  ⟨9, 9, 4, .rw, 0⟩, -- Alive counter
  ⟨0xa, 0xa, 1, .wo, 0⟩, -- Restart
  ⟨0xb, 0xb, 4, .rc, 0⟩, -- Mismatches
  ⟨0xc, 0xc, 8, .ro, 0⟩ -- Bytes fed
]

/-- 0x5300 (11_verger_and_service_cores.md). -/
def subs5300 : List SubRow := [
  ⟨0, 0, 1, .ro, 9⟩, -- Highest sub-index
  ⟨1, 1, 2, .ro, 0⟩, -- Ready tasks
  ⟨2, 2, 1, .ro, 0⟩, -- Running tasks
  ⟨3, 3, 2, .ro, 0⟩, -- Queue depth
  ⟨4, 4, 2, .rc, 0⟩, -- Queue peak
  ⟨5, 5, 4, .rc, 0⟩, -- Command errors
  ⟨6, 6, 4, .rc, 0⟩, -- Stray signals
  ⟨7, 7, 4, .rc, 0⟩, -- Underflows
  ⟨8, 8, 4, .rw, 0x2ee0⟩, -- Pre-empt deadline
  ⟨9, 9, 4, .rc, 0⟩ -- Pre-empt overruns
]

/-- 0x5301 (11_verger_and_service_cores.md). -/
def subs5301 : List SubRow := [
  ⟨0, 0, 1, .ro, 8⟩, -- Highest sub-index
  ⟨1, 4, 1, .rw, 0⟩, -- Tick source, list j
  ⟨5, 8, 8, .ro, 0xffffffffffffffff⟩ -- Head wake, list j
]

/-- 0x5310+k (11_verger_and_service_cores.md). -/
def subs5310 : List SubRow := [
  ⟨0, 0, 1, .ro, 7⟩, -- Highest sub-index
  ⟨1, 1, 1, .ro, 0⟩, -- Core state
  ⟨2, 2, 2, .ro, 0xffff⟩, -- Running task
  ⟨3, 3, 1, .w1c, 0⟩, -- Interrupt cause
  ⟨4, 4, 4, .rc, 0⟩, -- Tasks completed
  ⟨5, 5, 8, .ro, 0⟩, -- Busy cycles
  ⟨6, 6, 1, .wo, 0⟩, -- Cache command
  ⟨7, 7, 1, .wo, 0⟩ -- Reset command
]

/-- 0x5320 (11_verger_and_service_cores.md). -/
def subs5320 : List SubRow := [
  ⟨0, 0, 1, .ro, 7⟩, -- Highest sub-index
  ⟨1, 1, 4, .rc, 0⟩, -- Corrected errors
  ⟨2, 2, 4, .rc, 0⟩, -- Uncorrectable errors
  ⟨3, 3, 4, .rw, 0x3e8⟩, -- Scrub interval
  ⟨4, 4, 1, .rw, 0⟩, -- Test target
  ⟨5, 5, 1, .wo, 0⟩, -- Test command
  ⟨6, 6, 1, .ro, 0⟩, -- Test status
  ⟨7, 7, 8, .rc, 0⟩ -- Test result
]

/-- Wb (12_watch_acquisition.md). -/
def subs5400 : List SubRow := [
  ⟨0, 0, 1, .ro, 0xe⟩, -- Highest sub-index
  ⟨1, 1, 1, .wo, 0⟩, -- Command
  ⟨2, 2, 1, .ro, 0⟩, -- Unit state
  ⟨3, 3, 1, .ro, 0⟩, -- Flags
  ⟨4, 4, 4, .ro, 0⟩, -- Depth
  ⟨5, 5, 4, .ro, 0⟩, -- Last index
  ⟨6, 6, 4, .ro, 0⟩, -- Trigger index
  ⟨7, 7, 4, .ro, 0⟩, -- Post stored
  ⟨8, 8, 8, .ro, 0⟩, -- Trigger count
  ⟨9, 9, 8, .ro, 0⟩, -- Trigger rota
  ⟨0xa, 0xa, 1, .ro, 0xff⟩, -- Trigger owner
  ⟨0xb, 0xb, 2, .ro, 0⟩, -- Coincidence mask
  ⟨0xc, 0xc, 1, .ro, 0⟩, -- Sequencer state
  ⟨0xd, 0xd, 4, .rc, 0⟩, -- Dropped samples
  ⟨0xe, 0xe, 2, .ro, 0⟩ -- Decode log next
]

/-- Wb+0x1 (12_watch_acquisition.md). -/
def subs5401 : List SubRow := [
  ⟨0, 0, 1, .ro, 6⟩, -- Highest sub-index
  ⟨1, 1, 1, .rw, 3⟩, -- Width code
  ⟨2, 2, 4, .rw, 0⟩, -- Post-trigger count
  ⟨3, 3, 1, .rw, 0⟩, -- Store mode
  ⟨4, 4, 1, .rw, 0⟩, -- Scope
  ⟨5, 5, 8, .rw, 0⟩, -- Spill base
  ⟨6, 6, 8, .rw, 0⟩ -- Spill size
]

/-- Wb+0x2 (12_watch_acquisition.md). -/
def subs5402 : List SubRow := [
  ⟨0, 0, 1, .ro, 0x10⟩, -- Highest sub-index
  ⟨1, 0x10, 8, .rw, 0⟩ -- Sequencer state i
]

/-- Wb+0x3 (12_watch_acquisition.md). -/
def subs5403 : List SubRow := [
  ⟨0, 0, 1, .ro, 0x10⟩, -- Highest sub-index
  ⟨1, 0x10, 8, .rw, 0⟩ -- Condition i
]

/-- Wb+0x4 (12_watch_acquisition.md). -/
def subs5404 : List SubRow := [
  ⟨0, 0, 1, .ro, 0x10⟩, -- Highest sub-index
  ⟨1, 0x10, 8, .rw, 0⟩ -- Condition bounds i
]

/-- Wb+0x5 (12_watch_acquisition.md). -/
def subs5405 : List SubRow := [
  ⟨0, 0, 1, .ro, 8⟩, -- Highest sub-index
  ⟨1, 8, 8, .rw, 0⟩ -- Decoder d
]

/-- Wb+0x6 (12_watch_acquisition.md). -/
def subs5406 : List SubRow := [
  ⟨0, 0, 1, .ro, 8⟩, -- Highest sub-index
  ⟨1, 1, 1, .rw, 0⟩, -- Processing mode
  ⟨2, 2, 1, .rw, 0⟩, -- Mask stop
  ⟨3, 3, 4, .rc, 0⟩, -- Violations
  ⟨4, 4, 8, .ro, 0⟩, -- First violation
  ⟨5, 5, 8, .ro, 0⟩, -- First violation bits
  ⟨6, 6, 2, .rw, 0⟩, -- Histogram field
  ⟨7, 7, 1, .rw, 0⟩, -- Histogram condition
  ⟨8, 8, 8, .ro, 0⟩ -- Rotas accumulated
]

/-- 0x6000 (16_lomoc_ring_dictionary_events.md). -/
def subs6000 : List SubRow := [
  ⟨0, 0, 1, .ro, 0x35⟩, -- Highest sub-index
  ⟨1, 0x10, 4, .rw, 0x1e⟩, -- Source 16i + j configuration
  ⟨0x11, 0x11, 2, .w1c, 0⟩, -- Pending
  ⟨0x12, 0x12, 2, .w1c, 0⟩, -- Missed
  ⟨0x13, 0x22, 2, .w1c, 0⟩, -- Cause latch of 16i + j
  ⟨0x23, 0x23, 2, .wo, 0⟩, -- Software raise
  ⟨0x24, 0x33, 2, .ro, 0xffff⟩, -- Top pending, core k
  ⟨0x34, 0x34, 4, .rw, 0x3e8⟩, -- Notify interval
  ⟨0x35, 0x35, 1, .ro, 0⟩ -- EVT pin state
]

/-- 0x6000+i (16_lomoc_ring_dictionary_events.md). -/
def subs6001 : List SubRow := [
  ⟨0, 0, 1, .ro, 0x22⟩, -- Highest sub-index
  ⟨1, 0x10, 4, .rw, 0x1e⟩, -- Source 16i + j configuration
  ⟨0x11, 0x11, 2, .w1c, 0⟩, -- Pending
  ⟨0x12, 0x12, 2, .w1c, 0⟩, -- Missed
  ⟨0x13, 0x22, 2, .w1c, 0⟩ -- Cause latch of 16i + j
]

/-- Object groups of 0x1000 to 0x1FFF. -/
def groups1a : List Group := [
  ⟨0x1000, 1, 1, subs1000⟩,
  ⟨0x1010, 1, 1, subs1010⟩,
  ⟨0x1020, 1, 1, subs1020⟩,
  ⟨0x1100, 1, 1, subs1100⟩,
  ⟨0x1110, 1, 1, subs1110⟩
]

/-- Object groups of 0x2000 to 0x2FFF. -/
def groups2a : List Group := [
  ⟨0x2000, 1, 1, subs2000⟩,
  ⟨0x2001, 1, 1, subs2001⟩,
  ⟨0x2100, 1, 1, subs2100⟩,
  ⟨0x2101, 1, 1, subs2101⟩,
  ⟨0x2102, 1, 1, subs2102⟩,
  ⟨0x2103, 1, 1, subs2103⟩,
  ⟨0x2110, 1, 1, subs2110⟩,
  ⟨0x2111, 1, 1, subs2111⟩,
  ⟨0x2120, 1, 1, subs2120⟩,
  ⟨0x2121, 1, 1, subs2121⟩,
  ⟨0x2130, 1, 1, subs2130⟩,
  ⟨0x2140, 1, 8, subs2140⟩,
  ⟨0x2148, 1, 1, subs2148⟩,
  ⟨0x2200, 1, 1, subs2200⟩,
  ⟨0x2201, 1, 1, subs2201⟩,
  ⟨0x2202, 1, 1, subs2202⟩,
  ⟨0x2203, 1, 1, subs2203⟩,
  ⟨0x2210, 1, 8, subs2210⟩,
  ⟨0x2220, 1, 8, subs2220⟩,
  ⟨0x2240, 1, 32, subs2240⟩,
  ⟨0x2300, 1, 1, subs2300⟩,
  ⟨0x2301, 1, 1, subs2301⟩,
  ⟨0x2302, 1, 1, subs2302⟩,
  ⟨0x2304, 1, 1, subs2304⟩
]

/-- Object groups of 0x2000 to 0x2FFF, continued. -/
def groups2b : List Group := [
  ⟨0x2306, 1, 1, subs2306⟩,
  ⟨0x2307, 1, 1, subs2307⟩,
  ⟨0x2380, 1, 1, subs2380⟩,
  ⟨0x2400, 1, 1, subs2400⟩,
  ⟨0x2401, 1, 1, subs2401⟩,
  ⟨0x2402, 1, 1, subs2402⟩,
  ⟨0x2403, 1, 1, subs2403⟩,
  ⟨0x2410, 1, 1, subs2410⟩,
  ⟨0x2420, 1, 32, subs2420⟩
]

/-- Object groups of 0x3000 to 0x3FFF. -/
def groups3a : List Group := [
  ⟨0x3010, 0x100, 8, subs3010⟩,
  ⟨0x3020, 0x100, 8, subs3020⟩,
  ⟨0x3021, 0x100, 8, subs3021⟩,
  ⟨0x3022, 0x100, 8, subs3022⟩,
  ⟨0x3023, 0x100, 8, subs3023⟩,
  ⟨0x3024, 0x100, 8, subs3024⟩,
  ⟨0x3025, 0x100, 8, subs3025⟩,
  ⟨0x3026, 0x100, 8, subs3026⟩,
  ⟨0x3027, 0x100, 8, subs3027⟩,
  ⟨0x3080, 1, 128, subs3080⟩,
  ⟨0x3180, 1, 128, subs3080⟩,
  ⟨0x3280, 1, 128, subs3080⟩,
  ⟨0x3380, 1, 128, subs3080⟩,
  ⟨0x3480, 1, 128, subs3080⟩,
  ⟨0x3580, 1, 128, subs3080⟩,
  ⟨0x3680, 1, 128, subs3080⟩,
  ⟨0x3780, 1, 128, subs3080⟩,
  ⟨0x3800, 0x10, 4, subs3800⟩,
  ⟨0x3880, 1, 1, subs3880⟩
]

/-- Object groups of 0x4000 to 0x4FFF. -/
def groups4a : List Group := [
  ⟨0x4000, 0x10, 32, subs4000⟩,
  ⟨0x4001, 0x10, 32, subs4001⟩,
  ⟨0x4002, 0x10, 32, subs4002⟩,
  ⟨0x4003, 0x10, 32, subs4003⟩,
  ⟨0x4008, 1, 8, subs4008⟩,
  ⟨0x4018, 1, 8, subs4008⟩,
  ⟨0x4028, 1, 8, subs4008⟩,
  ⟨0x4038, 1, 8, subs4008⟩,
  ⟨0x4048, 1, 8, subs4008⟩,
  ⟨0x4058, 1, 8, subs4008⟩,
  ⟨0x4068, 1, 8, subs4008⟩,
  ⟨0x4078, 1, 8, subs4008⟩,
  ⟨0x4088, 1, 8, subs4008⟩,
  ⟨0x4098, 1, 8, subs4008⟩,
  ⟨0x40a8, 1, 8, subs4008⟩,
  ⟨0x40b8, 1, 8, subs4008⟩,
  ⟨0x40c8, 1, 8, subs4008⟩,
  ⟨0x40d8, 1, 8, subs4008⟩,
  ⟨0x40e8, 1, 8, subs4008⟩,
  ⟨0x40f8, 1, 8, subs4008⟩,
  ⟨0x4108, 1, 8, subs4008⟩,
  ⟨0x4118, 1, 8, subs4008⟩,
  ⟨0x4128, 1, 8, subs4008⟩,
  ⟨0x4138, 1, 8, subs4008⟩
]

/-- Object groups of 0x4000 to 0x4FFF, continued. -/
def groups4b : List Group := [
  ⟨0x4148, 1, 8, subs4008⟩,
  ⟨0x4158, 1, 8, subs4008⟩,
  ⟨0x4168, 1, 8, subs4008⟩,
  ⟨0x4178, 1, 8, subs4008⟩,
  ⟨0x4188, 1, 8, subs4008⟩,
  ⟨0x4198, 1, 8, subs4008⟩,
  ⟨0x41a8, 1, 8, subs4008⟩,
  ⟨0x41b8, 1, 8, subs4008⟩,
  ⟨0x41c8, 1, 8, subs4008⟩,
  ⟨0x41d8, 1, 8, subs4008⟩,
  ⟨0x41e8, 1, 8, subs4008⟩,
  ⟨0x41f8, 1, 8, subs4008⟩,
  ⟨0x4800, 1, 1, subs4800⟩,
  ⟨0x4801, 1, 1, subs4801⟩,
  ⟨0x4802, 1, 1, subs4802⟩,
  ⟨0x4803, 1, 1, subs4803⟩,
  ⟨0x4804, 1, 1, subs4804⟩,
  ⟨0x4805, 1, 1, subs4805⟩,
  ⟨0x4880, 1, 128, subs4880⟩
]

/-- Object groups of 0x5000 to 0x5FFF. -/
def groups5a : List Group := [
  ⟨0x5000, 1, 1, subs5000⟩,
  ⟨0x5001, 1, 1, subs5001⟩,
  ⟨0x5010, 1, 12, subs5010⟩,
  ⟨0x5020, 1, 12, subs5020⟩,
  ⟨0x5040, 1, 12, subs5040⟩,
  ⟨0x5080, 1, 64, subs5080⟩,
  ⟨0x5100, 1, 256, subs5100⟩,
  ⟨0x5200, 1, 16, subs5200⟩,
  ⟨0x5300, 1, 1, subs5300⟩,
  ⟨0x5301, 1, 1, subs5301⟩,
  ⟨0x5310, 1, 16, subs5310⟩,
  ⟨0x5320, 1, 1, subs5320⟩,
  ⟨0x5400, 0x10, 9, subs5400⟩,
  ⟨0x5401, 0x10, 9, subs5401⟩,
  ⟨0x5402, 0x10, 9, subs5402⟩,
  ⟨0x5403, 0x10, 9, subs5403⟩,
  ⟨0x5404, 0x10, 9, subs5404⟩,
  ⟨0x5405, 0x10, 9, subs5405⟩,
  ⟨0x5406, 0x10, 9, subs5406⟩
]

/-- Object groups of 0x6000 to 0x6FFF. -/
def groups6a : List Group := [
  ⟨0x6000, 1, 1, subs6000⟩,
  ⟨0x6001, 1, 255, subs6001⟩
]

/-- The whole dictionary. -/
def groups : List Group := groups1a ++ groups2a ++ groups2b ++ groups3a ++ groups4a ++ groups4b ++ groups5a ++ groups6a

/-- The record of an index (check 2 of R470: `none` when the index is not used). -/
def findGroup (idx : Nat) : List Group → Option (List SubRow)
  | [] => none
  | g :: t =>
    if g.base ≤ idx ∧ idx < g.base + g.stride * g.count ∧ (idx - g.base) % g.stride = 0 then some g.subs
    else findGroup idx t

/-- The sub-index rows of an index. -/
def objSubs (idx : Nat) : Option (List SubRow) := findGroup idx groups

/-- The row of a sub-index within a record. -/
def findSub (sub : Nat) : List SubRow → Option SubRow
  | [] => none
  | r :: t => if r.lo ≤ sub ∧ sub ≤ r.hi then some r else findSub sub t

/-- The row of object `idx.sub`, when it exists (checks 2 and 3 of R470). -/
def objRow (idx sub : Nat) : Option SubRow :=
  match objSubs idx with
  | some subs => findSub sub subs
  | none => none

/-- The key of object `idx.sub` in the object store. -/
def objKey (idx sub : Nat) : Nat := idx * 256 + sub

/-- The default of object `idx.sub` (R469); 0 where there is no object. -/
def objDefault (idx sub : Nat) : Nat :=
  match objRow idx sub with
  | some r => r.dflt
  | none => 0

/-- The default that an unlisted key of the object store reads as. -/
def objDefaultKey (k : Nat) : Nat := objDefault (k / 256) (k % 256)

end Sys2Proof.Machine
end

