-- ==== Sys2Proof/Machine/State.lean ====
section
/-!
DEFINITION. The state of the block: every piece of state the manual gives the device, as plain data.
An object of the dictionary lives in `objs` unless a field below is its home; a byte of the device
address space lives in `mem` (R13).
-/

namespace Sys2Proof.Machine

/-! ## Device and rota -/

/-- The device states of 0x2000.00 (R475). -/
inductive DevState where
  | standby
  | waking
  | undercoat
  | prep
  | set
  | run
  | hold
  | halt
  | fault
  deriving DecidableEq, Repr

/-- The code of a device state in 0x2000.00 (R475). -/
def DevState.code : DevState → Nat
  | .standby => 0
  | .waking => 1
  | .undercoat => 2
  | .prep => 3
  | .set => 4
  | .run => 5
  | .hold => 6
  | .halt => 7
  | .fault => 8

/-- What the crofts do next (R77, R78): nothing is run outside device state RUN; stroke `s` of the
rota; the boundary that takes no stroke; stroke `i` of a fallow of `f` strokes. -/
inductive Phase where
  | idle
  | rota (s : Nat)
  | boundary
  | fallow (i f : Nat)
  deriving DecidableEq, Repr

/-- What Isamet's test fixes in one device by fuses (R2, R143, R481). -/
structure Fuse where
  grade : Nat
  stepping : Nat
  uid : Nat
  repairs : List (BitVec 64)
  deriving DecidableEq, Repr

/-! ## Crofts -/

/-- The sheet states of R102. -/
inductive Sheet where
  | down
  | raising
  | upHeld
  | upLoadable
  | lowering
  deriving DecidableEq, Repr

/-- The code of a sheet state (R102). -/
def Sheet.code : Sheet → Nat
  | .down => 0
  | .raising => 1
  | .upHeld => 2
  | .upLoadable => 3
  | .lowering => 4

/-- The stores of one BP (R41, R83, R85). -/
structure BpRec where
  out : Bool
  hist : BitVec 1024
  committed : BitVec 512
  pend : BitVec 512
  read : BitVec 512
  wmask : BitVec 512
  wval : BitVec 512
  deriving DecidableEq, Repr

/-- A BP with every store at zero. -/
def BpRec.zero : BpRec := ⟨false, 0, 0, 0, 0, 0, 0⟩

/-- One load that a MEM_READ put under way (R59): it lands at the end of the next stroke. -/
structure SlotLoad where
  slot1 : Bool
  nibble : BitVec 4
  deriving DecidableEq, Repr

/-- A channel of the croft memory port (R58, R69): address register, its known mask, two read slots,
the loads under way, and, for the hazard detector, the slots loaded in this rota (R280). -/
structure Channel where
  addr : BitVec 19
  known : BitVec 19
  slot0 : BitVec 4
  slot1 : BitVec 4
  loads : List SlotLoad
  loaded0 : Bool
  loaded1 : Bool
  deriving DecidableEq, Repr

/-- A channel as a boundary leaves it (R42, R69). -/
def Channel.clear : Channel := ⟨0, BitVec.allOnes 19, 0, 0, [], false, false⟩

/-- An entry of a write buffer (R87). -/
structure WEntry where
  addr : BitVec 19
  val : BitVec 4
  rota : Nat
  stroke : Nat
  committed : Bool
  deriving DecidableEq, Repr

/-- Where an answer of an access goes (R171): the initiator and its tag; the target whose response buffer it
uses (plus one), its class (0 M, 1 T, 2 B), its latency where a command gives it, and its bytes (R176, R184);
whether it is a write; whether the initiator's user waits for it; what happens to its flits on their way; the byte lane of
its first byte (R170); and the node that answers, for a request that came through the networks (R150). -/
structure Asker where
  init : Nat
  tag : Nat
  home : Nat
  cls : Nat
  lat : Option Nat
  size : Nat
  write : Bool
  user : Bool
  fate : Fate
  lane : Nat
  via : Option Nat
  deriving DecidableEq, Repr

/-- A requester that uses no response buffer and that no user waits behind. -/
def Asker.plain (init : Nat) : Asker := ⟨init, 0, 0, 0, none, 0, false, false, .arrives, 0, none⟩

/-- An access that a packet carries: a read of `n` bytes; a read of a line that a core comes to hold (R178); a
write with its byte enables (R170); or an SC or AMO of `n` bytes by its funct5 code with its operand (R336). -/
inductive PAccess where
  | read (n : Nat)
  | fill (n : Nat)
  | write (data : List (Byte × Bool))
  | atomic (f5 n src : Nat)
  deriving DecidableEq, Repr

/-- A non-BP larder access that waits for idle bank cycles (R116 to R118): the bytes still to move,
the first of them at byte offset `off`, the bytes read so far, and the strokes waited by the present
word access. A write carries its bytes with their byte enables, and `noted` says that it has been recorded as a foreign
write (R280); `scrub` marks a visit of the scrubber (R122). -/
structure Waiter where
  asker : Asker
  rank : Nat
  scrub : Bool
  write : Bool
  off : Nat
  left : Nat
  data : List (Byte × Bool)
  got : List Byte
  waited : Nat
  noted : Bool
  deriving DecidableEq, Repr

/-- One croft: mode and bank mask of its stencil section (R107, R142), dust sheet (R102, R103), the
rota-local stores (R42), the write buffer (R87), and the accesses that wait at it; `used` names the banks whose cycle of
the present stroke an access has taken (R116). -/
structure CroftRec where
  mode : Nat
  bankMask : BitVec 4
  sheet : Sheet
  sheetRota : Nat
  newSection : Bool
  firstRota : Nat
  words : Tbl (BitVec 80)
  bps : Tbl BpRec
  arrival : BitVec 1024
  landed : BitVec 1024
  chA : Channel
  chB : Channel
  chC : Channel
  chD : Channel
  sends : BitVec 32
  wbuf : List WEntry
  last : Tbl (BitVec 4)
  watch : Bool
  waiters : List Waiter
  used : BitVec 4
  woken : BitVec 4
  held : List (Nat × Waiter)
  snoop : List (Nat × Nat)
  deriving DecidableEq, Repr

/-- A croft with no stencil section. -/
def CroftRec.blank : CroftRec where
  mode := 0
  bankMask := 0
  sheet := .down
  sheetRota := 0
  newSection := false
  firstRota := 0
  words := []
  bps := []
  arrival := 0
  landed := 0
  chA := .clear
  chB := .clear
  chC := .clear
  chD := .clear
  sends := 0
  wbuf := []
  last := []
  watch := false
  waiters := []
  used := 0
  woken := 0
  held := []
  snoop := []

/-! ## Cellars -/

/-- A slot binding of a CELLAR section (R267). -/
structure Binding where
  rd : Bool
  wr : Bool
  xpair : Bool
  req : Nat
  rstroke : Nat
  pch : Nat
  deriving DecidableEq, Repr

/-- An entry of a cellar's AGENT_SLOTS section (R136), with the table bank it goes with (assumption log
23). -/
structure CSlot where
  bank : Nat
  stroke : Nat
  dir : Bool
  gport : Nat
  pquad : Nat
  binding : Nat
  first : Nat
  mask : BitVec 8
  deriving DecidableEq, Repr

/-- An entry of a cellar's pending store (R130, R132): a word, the nibbles written, and who wrote them
when. -/
structure CEntry where
  word : Nat
  nibbles : BitVec 16
  data : BitVec 64
  rota : Nat
  stroke : Nat
  req : Nat
  committed : Bool
  deriving DecidableEq, Repr

/-- A return in a cellar's return log (R133): the binding, the rota and stroke of the request, the
rota of the landing, the word read when the request was a read (the value word of a `pair`), and the
nibbles (of the value rail, and of the known rail for an XPAIR binding). -/
structure CReturn where
  binding : Nat
  reqRota : Nat
  reqStroke : Nat
  landRota : Nat
  word : Option Nat
  pair : Bool
  data : BitVec 64
  known : BitVec 64
  deriving DecidableEq, Repr

/-- One access to a cellar word in the present stroke window, kept for collisions and races (R131,
R280): the request stroke, rota, requester, word, nibbles and whether it wrote. -/
structure CAccess where
  rota : Nat
  stroke : Nat
  req : Nat
  word : Nat
  nibbles : BitVec 16
  write : Bool
  deriving DecidableEq, Repr

/-- One cellar controller (R124 to R140). `rx` holds the request nibbles as they were received, by
`binding * 64 + slot nibble`; `ready` names the bindings whose request has arrived whole in this rota,
and `absent` those whose OP nibble came in an absent quad (R137); `debt` counts refresh debt in strokes of
band 1. -/
structure CellarRec where
  bindings : List Binding
  slots : List CSlot
  regions : List (Nat × Nat)
  rx : Tbl (BitVec 4)
  ready : List Nat
  absent : List Nat
  pend : List CEntry
  log : List CReturn
  recent : List CAccess
  debt : Nat
  asked : Bool
  forced : Bool
  selfRefresh : Bool
  snoop : List (Nat × Nat)
  deriving DecidableEq, Repr

/-- A cellar controller with no stencil. -/
def CellarRec.blank : CellarRec where
  bindings := []
  slots := []
  regions := []
  rx := []
  ready := []
  absent := []
  pend := []
  log := []
  recent := []
  debt := 0
  asked := false
  forced := false
  selfRefresh := false
  snoop := []

/-- A background test engine (R146, R147): the block under test, the words it saved with the error
patterns of those that were uncorrectable, how often this block was interrupted, whether it has yielded,
whether it stops after the block, and what it found. -/
structure TestEng where
  running : Bool
  unit : Nat
  block : Nat
  saved : List (Nat × BitVec 72)
  yields : Nat
  yielded : Bool
  stopping : Bool
  skipped : Nat
  failed : Bool
  held : List (Nat × Waiter)
  deriving DecidableEq, Repr

/-- A test engine at rest. -/
def TestEng.rest : TestEng := ⟨false, 0, 0, [], 0, false, false, 0, false, []⟩

/-! ## Bell -/

/-- A bell message as it was taken at a receive stroke (R241, R242): the port, the window stroke, and
the byte when a group delivered one. -/
structure BellRx where
  port : Nat
  stroke : Nat
  byte : Option (BitVec 8)
  deriving DecidableEq, Repr

/-- The collection of one executed rota (R238): its execution number and rota number, the window
strokes passed, the messages of the children, the verdict copies, the local message, and the bell that
the root formed. -/
structure Window where
  exec : Nat
  rota : Nat
  elapsed : Nat
  ups : List BellRx
  copies : List BellRx
  localMsg : Option (BitVec 8)
  bell : Option (BitVec 8)
  deriving DecidableEq, Repr

/-- A standing PAUSE request (R246): the execution it arose in, and the one whose message carries it. -/
structure Pause where
  since : Nat
  carried : Option Nat
  deriving DecidableEq, Repr

/-- The bell unit: the executions that hold a foul cause (R238), the standing requests of R246 by the execution they
arose in, the windows under way, the bytes to send in the present stroke, and the count W of the last lane-swap fallow
(R228). -/
structure BellUnit where
  fouls : List Nat
  stop : Option Nat
  refresh : Option Nat
  swap : Option Nat
  thermal : Option Nat
  pauses : List Pause
  windows : List Window
  tx : Tbl (BitVec 8)
  lost : Option Window
  swapW : Option Nat
  deriving DecidableEq, Repr

/-- A bell unit with nothing held. -/
def BellUnit.rest : BellUnit := ⟨[], none, none, none, none, [], [], [], none, none⟩

/-- A bell unit without fouls and windows, as a load or a fresh run leaves it. A standing request ends with a verdict that
carries its bit and with nothing else (R246). -/
def BellUnit.idle (b : BellUnit) : BellUnit :=
  { BellUnit.rest with stop := b.stop, refresh := b.refresh, swap := b.swap, thermal := b.thermal, pauses := b.pauses }

/-! ## On-package network -/

/-- A G flit at an input (R164): which quads are present, for each whether a sheeted croft (1, R100) or
a sheeted hedgerow region (2, R303) sent it, and the quads. -/
structure GFlit where
  present : BitVec 4
  sheeted : BitVec 8
  quads : BitVec 128
  deriving DecidableEq, Repr

/-- The reservation entry of an initiator at a target (R176): buffers held of the pool for M and of the
shared pool, how many of them requests use, and the count asked for with its class and order, 0 when
nothing waits; the tag of the RSV, and whether it came through the networks (R150). -/
structure Rsv where
  heldM : Nat
  heldTB : Nat
  busy : Nat
  want : Nat
  cls : Nat
  order : Nat
  tag : Nat
  net : Bool
  deriving DecidableEq, Repr

/-- An initiator with no reservation. -/
def Rsv.none : Rsv := ⟨0, 0, 0, 0, 0, 0, 0, false⟩

/-- What a transaction asks for (R169): buffers by an RSV; or a READ or WRITE of `size` bytes of class `cls`. -/
inductive TransKind where
  | rsv
  | access (size cls : Nat) (write : Bool)
  deriving DecidableEq, Repr

/-- A transaction that has had no answer (R175), by the strokes it has waited: its initiator and tag, its
target, whether the initiator's user waits for it, whether its answer is known to be lost (R173), and its kind. -/
structure Trans where
  init : Nat
  tag : Nat
  tgt : Nat
  waited : Nat
  user : Bool
  spoiled : Bool
  kind : TransKind
  deriving DecidableEq, Repr

/-- Read data of which an initiator holds a part (R174): the initiator and tag, and the beats. -/
structure ReadPart where
  init : Nat
  tag : Nat
  beats : List DataFlit
  deriving DecidableEq, Repr

/-- A response flit, field by field (R171); its reserved bits are sent as 0. -/
structure RespFlit where
  cls : BitVec 2
  op : BitVec 4
  dest : BitVec 11
  tag : BitVec 8
  src : BitVec 11
  arg : BitVec 4
  par : BitVec 4
  deriving DecidableEq, Repr

/-- A packet flit in the buffer of a router or of the hub switch, or on its way there (R150, R155): its word, whether it is
marked as within its initiator's T budget (R182), and the link count from which the router can name it. -/
structure NetFlit where
  word : BitVec 144
  within : Bool
  ready : Nat
  deriving DecidableEq, Repr

/-- The links and buffers that packet flits use (R150, R155, R167, R168, R182): the buffers by network, node, input and
class, oldest first; the credits that are on their way back to the sender of each buffer, by the link count at which they
are there; for each network, node and output the input that each rank served last, and whether the last flit of the third
rank was T; the free-running stroke counter of the links; and, oldest first, the T flits that initiators injected in the
last 64 strokes, as (network, initiator, node, link count). -/
structure NetRec where
  buffers : Tbl (List NetFlit)
  credits : Tbl (List Nat)
  turns : Tbl Nat
  count : Nat
  injected : List (Nat × Nat × Nat × Nat)
  deriving DecidableEq, Repr

/-- Networks with no packet flit. -/
def NetRec.rest : NetRec := ⟨[], [], [], 0, []⟩

/-- A WRITE of which a target holds a part (R174, R175): its initiator and tag, the destination node, the request
once it has arrived, with the buffer that it uses, its beats, and the strokes that it has waited. -/
structure Half where
  src : Nat
  tag : Nat
  dest : Nat
  req : Option (ReqFlit × Asker)
  beats : List DataFlit
  waited : Nat
  deriving DecidableEq, Repr

/-- What a device address names: a target and the offset within it. -/
inductive Place where
  | croft (k off : Nat)
  | cellar (a : Nat)
  | scratch (off : Nat)
  | trough (t off : Nat)
  | tally (n off : Nat)
  | verger (off : Nat)
  | hedge (r off : Nat)
  | watch (u off : Nat)
  | mirror (off : Nat)
  | config (off : Nat)
  deriving DecidableEq, Repr

/-- An access that its initiator holds back until it has a buffer at the target (R176), or until B packets are
injected again (R188): who asks, the place, and the access. -/
structure Parked where
  asker : Asker
  place : Place
  acc : PAccess
  deriving DecidableEq, Repr

/-- A T reservation (R182): initiator, target node and budget, and whether it is in force. -/
structure TRsv where
  init : Nat
  node : Nat
  budget : Nat
  deriving DecidableEq, Repr

/-- A shuttered or draining endpoint (R186): its code in 0x4804.01, its state, the strokes drained. -/
structure Shut where
  endpoint : Nat
  state : Nat
  strokes : Nat
  deriving DecidableEq, Repr

/-- The on-package network: tables of both banks (R159 to R161, R188), the G flits on their way, by
the stroke at which they can be named, and the packet side: reservations, open and ended transactions, writes in
part and read data in part, accesses held back, whether B injection waits for stroke 0 of the swap rota, the free values
that stand for the latencies (or grant waits) of initiators' own accesses (assumption log 41), and the packet flits in the
networks. -/
structure OpnRec where
  routes : Tbl (BitVec 24)
  injects : Tbl (BitVec 24)
  ejects : Tbl (BitVec 72)
  active : Nat
  swapRota : Nat
  swapArmed : Bool
  swapLower : Bool
  shadowOk : Bool
  flits : Tbl GFlit
  agentOut : Tbl (BitVec 34)
  rsvs : Tbl Rsv
  rsvOrder : Nat
  trans : List Trans
  retired : List Trans
  halves : List Half
  reads : List ReadPart
  parked : List Parked
  bHeld : Bool
  samples : List (Nat × Bool × Nat)
  treservations : List TRsv
  revoked : List TRsv
  shuts : List Shut
  snoopScratch : List (Nat × Nat)
  net : NetRec
  deriving DecidableEq, Repr

/-- A network with empty tables. -/
def OpnRec.rest : OpnRec where
  routes := []
  injects := []
  ejects := []
  active := 0
  swapRota := 0
  swapArmed := false
  swapLower := false
  shadowOk := false
  flits := []
  agentOut := []
  rsvs := []
  rsvOrder := 0
  trans := []
  retired := []
  halves := []
  reads := []
  parked := []
  bHeld := false
  samples := []
  treservations := []
  revoked := []
  shuts := []
  snoopScratch := []
  net := .rest

/-- The last answer that left the device for a requester (R171, R172): the requester, the response
OP (0 for a successful read, 2 for WRITE_ACK), and the data. -/
structure Answer where
  asker : Asker
  op : Nat
  data : List Byte
  deriving DecidableEq, Repr

/-! ## Franel ports -/

/-- One received port frame that holds groups for delivery (R218, R224, R225): the 128 nibble bits of
each group, the system stroke count at which group 0 became ready, whether a frame of an active lane
failed, whether that of logical lane 0 failed, how many active lanes carried a good frame of another
TYPE than DATA, and whether its foul and its protocol errors have been reported. -/
structure HeldFrame where
  groups : List (BitVec 128)
  ready : Nat
  failed : Bool
  lane0Failed : Bool
  notData : Nat
  fouled : Bool
  reported : Bool
  deriving DecidableEq, Repr

/-- A lane swap under way in one direction (R228, R229): the logical lane, the tag of swap frame N once it is known, and
whether frame N has passed; and at the receiver the stroke count at which it first sent the SWAP_REQ, how many of frames N to
N + 3 have passed on the new lane, and whether one has not. -/
structure SwapRec where
  lane : Nat
  frame : Option Nat
  done : Bool
  asked : Option Nat
  passed : Nat
  failed : Bool
  deriving DecidableEq, Repr

/-- A swap of logical lane `ln` whose frame N, if it is known, is `frame`. -/
def SwapRec.of (ln : Nat) (frame : Option Nat) : SwapRec := ⟨ln, frame, false, none, 0, false⟩

/-- The last LINK_STATUS of the partner (R203). -/
structure Partner where
  seen : Bool
  mode : Nat
  rxUp : Bool
  deriving DecidableEq, Repr

/-- A PRBS checker (R232): its register, how many bits it has loaded, the correct predictions in a row
while seeking, whether it is locked, and the errors in its last 64 bits, newest first. -/
structure Checker where
  reg : Nat
  loaded : Nat
  good : Nat
  locked : Bool
  recent : List Bool
  deriving DecidableEq, Repr

/-- A checker that is seeking. -/
def Checker.seeking : Checker := ⟨0, 0, 0, false, []⟩

/-- The transmit side of a port (R195 to R205, R232 to R234): the lane map, a swap under way, the groups and the
message of the frame that is being sent, whether a frame has been started, whether the port was UP at its start and
whether a group of it fell in a rota stroke, the LINK_STATUS last sent and the frames since, the frames sent, the
steeple messages that wait, the last frame of each physical lane, the PRBS generators with the 20 bits sent in the
last stroke, and the error injection: bits to invert in this frame and in the next, bits to invert in the next PRBS
bits, and (plus one) the UI left to the next bit of a periodic injection. -/
structure PortTx where
  map : BitVec 32
  swap : Option SwapRec
  groups : Tbl (BitVec 128)
  ctype : Nat
  msg : BitVec 112
  started : Bool
  up : Bool
  data : Bool
  status : BitVec 112
  since : Nat
  sent : Nat
  steeple : List (BitVec 112)
  frames : Tbl (BitVec 320)
  generators : Tbl Nat
  prbs : Tbl (BitVec 20)
  invertNow : Tbl (BitVec 320)
  invertNext : Tbl (BitVec 320)
  invertPrbs : Tbl (BitVec 20)
  periodic : Tbl Nat
  deriving DecidableEq, Repr

/-- One Franel port (R191 to R234). Tables of both banks are keyed `bank * 1024 + stroke`; held frames
by their tag. `scrimRun` and `failed` hold for each physical lane the blocks in a row that break R194 and which of
its last 256 frames failed, newest first (R227). -/
structure PortRec where
  scrimRun : Tbl Nat
  failed : Tbl (List Bool)
  tx : Tbl (BitVec 24)
  rx : Tbl (BitVec 8)
  frames : Tbl HeldFrame
  lastTag : Nat
  delivered : GFlit
  att : GFlit
  partner : Partner
  rxUp : Bool
  takenDown : Bool
  absent : BitVec 8
  lost : List Nat
  swapOuts : Tbl Nat
  swap : Option SwapRec
  fouledExec : Option Nat
  measuring : Nat
  worst : Option Nat
  goodSpare : Nat
  checkers : Tbl Checker
  out : PortTx
  deriving DecidableEq, Repr

/-- A transmit side with nothing sent. -/
def PortTx.blank : PortTx where
  map := 0x01FAC688
  swap := none
  groups := []
  ctype := 0
  msg := 0
  started := false
  up := false
  data := false
  status := 0
  since := 0
  sent := 0
  steeple := []
  frames := []
  generators := []
  prbs := []
  invertNow := []
  invertNext := []
  invertPrbs := []
  periodic := []

/-- A port with nothing configured. -/
def PortRec.blank : PortRec where
  scrimRun := []
  failed := []
  tx := []
  rx := []
  frames := []
  lastTag := 0
  delivered := ⟨0, 0, 0⟩
  att := ⟨0, 0, 0⟩
  partner := ⟨false, 0, false⟩
  rxUp := false
  takenDown := false
  absent := 0
  lost := []
  swapOuts := []
  swap := none
  fouledExec := none
  measuring := 0
  worst := none
  goodSpare := 0
  checkers := []
  out := .blank

/-! ## Steeple -/

/-- A stamp of a capture FIFO (R393): time, system stroke count and rota record. -/
structure Stamp where
  time : Nat
  count : Nat
  rota : Nat
  deriving DecidableEq, Repr

/-- How long the present pulse of an output lasts (R392): from one value of the steeple to below another, or from one
system stroke count to below another. -/
inductive PulseSpan where
  | idle
  | time (first last : Nat)
  | strokes (first last : Nat)
  deriving DecidableEq, Repr

/-- A pulse output (R392): the next due time in ns, and the present pulse. -/
structure Pulse where
  due : Nat
  span : PulseSpan
  deriving DecidableEq, Repr

/-- A pulse output at rest. -/
def Pulse.rest : Pulse := ⟨0, .idle⟩

/-- The steeple (R383 to R394). `value` is WRAPS, NS and FRAC as one 96-bit number; `sub` counts the
strokes since the last reference period and `base` those before it; `announces` holds the newest ANNOUNCE of each port;
`sync` is the last (t1, t2), `asked` the SEQID of the last DELAY_REQ with its stamp t3 once it has left, `pair` the
last completed (t3, t4); `near` and `far` count consecutive offsets (R390); `starts` holds the rotas under
way and the time of stroke 0 of their last execution (R394); `edges` one more than the stroke, counted from `base`, of the
last edge of each capture input. -/
structure SteepleRec where
  value : Nat
  adj : Int
  sub : Nat
  base : Nat
  announces : Tbl (Option (BitVec 80))
  gm : Nat
  sync : Option (Nat × Nat)
  asked : Option (Nat × Option Nat)
  pair : Option (Nat × Nat)
  near : Nat
  far : Nat
  seqs : Tbl Nat
  starts : List (Nat × Nat)
  captures : Tbl (List Stamp)
  edges : Tbl Nat
  pulses : Tbl Pulse
  deriving DecidableEq, Repr

/-- The steeple as it leaves STANDBY. -/
def SteepleRec.rest : SteepleRec where
  value := 0
  adj := 0
  sub := 0
  base := 0
  announces := []
  gm := 0
  sync := none
  asked := none
  pair := none
  near := 0
  far := 0
  seqs := []
  starts := []
  captures := []
  edges := []
  pulses := []

/-! ## ALLSET (R418 to R420) -/

/-- The ALLSET pin: whether the module releases the line, the filtered input, the seen latch, and
whether CFGFAIL_L is driven low. -/
structure Allset where
  released : Bool
  input : Bool
  seen : Bool
  cfgFail : Bool
  deriving DecidableEq, Repr

/-! ## Hedgerow (R283 to R306) -/

/-- An entry of a green agent's AGENT_SLOTS section (R294), with the table bank it goes with (assumption
log 23): stroke, receive, quad, green port, position. -/
structure ASlot where
  bank : Nat
  stroke : Nat
  dir : Bool
  quad : Nat
  gport : Nat
  pquad : Nat
  deriving DecidableEq, Repr

/-- What a bank pin puts on its pad (R299 to R301): a level, or high impedance with a pull coded as PULL of R300
(0 none, 1 weak up, 2 weak down, 3 keeper), or with the default pull of its bank. -/
inductive PinDrive
  | level (b : Bool)
  | pull (code : Nat)
  | bankPull
  deriving DecidableEq, Repr

/-- A hedgerow region (R283, R302): whether an image configures it, whether that image came from a
HEDGEROW_BASE record, its sheet, whether its clocks run, what holds each line that it drove and each of its pins from
boundary r on (R303), the levels at its pins, and the pin registers. -/
structure RegionRec where
  configured : Bool
  base : Bool
  sheet : Sheet
  sheetRota : Nat
  running : Bool
  lines : Tbl Bool
  pinHolds : List PinDrive
  pins : BitVec 40
  pinIn : BitVec 40
  pinOut : BitVec 40
  deriving DecidableEq, Repr

/-- A region that nothing configures. -/
def RegionRec.blank : RegionRec := ⟨false, false, .down, 0, false, [], [], 0, 0, 0⟩

/-- A hedgerow initiator (R293 to R298): its slots; the first rota after a lower (R129); the transmit and receive
buffers, the quads received in the last stroke, and the committed copy; the logs of the rotas that have not committed,
keyed `stroke * 64 + quad` and, for hand-offs, with the kind of the quad in bits 33..32; while a region holds it
(R303), that region and the hold codes of each quad, 2 bits a bit, with what it handed off in the raise rota; the RXA
of the last tick and its outputs; and the packet registers, with the answer of the packet: on its way, with its requester, or the end that the initiator
has for it. -/
structure HInit where
  slots : List ASlot
  firstRota : Nat
  tx : Tbl (BitVec 32)
  rx : Tbl (BitVec 32)
  rxNew : Tbl (BitVec 32)
  copy : Tbl (BitVec 32)
  txLogs : Tbl (Tbl (BitVec 34))
  rxLogs : Tbl (Tbl (BitVec 32))
  last : Tbl (BitVec 34)
  holds : Option (Nat × Tbl Nat)
  rxa : Nat
  rxd : BitVec 32
  tick : Nat
  run : Bool
  replay : Bool
  pulse : Nat
  rota : BitVec 16
  packet : Tbl (BitVec 32)
  start : Bool
  busy : Bool
  answer : Option (Option Asker × Nat × List Byte)
  done : Bool
  code : BitVec 4
  data : BitVec 64
  deriving DecidableEq, Repr

/-- An initiator with nothing held. -/
def HInit.blank : HInit where
  slots := []
  firstRota := 0
  tx := []
  rx := []
  rxNew := []
  copy := []
  txLogs := []
  rxLogs := []
  last := []
  holds := none
  rxa := 0
  rxd := 0
  tick := 0
  run := false
  replay := false
  pulse := 0
  rota := 0
  packet := []
  start := false
  busy := false
  answer := none
  done := false
  code := 0
  data := 0

/-- The hedgerow: regions, initiators, flip-flops by `(region * 16384 + cell) * 2 + (0 A, 1 B)`, the
values that the keepers of the global lines hold, lines whose drivers are disabled, each
with the regions of those drivers, the frames that a
care map marks, by `region * 4160 + frame`, and the rota that the last boundary decided. -/
structure HedgeRec where
  regions : Tbl RegionRec
  inits : Tbl HInit
  ff : Tbl Bool
  keepers : Tbl Bool
  offLines : List (Nat × List Nat)
  care : Tbl Bool
  decided : Option (Bool × Nat)
  deriving DecidableEq, Repr

/-- A hedgerow with nothing configured. -/
def HedgeRec.blank : HedgeRec := ⟨[], [], [], [], [], [], none⟩

/-! ## Troughs and tallies (R307 to R332) -/

/-- A slot record of the TROUGHS section (R319). -/
structure TSlot where
  stroke : Nat
  kind : Nat
  slot : Nat
  gport : Nat
  pquad : Nat
  nibble : Nat
  deriving DecidableEq, Repr

/-- What a design-side slot did in this rota (R321): the item handed off and the status quad. -/
structure TResult where
  item : Nat
  status : Nat
  deriving DecidableEq, Repr

/-- A trough (R307 to R317). Its positions, direction, flags, threshold and idle item are objects of
R323, and its items lie in its bank view. `mark` is the dropped mark of the consumer, `markKept` its
committed value on an inbound trough; `window` is the far side's position for this rota, `windows` the
logged ones; `ends` holds the design side's position and mark at the end of each uncommitted rota; `ops`
the operations received, as (slot, code, item), for the next stroke. -/
structure TroughRec where
  slots : List TSlot
  eop : BitVec 1024
  mark : Bool
  markKept : Bool
  popStatus : Nat
  window : Nat
  windows : Tbl Nat
  ends : Tbl (Nat × Bool)
  ops : List (Nat × Nat × Nat)
  results : Tbl TResult
  deriving DecidableEq, Repr

/-- A trough with nothing pushed. -/
def TroughRec.blank : TroughRec := ⟨[], 0, false, false, 0, 0, [], [], [], []⟩

/-! ## Verger and service cores (R333 to R350) -/

/-- The command queue of the verger (R346): the commands that wait, each with its initiator and its word, oldest
first; the writes to COMMAND whose WRITE_ACK is withheld; and the time for which the verger is still busy with a
command, in parts of a verger cycle of which a stroke has 12 (R2, R344). -/
structure VergerRec where
  queue : List (Nat × Nat)
  held : List (Asker × Nat)
  busy : Nat
  deriving DecidableEq, Repr

/-- A verger with nothing to do. -/
def VergerRec.rest : VergerRec := ⟨[], [], 0⟩

/-- A service core (R333 to R337): whether it is held in reset and its firmware entry, once it has firmware; the
RV64IMAC registers x1 to x31, the program counter and the machine-mode control and status registers by their numbers;
the reservation of LR (R336); the access that its present instruction waits for and the answers that this instruction
has had, by (whether a write, address, bytes), as OP and data; the lines in its caches with their bytes; the timer
compare value and interrupt; and what the verger keeps of it (R348): the running task, a dispatch that is pending, and
the task for which a pre-empt is pending. -/
structure CoreRec where
  held : Bool
  entry : Option Nat
  pc : BitVec 64
  regs : Tbl (BitVec 64)
  csrs : Tbl (BitVec 64)
  reservation : Option Nat
  wait : Option (Bool × Nat × Nat)
  got : List ((Bool × Nat × Nat) × Nat × List Byte)
  icache : Tbl (List Byte)
  dcache : Tbl (List Byte)
  mtimecmp : BitVec 64
  mtip : Bool
  task : Option Nat
  dispatch : Bool
  preempt : Option Nat
  deriving DecidableEq, Repr

/-- A core held in reset, with no firmware. -/
def CoreRec.rest : CoreRec where
  held := true
  entry := none
  pc := 0
  regs := []
  csrs := []
  reservation := none
  wait := none
  got := []
  icache := []
  dcache := []
  mtimecmp := 0
  mtip := false
  task := none
  dispatch := false
  preempt := none

/-! ## Watch units (R355 to R382) -/

/-- A serial decoder (R371 to R373): the inputs of its last sample, whether it is in a character, word,
byte or frame, its place in it, the bits taken so far in `a` and `b`, and what the next byte is (0 an
address, 1 data, 2 a CCC, 3 ignored until STOP), with the direction of the last address. -/
structure DecRec where
  prev : Option Nat
  busy : Bool
  n : Nat
  a : Nat
  b : Nat
  next : Nat
  write : Bool
  deriving DecidableEq, Repr

/-- A decoder at rest. -/
def DecRec.rest : DecRec := ⟨none, false, 0, 0, 0, 0, false⟩

/-- A watch unit (R355 to R377); its settings and reports are objects of R382 and its memories lie in its
window. `placed` counts the places that records have taken since arming and `last` is the data of the
last record; `staged` holds the staging places and ring indices of the records still to be spilled, `sent`
the bytes of the first that have left; `since` the strokes since each trigger record of the last 16 strokes. -/
structure WatchRec where
  prev : Option (BitVec 512)
  counts : Tbl Nat
  decoders : Tbl DecRec
  placed : Nat
  last : Option Nat
  gap : Bool
  force : Bool
  stopping : Bool
  triggered : Bool
  violated : Bool
  since : List Nat
  staged : List (Nat × Nat)
  sent : Nat
  stages : Nat
  deriving DecidableEq, Repr

/-- A watch unit that has not been armed. -/
def WatchRec.rest : WatchRec where
  prev := none
  counts := []
  decoders := []
  placed := 0
  last := none
  gap := false
  force := false
  stopping := false
  triggered := false
  violated := false
  since := []
  staged := []
  sent := 0
  stages := 0

/-! ## Power (R430 to R455) -/

/-- The power controller and sequencer. `vstby` says that the always-on domain is out of reset (R431);
`vmain` and `reference` that the supply and the 100 MHz reference are present; `waits`
that WAKING has brought its domains up and only the reference is missing (R432); `cause` is a wake cause that
waits for VMAIN (R432), as its code in 0x2100.0A; `green`, `hamlets` and `cellars` say which groups the
sequencer has powered (R411, R432); `off` lists domains switched off by command (R436) and `cut` those
that a safety shutdown holds off (R450); `pulls` holds the default pulls of the banks (R412); `armed` is the
steeple time in ns of an armed wake (R443); `rotas` counts executed rotas since THERMAL was last set (R449);
`stack` holds the last reading of each cellar's sensor; `aging` says that a pass runs (R451); `ws` lists the WS
objects that have been written (R10); `brdid` is the strap value last sampled (R206); `inReset` that a reset command
is in effect, until UNDERCOAT begins (R33, R476); `awake` lists the domains of uncores, ports and watch unit 8 that have power
for their use, and `down` the endpoints that the power controller has shuttered for want of it (R436, R437). -/
structure PowerRec where
  vstby : Bool
  vmain : Bool
  reference : Bool
  waits : Bool
  cause : Option Nat
  green : Bool
  hamlets : Bool
  cellars : Bool
  off : List Nat
  cut : List Nat
  pulls : List Nat
  armed : Option Nat
  rotas : Nat
  stack : List Int
  aging : Bool
  ws : List Nat
  brdid : Nat
  inReset : Bool
  awake : List Nat
  down : List Nat
  deriving DecidableEq, Repr

/-- Power after VSTBY has become good (R431): the always-on domain alone runs, and the default pull of
every bank is the weak pull-down (R412, PULL code 2 of R300). -/
def PowerRec.rest : PowerRec where
  vstby := true
  vmain := false
  reference := false
  waits := false
  cause := none
  green := false
  hamlets := false
  cellars := false
  off := []
  cut := []
  pulls := List.replicate 12 2
  armed := none
  rotas := 0
  stack := [0, 0, 0, 0]
  aging := false
  ws := []
  brdid := 0
  inReset := false
  awake := []
  down := []

/-! ## Configuration store (R396 to R411) -/

/-- A record in force (R405, R410, R446): the bank and SEQ of the copy it came from, whether the applied
skim coat supplied it, and its image (header and payload). -/
structure Force where
  bank : Nat
  seq : Nat
  skim : Bool
  image : List Byte
  deriving DecidableEq, Repr

/-- The controller of the store. `command` is the store command that runs (1 write, 2 erase, 3 mirror)
with its area and the bank it writes; `force` holds the records in force by area, 36 standing for the
applied skim coat, and `booted` those that the last UNDERCOAT selected (R446); `reload` lists the ports that take a new mode or table at their next exit from OFF (R405);
`report` is an attestation report under construction (R410). -/
structure StoreRec where
  command : Option (Nat × Nat × Nat)
  force : Tbl Force
  booted : Tbl Force
  reload : List Nat
  report : List Byte
  deriving DecidableEq, Repr

/-- A store controller at rest. -/
def StoreRec.rest : StoreRec := ⟨none, [], [], [], []⟩

/-! ## Loader (R415 to R417) -/

/-- The loader and what it keeps of the loaded stencil. `running` says that a load is in progress, with the
base, length, bind length and device state captured at its command; `entry` is the loader's own entry point
(R415); `present` that a full stencil is loaded, with its MODE; `care` holds the care map of each croft as
one number; `refresh` the refresh slots by `cellar * 32 + pseudo-channel`; `cores` the union of the stencil's
FIRMWARE masks; `cellars` the cellars that a CELLAR section names; `ports` the ports that a FRANEL_PORT
section names; `tasks` and `units` what is armed on entry to RUN from SET (R352, R380); `full` and `last` the
digests of R410. The arrival map of an accepted croft lists what its eject map lands (R264) and needs no
store of its own. -/
structure LoadRec where
  running : Bool
  base : Nat
  length : Nat
  bind : Nat
  state : Nat
  entry : Option Nat
  present : Bool
  mode : Nat
  care : Tbl Nat
  refresh : Tbl Nat
  cores : Nat
  cellars : List Nat
  ports : List Nat
  tasks : List Nat
  units : List Nat
  full : Nat
  last : Nat
  deriving DecidableEq, Repr

/-- A loader with no stencil. -/
def LoadRec.rest : LoadRec where
  running := false
  base := 0
  length := 0
  bind := 0
  state := 0
  entry := none
  present := false
  mode := 0
  care := []
  refresh := []
  cores := 0
  cellars := []
  ports := []
  tasks := []
  units := []
  full := 0
  last := 0

/-! ## Lomoc ring and dictionary (R456 to R474) -/

/-- What a ring command leaves to be done once its RESPONSE has left (R463, R476). -/
inductive After where
  | nothing
  | closePrimary (ms : Nat)
  | closeBranch
  | reset
  deriving DecidableEq, Repr

/-- An MREAD or MWRITE in execution (R466): its frame and whether its RESPONSE is to be stored, the bytes moved, the
bytes read, and the answer of the packet under way once it has come. -/
structure RingMove where
  frame : List Byte
  keep : Bool
  moved : Nat
  got : List Byte
  answer : Option (Nat × List Byte)
  deriving DecidableEq, Repr

/-- The ring interface. `closedP` holds the duration in ms of a close of the primary stile by command and `closedB` a
close of the branch stile; `lockP` and `lockB` say whether the receivers are locked, and `lossB` that the branch stile
is closed because the branch receiver has long been without lock; `stored` is the stored RESPONSE
frame, `due` the one of a command in execution, whether it is to be stored, and what follows it; `refused` those of commands
refused with the sequence abort that have yet to leave; `notes` lists the event sources whose first NOTIFY waits; `move` is a memory
command in execution; `assign` says that an ASSIGN is on its way through the branch; `sentP` and `sentB` are the
frames that have left on the primary and branch outputs, oldest first. -/
structure RingRec where
  closedP : Option Nat
  closedB : Bool
  lockP : Bool
  lockB : Bool
  lossB : Bool
  stored : Option (List Byte)
  due : Option (List Byte × Bool × After)
  refused : List (List Byte)
  move : Option RingMove
  assign : Bool
  notes : List Nat
  sentP : List (List Byte)
  sentB : List (List Byte)
  deriving DecidableEq, Repr

/-- A ring interface out of reset (R465). -/
def RingRec.rest : RingRec := ⟨none, false, false, false, true, none, none, [], none, false, [], [], []⟩

/-- The mirror of the dictionary (R472, R473): octet selector and staging buffer, the last refusal and the
refusals since it was read. -/
structure MirrorRec where
  selector : Nat
  buffer : List Byte
  refusal : Nat
  refusals : Nat
  deriving DecidableEq, Repr

/-- A mirror with nothing selected. -/
def MirrorRec.rest : MirrorRec := ⟨0, List.replicate 32 0, 0, 0⟩

/-! ## Host and test ports (R497 to R501) -/

/-- An access of the host through BAR2 (R498), which packets of at most 64 bytes carry one after another (R169): its
offset in the BAR, its device address, the bytes that have moved, the bytes read, and the answer of the packet that is
out. -/
structure HostMove where
  off : Nat
  addr : Nat
  acc : Access
  moved : Nat
  got : List Byte
  answer : Option (Nat × List Byte)
  deriving DecidableEq, Repr

/-- The header of an aborted write, as the header log of Advanced Error Reporting keeps it (R509): the BAR, 0 or 2, the
offset in it, and the bytes of the write. -/
structure AbortLog where
  bar : Nat
  off : Nat
  size : Nat
  deriving DecidableEq, Repr

/-- The PCIe endpoint (R497, R498, R509): the level of PERST_L; whether it has answered a configuration request with
Successful Completion; the last completion (0 Successful Completion, 2 Configuration Request Retry Status, 4 Completer
Abort) with its data; the base addresses that the host has given BAR0 and BAR2; the accesses through BAR2 that are under
way, oldest first; and the Completer Abort error that Advanced Error Reporting holds. -/
structure PcieRec where
  perst : Bool
  served : Bool
  completion : Option (Nat × List Byte)
  bar0 : BitVec 64
  bar2 : BitVec 64
  moves : List HostMove
  aborted : Option AbortLog
  deriving DecidableEq, Repr

/-- An endpoint held in reset. -/
def PcieRec.rest : PcieRec := ⟨false, false, none, 0, 0, [], none⟩

/-- The states of the test port's TAP controller (R500, after IEEE 1149.1). -/
inductive TapState where
  | testLogicReset
  | runTestIdle
  | selectDr
  | captureDr
  | shiftDr
  | exit1Dr
  | pauseDr
  | exit2Dr
  | updateDr
  | selectIr
  | captureIr
  | shiftIr
  | exit1Ir
  | pauseIr
  | exit2Ir
  | updateIr
  deriving DecidableEq, Repr

/-- What SAMPLE/PRELOAD takes into the boundary register (R500): the levels at the pins of the twelve banks, at EVT0 to
EVT3, at TPULSE0 to TPULSE7, and at ALLSET. -/
structure LandSample where
  banks : List (BitVec 40)
  evt : Nat
  pulses : List Bool
  allset : Bool
  deriving DecidableEq, Repr

/-- The test port (R500, R501): the loaded instruction, the level of TEST_EN_L, the state of the TAP controller, the
occurrence by which the boundary cells hold what has been shifted into them, a free value (assumption log 113), and what
SAMPLE/PRELOAD took last. -/
structure TapRec where
  code : BitVec 8
  testEn : Bool
  fsm : TapState
  cells : Nat
  sampled : Option LandSample
  deriving DecidableEq, Repr

/-- The test port in Test-Logic-Reset, which selects IDCODE (R500). -/
def TapRec.rest : TapRec := ⟨1, true, .testLogicReset, 0, none⟩

/-- An access that waits at its home for INV_ACK (R178): the requester, the byte offset within the home
(a croft's larder, cellar 1024 + n, or the scratchpad, 1028), the access (a write, or a read of a line for which a
full filter must evict one), and the (line, core) pairs still to answer. -/
structure HeldAccess where
  asker : Asker
  home : Nat
  addr : Nat
  acc : PAccess
  waits : List (Nat × Nat)
  deriving DecidableEq, Repr

/-- The canonical form of a memory: addresses strictly rising, and no entry that an unlisted address reads as
(assumption log 5). -/
def Memory.wf (m : List Host.Cell) : Bool := Tbl.wf (fun _ => (0 : Byte)) m

/-- The state of the block. -/
structure State where
  /-- The commands that are waiting, first in, first out. -/
  pending : List Instr
  fuse : Fuse
  /-- The model's own counter of free-value occurrences (assumption log 3). -/
  freeCtr : Nat
  dev : DevState
  phase : Phase
  rota : Nat
  exec : Nat
  /-- The system stroke count (R200). -/
  count : Nat
  /-- Causes that move the device to HALT at the next boundary (R476). -/
  halts : List Nat
  /-- Words that met an uncorrectable error: the rota charged, the word's address and the execution
  (R123). -/
  uncorrected : List (Nat × Nat × Nat)
  debug : Bool
  objs : Tbl Nat
  mem : List Host.Cell
  errs : Tbl (BitVec 72)
  crofts : Tbl CroftRec
  cellars : Tbl CellarRec
  tests : Tbl TestEng
  /-- Soft repair records in effect (R143). -/
  softRepairs : List (BitVec 64)
  /-- The croft map of the undercoat: the physical croft that serves logical croft `h * 128 + c`, where
  it is not `c` (R21, R22). -/
  croftMap : Tbl Nat
  bell : BellUnit
  opn : OpnRec
  answer : Answer
  /-- MSI-X: Enable and Function Mask of the capability, the pending-bit array, and the vectors of the
  messages that were sent, oldest first (R478). -/
  msixEnable : Bool
  msixFuncMask : Bool
  msixPending : BitVec 64
  msixSent : List Nat
  ports : Tbl PortRec
  steeple : SteepleRec
  /-- Whether the executing rota was executed before (R296, R393). -/
  replay : Bool
  allset : Allset
  /-- The module entered RUN after its alignment was armed (R251). -/
  alignSpoiled : Bool
  hedge : HedgeRec
  /-- H of R296: the highest rota begun since RUN was entered from SET. -/
  highest : Option Nat
  troughs : Tbl TroughRec
  /-- Bytes that a snooped source has moved and that its tally has not taken yet (R326). -/
  snooped : Tbl (List Byte)
  cores : Tbl CoreRec
  /-- The 64-bit count of the 100 MHz reference (R333). -/
  mtime : BitVec 64
  /-- Task records of R341, and the ready lists by priority, head first (R347). -/
  tasks : Tbl (BitVec 256)
  ready : Tbl (List Nat)
  /-- The verger's command queue (R346). -/
  verger : VergerRec
  watches : Tbl WatchRec
  /-- The synchroniser of watch unit 8: the peephole channels at the last two strokes, newest first. -/
  taps : List (BitVec 768)
  power : PowerRec
  store : StoreRec
  load : LoadRec
  ring : RingRec
  mirror : MirrorRec
  pcie : PcieRec
  tap : TapRec
  /-- Accesses that wait for INV_ACK (R178). -/
  heldWrites : List HeldAccess
  /-- A croft remap under way: the logical croft and the physical target (R423). -/
  remap : Option (Nat × Nat)
  deriving DecidableEq, Repr

/-- The device right after reset: VSTBY has become good and VMAIN is absent, so the always-on domain has
left reset and the device is in device state and power state STANDBY (R431, R432). The fuses are those of a
GWN-6508-S16-B with no repairs (assumption log 2). -/
def State.reset : State where
  pending := []
  fuse := ⟨16, 0x42, 0, []⟩
  freeCtr := 0
  dev := .standby
  phase := .idle
  rota := 0
  exec := 0
  count := 0
  halts := []
  uncorrected := []
  debug := false
  objs := [(objKey 0x2100 1, 4)]
  mem := []
  errs := []
  crofts := []
  cellars := []
  tests := []
  softRepairs := []
  croftMap := []
  bell := .rest
  opn := .rest
  answer := ⟨.plain 0, 0, []⟩
  msixEnable := false
  msixFuncMask := false
  msixPending := 0
  msixSent := []
  ports := []
  steeple := .rest
  replay := false
  allset := ⟨false, false, false, false⟩
  alignSpoiled := false
  hedge := .blank
  highest := none
  troughs := []
  snooped := []
  cores := []
  mtime := 0
  tasks := []
  ready := []
  verger := .rest
  watches := []
  taps := []
  power := .rest
  store := .rest
  load := .rest
  ring := .rest
  mirror := .rest
  pcie := .rest
  tap := .rest
  heldWrites := []
  remap := none

/-! ## Stops -/

/-- The faults of a step. No command of the block stops with one: an access that the manual answers
with an error has that answer as its effect, and the record below stands so that the interface has
its closed type. `outOfMap` would be raised for an access outside every address space; safe. -/
inductive Fault where
  | outOfMap
  deriving DecidableEq, Repr

/-- The refusals of a step. `notModelled` is raised by a dispatch arm whose command has no meaning in
the model; safe. -/
inductive Refusal where
  | notModelled (mnemonic : String)
  deriving DecidableEq, Repr

end Sys2Proof.Machine
end

