-- ==== Sys2Proof/Machine/Flit.lean ====
section
/-!
DEFINITION. The nodes of the on-package network (R23, R152, R153) and its packet flits (R169 to R174, R179): their words,
their check bits, and the flits of an answer.
-/

namespace Sys2Proof.Machine

/-! ## Nodes (R23, R152, R153) -/

/-- Router node of croft `k` (R23, R153). -/
def nodeOf (k : Nat) : Nat :=
  let h := k / 128
  let c := k % 128
  (8 * (h / 2) + c / 16) * 32 + 16 * (h % 2) + c % 16

/-- Croft at router node `n`. -/
def croftAt (n : Nat) : Nat :=
  let x := n % 32
  let y := n / 32
  (x / 16 + 2 * (y / 8)) * 128 + (y % 8) * 16 + x % 16

/-- Node of a target of packets (R13, R152). -/
def targetNode (t : Nat) : Nat :=
  if t < 1024 then nodeOf t
  else if 1040 ≤ t ∧ t < 1048 then nodeOf ((t - 1040) * 128 + 72)
  else 1024

/-- Node of a packet initiator (R152 to R154): 1024 for the green. -/
def initNode (i : Nat) : Nat :=
  if 1114 ≤ i ∧ i < 1122 then nodeOf ((i - 1114) * 128 + 72)
  else if 1127 ≤ i ∧ i < 1135 then nodeOf ((i - 1127) * 128 + 72)
  else 1024

/-- Whether a node ID names the green (R153). -/
def isGreen (node : Nat) : Bool := bitAt node 10

/-- The bits of a node ID that are not reserved (R153): 1024 for the green, else the router. -/
def nodeId (v : Nat) : Nat := if isGreen v then 1024 else v % 1024

/-! ## Request, data and snoop flits (R169, R170, R173, R179) -/

/-- The request flit with these fields (R169). -/
def requestFlit (src : BitVec 11) (tag : BitVec 8) (dest : BitVec 11) (a : ReqAsk) : ReqFlit :=
  ⟨a.cls, a.op, dest, src, tag, a.size, a.addr, a.par⟩

/-- The flit of the data network with these fields (R170). -/
def dataFlit (src : BitVec 11) (tag : BitVec 8) (dest : BitVec 11) (b : DataBeat) : DataFlit :=
  ⟨b.crc, b.cls, b.kind, dest, src, tag, b.beat, b.last, b.be, b.data⟩

/-- The snoop flit with these fields (R179). -/
def snoopFlit (op : BitVec 3) (core : BitVec 4) (l : SnoopLine) : SnoopFlit := ⟨op, core, l.home, l.line, l.par⟩

/-- A request flit as 80 bits (R169). -/
def reqWord (f : ReqFlit) : BitVec 80 :=
  f.cls ++ f.op ++ f.dest ++ f.src ++ f.tag ++ f.size ++ f.addr ++ f.par

/-- The XOR of the `n` nibbles of a number: the four interleaved parities of R173. -/
def nibbleParity (w : Nat) : Nat → Nat
  | 0 => 0
  | n + 1 => nibbleParity w n ^^^ bits w (4 * n) 4

/-- Whether PAR makes even parity (R173). -/
def reqGood (f : ReqFlit) : Bool := nibbleParity (reqWord f).toNat 20 == 0

/-- A data-network packet flit as 144 bits (R170). -/
def dataWord (f : DataFlit) : BitVec 144 :=
  f.crc ++ (f.cls ++ f.kind ++ f.dest ++ f.src ++ f.tag ++ f.beat ++ BitVec.ofBool f.last ++ f.be ++ 0#26 ++ f.data)

/-- Whether the CRC matches (R170, R173). -/
def dataGood (f : DataFlit) : Bool := crc8 ((dataWord f).toNat % 2 ^ 136) == f.crc.toNat

/-- A snoop flit as 48 bits (R179). -/
def snoopWord (f : SnoopFlit) : BitVec 48 := f.op ++ f.core ++ f.home ++ f.line ++ f.par

/-- Whether PAR makes even parity over the flit (R179). -/
def snoopGood (f : SnoopFlit) : Bool := !(parity 48 (snoopWord f).toNat)

/-- The class of a flit by its CLS field (R169): 0 M, 1 T, 2 B. -/
def flitClass (cls : BitVec 2) : Nat := cls.toNat - 1

/-- The hamlet whose event reports a flit that target node `dest` finds in error (R173, R479): that of the router;
at the green hamlet 0 (DESIGN CHOICE, assumption log 89). -/
def finder (dest : BitVec 11) : Nat := if dest.getLsbD 10 then 0 else croftAt dest.toNat / 128

/-! ## Flits from their words -/

/-- The request flit in the low 80 bits of a word (R169). -/
def reqOf (w : BitVec 144) : ReqFlit :=
  ⟨w.extractLsb' 78 2, w.extractLsb' 74 4, w.extractLsb' 63 11, w.extractLsb' 52 11, w.extractLsb' 44 8,
    w.extractLsb' 41 3, w.extractLsb' 4 37, w.extractLsb' 0 4⟩

/-- The data-network packet flit of a word (R170). -/
def dataOf (w : BitVec 144) : DataFlit :=
  ⟨w.extractLsb' 136 8, w.extractLsb' 134 2, w.extractLsb' 132 2, w.extractLsb' 121 11, w.extractLsb' 110 11,
    w.extractLsb' 102 8, w.extractLsb' 99 3, w.getLsbD 98, w.extractLsb' 90 8, w.extractLsb' 0 64⟩

/-- The snoop flit in the low 48 bits of a word (R179). -/
def snoopOf (w : BitVec 144) : SnoopFlit :=
  ⟨w.extractLsb' 45 3, w.extractLsb' 41 4, w.extractLsb' 30 11, w.extractLsb' 1 29, w.extractLsb' 0 1⟩

/-- The response flit in the low 48 bits of a word (R171). -/
def respOf (w : BitVec 144) : RespFlit :=
  ⟨w.extractLsb' 46 2, w.extractLsb' 42 4, w.extractLsb' 31 11, w.extractLsb' 23 8, w.extractLsb' 12 11,
    w.extractLsb' 8 4, w.extractLsb' 0 4⟩

/-- A response flit as 48 bits (R171). -/
def respWord (f : RespFlit) : BitVec 48 := f.cls ++ f.op ++ f.dest ++ f.tag ++ f.src ++ f.arg ++ 0#4 ++ f.par

/-- Whether a packet flit passes its check (R173, R179). -/
def netGood (net : Net) (w : BitVec 144) : Bool :=
  match net with
  | .request => nibbleParity w.toNat 20 == 0
  | .response => nibbleParity w.toNat 12 == 0
  | .snoop => !(parity 48 w.toNat)
  | .data => crc8 (w.toNat % 2 ^ 136) == w.toNat / 2 ^ 136

/-- CLS of a flit (R169 to R171); the snoop network has no classes, and its flits travel as M does (R168). -/
def netCls (net : Net) (w : BitVec 144) : Nat :=
  match net with
  | .request => bits w.toNat 78 2
  | .response => bits w.toNat 46 2
  | .snoop => 1
  | .data => bits w.toNat 134 2

/-- The node that a flit travels to (R153, R169 to R171, R179): 1024 for the green. -/
def netDest (net : Net) (w : BitVec 144) : Nat :=
  match net with
  | .request => nodeId (bits w.toNat 63 11)
  | .response => initNode (bits w.toNat 31 11)
  | .snoop => if bits w.toNat 45 3 = 1 then 1024 else nodeId (bits w.toNat 30 11)
  | .data => nodeId (bits w.toNat 121 11)

/-! ## The flits of an answer (R170 to R172) -/

/-- A response flit with its parity (R171, R173). -/
def sealResp (f : RespFlit) : RespFlit :=
  { f with par := BitVec.ofNat 4 (nibbleParity (respWord { f with par := 0 }).toNat 12) }

/-- A data-network flit with its CRC (R170). -/
def sealData (f : DataFlit) : DataFlit :=
  { f with crc := BitVec.ofNat 8 (crc8 ((dataWord { f with crc := 0 }).toNat % 2 ^ 136)) }

/-- CLS of a class number (R169): 1 M, 2 T, 3 B. -/
def clsField (cls : Nat) : BitVec 2 := BitVec.ofNat 2 (cls + 1)

/-- The response flit of OP `op` that node `src` sends to a requester (R171). -/
def answerFlit (src : Nat) (who : Asker) (op arg : Nat) : RespFlit :=
  sealResp ⟨clsField who.cls, BitVec.ofNat 4 op, BitVec.ofNat 11 who.init, BitVec.ofNat 8 who.tag, BitVec.ofNat 11 src,
    BitVec.ofNat 4 arg, 0⟩

/-- Beats of an access of `n` bytes at address `a` (R170). -/
def beatCount (a n : Nat) : Nat := (a % 8 + n - 1) / 8 + 1

/-- Byte lanes of beat `k` that an access of `n` bytes at lane `l` fills, each with the byte that it carries (R170). -/
def beatLanes (l n k : Nat) : List (Nat × Nat) :=
  (upFrom 0 8).filterMap (fun j => if l ≤ 8 * k + j ∧ 8 * k + j < l + n then some (j, 8 * k + j - l) else none)

/-- The read-data beats of `data` for a requester (R170). -/
def readBeats (who : Asker) (data : List Byte) : List DataFlit :=
  let n := data.length
  let last := beatCount who.lane n - 1
  (upFrom 0 (last + 1)).map (fun k =>
    let ls := beatLanes who.lane n k
    sealData ⟨0, clsField who.cls, 1, BitVec.ofNat 11 (initNode who.init), BitVec.ofNat 11 who.init,
      BitVec.ofNat 8 who.tag, BitVec.ofNat 3 k, k == last,
      BitVec.ofNat 8 (ls.foldl (fun m x => putBits m x.1 1 1) 0),
      BitVec.ofNat 64 (ls.foldl (fun v x => putBits v (8 * x.1) 8 (getAt 0 data x.2).toNat) 0)⟩)

/-- The flits of an answer, each with its network (R172): the beats of a successful read, else one response flit. -/
def answerFlits (src : Nat) (who : Asker) (op : Nat) (data : List Byte) : List (Net × BitVec 144) :=
  if op = 0 then (readBeats who data).map (fun f => (Net.data, dataWord f))
  else [(Net.response, (respWord (answerFlit src who op 0)).setWidth 144)]

/-- The bytes that a beat carries, in the order of its lanes (R170). -/
def beatBytes (f : DataFlit) : List Byte :=
  ((upFrom 0 8).filter (fun j => f.be.getLsbD j)).map (fun j => BitVec.ofNat 8 (bits f.data.toNat (8 * j) 8))

/-- The read data of beats, once every beat up to the last one is there (R170, R174). -/
def assemble (beats : List DataFlit) : Option (List Byte) :=
  match beats.find? (fun b => b.last) with
  | none => none
  | some l =>
    let got := (upFrom 0 (l.beat.toNat + 1)).map (fun k => beats.find? (fun b => b.beat.toNat == k))
    if got.all (·.isSome) then some (got.flatMap (fun b => (b.map beatBytes).getD [])) else none

end Sys2Proof.Machine
end

