-- ==== Sys2Proof/Machine/Ops.lean ====
section
/-!
DEFINITION. The named operations over the state that every family uses: dictionary objects and their
counters, bytes and words of the device address space with their error patterns, events, foul
charges, halts and hazard records, and the records of the units.
-/

namespace Sys2Proof.Machine

/-! ## Objects (R10, R469) -/

/-- Apply `f` to every listed value of a table, in one canonical form. -/
def Tbl.mapVals {α : Type} [DecidableEq α] (d : α) (f : α → α) (t : Tbl α) : Tbl α :=
  (t.map (fun e => (e.1, f e.2))).filter (fun e => decide (e.2 ≠ d))

/-- The stored value of object `i.sub`. -/
def State.obj (s : State) (i sub : Nat) : Nat := Tbl.get (objDefault i sub) s.objs (objKey i sub)

/-- Give object `i.sub` the value `v`. -/
def State.setObj (s : State) (i sub v : Nat) : State :=
  { s with objs := Tbl.set (objDefault i sub) s.objs (objKey i sub) v }

/-- The width in bits of object `i.sub`. -/
def objBits (i sub : Nat) : Nat :=
  match objRow i sub with
  | some r => 8 * r.size
  | none => 0

/-- Add `n` to a counter object, which saturates at the largest value of its type. -/
def State.bump (s : State) (i sub : Nat) (n : Nat := 1) : State :=
  s.setObj i sub (satAdd (objBits i sub) (s.obj i sub) n)

/-- Raise an object that holds a highest value to at least `v`. -/
def State.peak (s : State) (i sub v : Nat) : State :=
  if s.obj i sub < v then s.setObj i sub v else s

/-! ## Free values (assumption log 3) -/

/-- A key for occurrence `site` of a free value within the present command. -/
def State.freeKey (s : State) (site : Nat) : Nat := s.freeCtr * 2 ^ 64 + site

/-- Advance the counter of free values. -/
def State.freeNext (s : State) : State := { s with freeCtr := s.freeCtr + 1 }

/-! ## The device address space (R7, R13) -/

/-- The byte at device address `a`; an unlisted byte is 0 (assumption log 5). -/
def State.byte (s : State) (a : Nat) : Byte := Tbl.get 0 s.mem a

/-- Write the byte at device address `a`. -/
def State.setByte (s : State) (a : Nat) (b : Byte) : State := { s with mem := Tbl.set 0 s.mem a b }

/-- The `n` bytes from address `a` up. -/
def State.bytes (s : State) : Nat → Nat → List Byte
  | _, 0 => []
  | a, n + 1 => s.byte a :: s.bytes (a + 1) n

/-- Write bytes from address `a` up. -/
def State.setBytes (s : State) : Nat → List Byte → State
  | _, [] => s
  | a, b :: t => (s.setByte a b).setBytes (a + 1) t

/-- The little-endian value of `n` bytes from address `a` up (R7). -/
def State.leAt (s : State) (a n : Nat) : Nat := leNat (s.bytes a n)

/-- Write the low `n` bytes of `v` from address `a` up, little-endian (R7). -/
def State.setLe (s : State) (a n v : Nat) : State := s.setBytes a (leBytes n v)

/-- The 64-bit word at word address `w` (byte address `8 * w`). -/
def State.word (s : State) (w : Nat) : Nat := s.leAt (8 * w) 8

/-- Keep only the entries whose key lies outside `[lo, hi)`. -/
def Tbl.clearRange {α : Type} (lo hi : Nat) (t : Tbl α) : Tbl α :=
  t.filter (fun e => !(decide (lo ≤ e.1) && decide (e.1 < hi)))

/-- Every byte from `lo` below `hi` becomes 0 with valid check bits (R508). -/
def State.zeroRange (s : State) (lo hi : Nat) : State :=
  { s with mem := Tbl.clearRange lo hi s.mem, errs := Tbl.clearRange (lo / 8) (hi / 8) s.errs }

/-- Whether address `a` lies in the dust-sheet table of a croft (R99, R109). -/
def inSheetTable (a : Nat) : Bool :=
  a / 0x8000000000 == 0x40 && decide (0x206000 ≤ a % 0x20000000) && decide (a % 0x20000000 < 0x208000)

/-- Every dust-sheet table of the device becomes all LAST (R99, R259). -/
def State.clearSheetTables (s : State) : State :=
  { s with mem := s.mem.filter (fun e => !inSheetTable e.1), errs := s.errs.filter (fun e => !inSheetTable (8 * e.1)) }

/-- The error pattern of the word at word address `w` (R121). -/
def State.err (s : State) (w : Nat) : BitVec 72 := Tbl.get 0 s.errs w

/-- Set the error pattern of the word at word address `w`. -/
def State.setErr (s : State) (w : Nat) (e : BitVec 72) : State :=
  { s with errs := Tbl.set 0 s.errs w e }

/-- What decoding the stored word at word address `w` delivers (R36, R121). -/
def State.readEcc (s : State) (w : Nat) : Decoded :=
  match decodeError (s.err w) with
  | .clean e => .clean (s.word w ^^^ e)
  | .corrected e => .corrected (s.word w ^^^ e)
  | .bad => .bad

/-- Write the 64-bit word at word address `w` with fresh check bits (R118, R123). -/
def State.writeWord (s : State) (w v : Nat) : State := (s.setLe (8 * w) 8 v).setErr w 0

/-! ## Addresses (R13, R109) -/

/-- Base address of the window of croft `k = h * 128 + c` (R13). -/
def croftBase (k : Nat) : Nat := 0x200000000000 + (k / 128) * 0x1000000000 + (k % 128) * 0x20000000

/-- Base of the green region (R13). -/
def greenBase : Nat := 0x3F0000000000

/-- Base of the scratchpad (R13). -/
def scratchBase : Nat := greenBase

/-- Base of trough window `t` (R13). -/
def troughBase (t : Nat) : Nat := greenBase + 0x10000000 + t * 0x10000

/-- Base of tally window `n` (R13). -/
def tallyBase (n : Nat) : Nat := greenBase + 0x20000000 + n * 0x1000

/-- Base of the verger window (R13). -/
def vergerBase : Nat := greenBase + 0x30000000

/-- Base of hedgerow region window `r` (R13). -/
def hedgeBase (r : Nat) : Nat := greenBase + 0x40000000 + r * 0x1000000

/-- Base of watch unit window `u` (R13). -/
def watchBase (u : Nat) : Nat := greenBase + 0x50000000 + u * 0x2000000

/-- Base of the dictionary mirror (R13). -/
def mirrorBase : Nat := greenBase + 0x70000000

/-- Base of the configuration window (R13). -/
def configBase : Nat := greenBase + 0x80000000

/-- Bytes of one cellar (R124). -/
def cellarBytes : Nat := 0x600000000

/-- Words of one cellar (R124). -/
def cellarWords : Nat := 0xC0000000

/-- Object base Hb of hamlet `h` (R39). -/
def hObj (h : Nat) : Nat := 0x3000 + h * 0x100

/-- Object base Pb of Franel port `p` (R235). -/
def pObj (p : Nat) : Nat := 0x4000 + p * 0x10

/-- Object base Wb of watch unit `u` (R382). -/
def wObj (u : Nat) : Nat := 0x5400 + u * 0x10

/-- Object base of cellar `n` (R149). -/
def cObj (n : Nat) : Nat := 0x3800 + n * 0x10

/-- Object index of croft `k = h * 128 + c` (R107). -/
def kObj (k : Nat) : Nat := 0x3000 + (k / 128) * 0x100 + 0x80 + k % 128

/-! ## Unit records -/

/-- The record of croft `k = h * 128 + c`. -/
def State.croft (s : State) (k : Nat) : CroftRec := Tbl.get .blank s.crofts k

/-- Replace the record of croft `k`. -/
def State.setCroft (s : State) (k : Nat) (c : CroftRec) : State :=
  { s with crofts := Tbl.set .blank s.crofts k c }

/-- The record of cellar `n`. -/
def State.cellar (s : State) (n : Nat) : CellarRec := Tbl.get .blank s.cellars n

/-- Replace the record of cellar `n`. -/
def State.setCellar (s : State) (n : Nat) (c : CellarRec) : State :=
  { s with cellars := Tbl.set .blank s.cellars n c }

/-- BP `b` of a croft. -/
def CroftRec.bp (c : CroftRec) (b : Nat) : BpRec := Tbl.get .zero c.bps b

/-- Replace BP `b` of a croft. -/
def CroftRec.setBp (c : CroftRec) (b : Nat) (r : BpRec) : CroftRec :=
  { c with bps := Tbl.set .zero c.bps b r }

/-- Channel A to D of a croft (R58). -/
def CroftRec.ch (c : CroftRec) : Nat → Channel
  | 0 => c.chA
  | 1 => c.chB
  | 2 => c.chC
  | _ => c.chD

/-- Replace channel A to D of a croft. -/
def CroftRec.setCh (c : CroftRec) (i : Nat) (r : Channel) : CroftRec :=
  match i with
  | 0 => { c with chA := r }
  | 1 => { c with chB := r }
  | 2 => { c with chC := r }
  | _ => { c with chD := r }

/-- The stored word of BP `b`, word `w`: an unwritten slot holds the NOP word (assumption log 6). -/
def CroftRec.word (c : CroftRec) (b w : Nat) : BitVec 80 := Tbl.get nopWord c.words (b * 1024 + w)

/-- Replace the stored word of BP `b`, word `w`. -/
def CroftRec.setWord (c : CroftRec) (b w : Nat) (v : BitVec 80) : CroftRec :=
  { c with words := Tbl.set nopWord c.words (b * 1024 + w) v }

/-- The record of Franel port `p`. -/
def State.port (s : State) (p : Nat) : PortRec := Tbl.get .blank s.ports p

/-- Replace the record of Franel port `p`. -/
def State.setPort (s : State) (p : Nat) (r : PortRec) : State :=
  { s with ports := Tbl.set .blank s.ports p r }

/-- Whether the sequencer lets domain `d` be powered (R411, R431, R432, R436, R450). -/
def State.granted (s : State) (d : Nat) : Bool :=
  let p := s.power
  p.vstby && !p.off.contains d &&
  (if d = 1140 then true
    else if d < 1056 then p.hamlets && !p.cut.contains (d / 132)
    else if d < 1064 then p.hamlets && !p.cut.contains (d - 1056)
    else if d < 1096 then p.hamlets && !p.cut.contains ((d - 1064) / 4)
    else if d < 1100 then p.cellars && !p.cut.contains (8 + (d - 1096))
    else p.green)

/-- The green core has power (R434, R440): not in STANDBY, WAKING or PARK. -/
def State.greenOn (s : State) : Bool := s.granted 1141 && s.obj 0x2100 1 != 3

/-- A driving instruction of the test port is in effect (R501). -/
def State.tapDriving (s : State) : Bool :=
  [0, 4, 5, 6, 7].contains s.tap.code.toNat && !s.tap.testEn && s.greenOn &&
    (s.dev == .prep || s.dev == .halt || s.dev == .fault)

/-- Who controls a land (R501). -/
inductive LandControl where
  | own
  | cells
  | highZ
  deriving DecidableEq, Repr

/-- Who controls a Franel, PCIe or ring land (`ac`) or another I/O land (R500, R501): EXTEST and CLAMP drive every land from
its cells, HIGHZ drives none, and EXTEST_PULSE and EXTEST_TRAIN have the cells of the AC-coupled lands alone. -/
def State.landControl (s : State) (ac : Bool) : LandControl :=
  if !s.tapDriving then .own
  else if s.tap.code = 5 then .highZ
  else if s.tap.code = 0 ∨ s.tap.code = 4 ∨ ac then .cells
  else .own

/-- What the boundary cells of land `n` put on it (R500, R501): what has been shifted into them is a free value
(assumption log 113). -/
def State.landCell (s : State) (n : Nat) : PinDrive :=
  let v := Config.freeBits 2 (s.tap.cells + n)
  if v.getLsbD 1 then .level (v.getLsbD 0) else .pull 0

/-- What land `n`, which is no AC-coupled one, has on it, when its own chapter gives it `d`. -/
def State.landDrive (s : State) (n : Nat) (d : PinDrive) : PinDrive :=
  match s.landControl false with
  | .own => d
  | .cells => s.landCell n
  | .highZ => .pull 0

/-- The bank that the executing rota uses (R188, 0x4801.01). -/
def State.bankNow (s : State) : Nat :=
  if s.obj 0x4801 2 = 3 ∧ s.rota < s.opn.swapRota then 1 - s.opn.active else s.opn.active

/-- Rota length L of the loaded stencil (R108). -/
def State.rotaLen (s : State) : Nat := s.obj 0x2400 1

/-- Commit lag C of the loaded stencil (R108). -/
def State.lag (s : State) : Nat := s.obj 0x2400 2

/-- Contract level of the loaded stencil (R270). -/
def State.level (s : State) : Nat := s.obj 0x2380 6

/-- The stroke clock in use: 16 or 13 (R2, R3; 0x2101.02, whose default is the grade). -/
def State.strokeClock (s : State) : Nat :=
  if s.obj 0x2101 2 = 0 then s.fuse.grade else s.obj 0x2101 2

/-! ## Events (R477, R478) -/

/-- Object index that holds source `src` (R480). -/
def evIndex (src : Nat) : Nat := 0x6000 + src / 16

/-- The configuration word of source `src` (R480). -/
def State.evConfig (s : State) (src : Nat) : Nat := s.obj (evIndex src) (1 + src % 16)

/-- Whether source `src` is pending (R477). -/
def State.evPending (s : State) (src : Nat) : Bool := bitAt (s.obj (evIndex src) 0x11) (src % 16)

/-- Base of the MSI-X table in the mirror (R472). -/
def msixTable : Nat := mirrorBase + 0x3F80000

/-- What bit 0 of the vector control word of an entry is stored with: the mask bit is set at reset, so that
an unlisted byte 0 reads as a set mask (assumption log 11). -/
def msixFlip (a : Nat) : Nat := b2n (a % 16 == 12)

/-- The byte at offset `o` of the MSI-X table. -/
def State.msixByte (s : State) (o : Nat) : Byte := s.byte (msixTable + o) ^^^ BitVec.ofNat 8 (msixFlip o)

/-- Whether the function or vector `v` is masked, or MSI-X is not enabled (R478). The table lies in
BAR0 at 0x3F8_0000; bit 0 of the vector control word of an entry is its mask. -/
def State.msixBlocked (s : State) (v : Nat) : Bool :=
  !s.msixEnable || s.msixFuncMask || (s.msixByte (v * 16 + 12)).getLsbD 0

/-- A delivery to MSI-X vector `v`: the message is sent, or the vector's pending-array bit is set. -/
def State.msixDeliver (s : State) (v : Nat) : State :=
  if s.msixBlocked v then { s with msixPending := s.msixPending ||| (1#64 <<< v) }
  else { s with msixSent := s.msixSent ++ [v] }

/-- Cellars enter or leave self-refresh (R435, R440). -/
def State.selfRefresh (s : State) (on : Bool) : State :=
  (upFrom 0 4).foldl (fun st n => st.setCellar n { st.cellar n with selfRefresh := on }) s

/-- What waking clears and records (R453): the wake alarms, the armed wake, and the reason. -/
def State.wakeMark (s : State) (why : Nat) : State :=
  let s1 := [1, 2, 3, 4].foldl (fun st i => st.setObj 0x2102 i 0) s
  ({ s1 with power := { s1.power with armed := none } }.setObj 0x2100 0xA why).setObj 0x2100 1 0

/-- Wake from IDLE or NAP (R440, R444). -/
def State.wakeLight (s : State) (why : Nat) : State :=
  (if s.obj 0x2100 1 = 2 then s.selfRefresh false else s).wakeMark why

/-- A ring notification waits to be sent (R478). -/
def State.noteWaits (s : State) (src : Nat) : State :=
  if s.ring.notes.contains src then s else { s with ring := { s.ring with notes := s.ring.notes ++ [src] } }

/-- R478: a pending, enabled source is delivered to its target. One to a core wakes the device from IDLE and NAP (R444); a ring
notification waits for its NOTIFY command, and the EVT pins follow the pending bits. -/
def State.evDeliver (s : State) (src : Nat) : State :=
  let cfg := s.evConfig src
  let inst := bits cfg 8 12
  match bits cfg 5 3 with
  | 1 =>
    let t := s.setObj (0x5310 + inst % 16) 3 (s.obj (0x5310 + inst % 16) 3 ||| 4)
    if t.obj 0x2100 1 = 1 ∨ t.obj 0x2100 1 = 2 then t.wakeLight 5 else t
  | 2 => s.msixDeliver inst
  | 3 => s.noteWaits src
  | _ => s

/-- Whether the event controller has power (R478). -/
def State.evPowered (s : State) : Bool :=
  s.dev ≠ .standby && (s.dev ≠ .waking || s.power.green) && s.obj 0x2100 1 != 3 && s.obj 0x2100 1 != 4

/-- R477: source `src` fires with cause `cause`. -/
def State.fire (s : State) (src cause : Nat) : State :=
  if !s.evPowered then s
  else
    let i := evIndex src
    let j := src % 16
    let s1 := s.setObj i (0x13 + j) (s.obj i (0x13 + j) ||| (1 <<< cause))
    if !bitAt (s.evConfig src) 0 then s1
    else if s.evPending src then s1.setObj i 0x12 (s1.obj i 0x12 ||| (1 <<< j))
    else (s1.setObj i 0x11 (s1.obj i 0x11 ||| (1 <<< j))).evDeliver src

/-! ## Device state changes (R475) -/

/-- An armed start is cancelled when the module leaves SET or HOLD without it (R252). -/
def State.cancelStart (s : State) : State := if s.obj 0x2403 6 = 1 then s.setObj 0x2403 6 0 else s

/-- Enter device state `d` (R475): every change is recorded and raises cause 0 of the device-state
source; entry to HALT also raises cause 1. A driving test-port instruction holds ALLSET low (R501). -/
def State.enter (s : State) (d : DevState) : State :=
  if s.dev = d then s
  else
    let s0 := if d = .set ∨ d = .hold then s else s.cancelStart
    let s1 := ({ s0 with dev := d }).setObj 0x2001 3 s.dev.code
    let s2 := (s1.bump 0x2001 4).fire 1360 0
    let s3 := if d = .halt then s2.fire 1360 1 else s2
    if s3.tapDriving then { s3 with allset := { s3.allset with released := false } } else s3

/-! ## Fouls, halts and hazards (R238, R281, R476) -/

/-- Charge a foul cause to execution `e` (R238). -/
def State.chargeFoul (s : State) (e : Nat) : State :=
  if e ∈ s.bell.fouls then s else { s with bell := { s.bell with fouls := s.bell.fouls ++ [e] } }

/-- The execution in whose local message a foul cause or a request is set first: of
the executing rota, in a fallow of the next rota executed (R238, R246, R511). -/
def State.requestExec (s : State) : Nat :=
  match s.phase with
  | .rota _ => s.exec
  | .boundary => s.exec
  | _ => s.exec + 1

/-- Charge a foul cause to the executing rota (R238, R511). -/
def State.foul (s : State) : State := s.chargeFoul s.requestExec

/-- A cause that moves the device to HALT at the next boundary (R476). -/
def State.haltAtBoundary (s : State) (cause : Nat) : State :=
  if cause ∈ s.halts then s else { s with halts := s.halts ++ [cause] }

/-- Push a record into a newest-first log of 16 objects at `i.lo` to `i.lo+15`. -/
def State.pushLog (s : State) (i lo v : Nat) : Nat → State
  | 0 => s.setObj i lo v
  | n + 1 => (s.setObj i (lo + n + 1) (s.obj i (lo + n))).pushLog i lo v n

/-- R281: the record of a hazard, as its [21:0] field. -/
def State.hazardRecord (s : State) (kind stroke low22 : Nat) : Nat :=
  (s.rota % 2 ^ 28) <<< 36 + kind <<< 32 + stroke <<< 22 + low22

/-- R280, R281: a hazard of a kind at a stroke, charged to execution `e`. -/
def State.hazard (s : State) (kind stroke low22 e : Nat) : State :=
  if !s.debug || !bitAt (s.obj 0x2410 2) kind then s
  else
    let s1 := ((s.bump 0x2410 3).bump 0x2410 4).pushLog 0x2410 5 (s.hazardRecord kind stroke low22) 15
    let s2 := s1.fire 1362 0
    if s.obj 0x2410 1 = 1 then s2.chargeFoul e else s2

/-! ## Dictionary writes (R470) -/

/-- What a write of an object does once checks 1 to 5 of R470 have passed: the new state, or the abort
code of check 6 or 7. -/
abbrev WriteResult := Except Nat State

/-- Abort 0x0609_0030, INVALID_VALUE (R470). -/
def abInvalid : Nat := 0x06090030

/-- Abort 0x0800_0022, STATE_CONFLICT (R470). -/
def abState : Nat := 0x08000022

/-- Abort 0x0601_0002, ACCESS (R470). -/
def abAccess : Nat := 0x06010002

/-! ## Answers (R171, R172) -/

/-- Response OPs of R171; 0 stands for the read data of a successful READ. -/
def opData : Nat := 0
def opAck : Nat := 2
def opDecode : Nat := 3
def opBusy : Nat := 4
def opShuttered : Nat := 5
def opUncorrectable : Nat := 6
def opNotPowered : Nat := 7

/-- The statistics object of packet initiator `i` (R190). -/
def statObj (i : Nat) : Nat := 0x4880 + (i - 1024)

/-- Whether initiator `i` is a packet initiator with an entry at every target (R176, R184). -/
def packetInit (i : Nat) : Bool := decide (1024 ≤ i) && decide (i < 1152)

/-- Histogram bin of a latency (R184). -/
def latencyBin (lat : Nat) : Nat :=
  if lat < 16 then 0 else if 2 ^ 18 ≤ lat then 15 else Nat.log2 lat - 3

/-- Add `n` to a statistics counter of a packet initiator (R184). -/
def State.bumpStat (s : State) (init sub : Nat) (n : Nat := 1) : State :=
  if packetInit init then s.bump (statObj init) sub n else s

/-- A latency that no command gives is a free value: its occurrence is kept, and the statistics that rest on it read
it (assumption log 41); `grant` marks the wait of an RSV. -/
def State.sampleWait (s : State) (init : Nat) (grant : Bool) : State :=
  { s with opn := { s.opn with samples := s.opn.samples ++ [(init, grant, s.freeKey 0)] } }.freeNext

/-- R184: the latency of an answered READ or WRITE. -/
def State.countLatency (s : State) (init lat : Nat) : State :=
  let i := statObj init
  let s1 := if lat < s.obj i 3 then s.setObj i 3 lat else s
  ((s1.peak i 4 lat).bump i 5 lat).bump i (8 + latencyBin lat)

/-- R184: an answered READ or WRITE is counted at its initiator, when that is a packet initiator. -/
def State.countAnswer (s : State) (who : Asker) (op : Nat) : State :=
  if !packetInit who.init || !s.greenOn then s
  else
    let i := statObj who.init
    let ok := op = opData ∨ op = opAck
    let s1 := (s.bump i 1).bump i 2 (if ok then who.size else 0)
    let s2 := if ok then s1 else s1.bump i 7
    match who.lat with
    | some l => s2.countLatency who.init l
    | none => s2.sampleWait who.init false

/-- The reservation entry of initiator `i` at target `t` (R176). -/
def State.rsv (s : State) (t i : Nat) : Rsv := Tbl.get .none s.opn.rsvs (t * 2048 + i)

/-- Replace a reservation entry. -/
def State.setRsv (s : State) (t i : Nat) (r : Rsv) : State :=
  { s with opn := { s.opn with rsvs := Tbl.set .none s.opn.rsvs (t * 2048 + i) r } }

/-- One buffer fewer: M requests use buffers of the pool for M first (log 20). -/
def Rsv.drop (r : Rsv) (cls : Nat) : Rsv :=
  if (cls = 0 ∧ r.heldM ≠ 0) ∨ r.heldTB = 0 then { r with heldM := r.heldM - 1 }
  else { r with heldTB := r.heldTB - 1 }

/-- Record an RSV of `n` buffers of class `cls` in the entry of `init` at target `t` (R176). -/
def State.askBuffers (s : State) (t init cls n tag : Nat) (net : Bool) : State :=
  let s1 := s.setRsv t init
    { s.rsv t init with want := n, cls := cls, order := s.opn.rsvOrder, tag := tag, net := net }
  { s1 with opn := { s1.opn with rsvOrder := s.opn.rsvOrder + 1 } }

/-- The transaction is open, if one of its tag is not already: its initiator waits for an answer (R175). -/
def State.openTrans (s : State) (o : Trans) : State :=
  if s.opn.trans.any (fun x => x.init == o.init && x.tag == o.tag) then s
  else { s with opn := { s.opn with trans := s.opn.trans ++ [o] } }

/-- The transaction of an RSV: its answer is the GRANT (R172, R175). -/
def Trans.ask (init tag tgt : Nat) : Trans := ⟨init, tag, tgt, 0, false, false, .rsv⟩

/-- The lowest tag of an initiator that is neither open nor at rest (R175). -/
def State.freshTag (s : State) (init : Nat) : Nat :=
  ((upFrom 0 256).find? (fun t =>
    !(s.opn.trans ++ s.opn.retired).any (fun o => o.init == init && o.tag == t))).getD 0

/-- An initiator sends RSV(1) for an access that it holds back (R176): the target records it, and the initiator waits for
the GRANT (R175). -/
def State.sendRsv (s : State) (t init cls : Nat) : State :=
  let tag := s.freshTag init
  (s.askBuffers t init cls 1 tag false).openTrans (.ask init tag t)

/-- The buffer of an answered request frees (R176); an access that its initiator holds back for want of one is then
asked for, unless an RSV waits already. -/
def State.freeBuffer (s : State) (who : Asker) : State :=
  if who.home = 0 then s
  else
    let t := who.home - 1
    let r := s.rsv t who.init
    let s1 := s.setRsv t who.init { r.drop who.cls with busy := r.busy - 1 }
    match s.opn.parked.find? (fun p => p.asker.home == who.home && p.asker.init == who.init) with
    | some p => if r.want ≠ 0 ∨ s.opn.bHeld then s1 else s1.sendRsv t who.init p.asker.cls
    | none => s1

/-- A discarded code or protocol error (0x4800.03). -/
def State.discardCode (s : State) : State := s.bump 0x4800 3

/-- R173: a packet flit that is found in error in hamlet `h` is discarded whole, counted and reported. -/
def State.flitError (s : State) (h : Nat) : State := (s.bump 0x4800 2).fire (1024 + h) 2

/-- Initiator numbers that R154 reserves. -/
def reservedInit (i : Nat) : Bool := (decide (1135 ≤ i) && decide (i < 1152)) || decide (1440 ≤ i)

/-- Object index of tally `n` (R331). -/
def yObj (n : Nat) : Nat := 0x5200 + n

/-- Bytes that a source moved in state `u` wait for the tallies that snooped it there and still do (R326): `kind` and `inst`
name the source. -/
def State.snoopBy (s u : State) (kind inst : Nat) (bs : List Byte) : State :=
  (upFrom 0 16).foldl (fun st n =>
    if u.obj (yObj n) 6 = inst * 16 + kind ∧ st.obj (yObj n) 6 = inst * 16 + kind then
      { st with snooped := Tbl.set [] st.snooped n (Tbl.get [] st.snooped n ++ bs) }
    else st) s

/-- Bytes that a snooped source moved wait for their tallies (R326). -/
def State.snoop (s : State) (kind inst : Nat) (bs : List Byte) : State := s.snoopBy s kind inst bs

/-- What the initiator's user gets of an answer: the host that of the packet of its access through BAR2 (R498);
a ring command the answer of its packet (R466); a core that of its access (R335); and a hedgerow initiator that of
its packet (R298). -/
def State.deliver (s : State) (who : Asker) (op : Nat) (data : List Byte) : State :=
  if !who.user then s
  else if who.init = 1112 then
    { s with pcie := { s.pcie with moves := match s.pcie.moves with
                         | [] => []
                         | m :: rest => { m with answer := some (op, data) } :: rest } }
  else if who.init = 1113 then
    { s with ring := { s.ring with move := s.ring.move.map (fun m => { m with answer := some (op, data) }) } }
  else if 1088 ≤ who.init ∧ who.init < 1104 then
    let c := Tbl.get .rest s.cores (who.init - 1088)
    match c.wait with
    | some w => { s with cores := Tbl.set .rest s.cores (who.init - 1088)
                           { c with wait := none, got := c.got ++ [(w, op, data)] } }
    | none => s
  else if who.init < 1088 then
    let h := Tbl.get .blank s.hedge.inits (who.init - 1024)
    { s with hedge := { s.hedge with inits := Tbl.set .blank s.hedge.inits (who.init - 1024)
                                       { h with answer := some (none, op, data) } } }
  else s

/-- An answer arrives at its initiator (R171, R184): it is counted, its read data are what a tally may snoop (R326),
and the user gets it. One to a reserved number is discarded and counted (R154). -/
def State.arrive (s : State) (who : Asker) (op : Nat) (data : List Byte) : State :=
  if reservedInit who.init then s.discardCode
  else
    let s1 := { s with answer := ⟨who, op, data⟩ }.countAnswer who op
    (if op = opData then s1.snoop 3 who.init data else s1).deliver who op data

/-- The answer SHUTTERED of an RSV comes to its initiator (R186): no READ or WRITE has been answered, so it counts an error
answer alone (R190), and the user gets the answer of the access that the RSV was for. -/
def State.rsvRefused (s : State) (who : Asker) : State :=
  let s1 := { s with answer := ⟨who, opShuttered, []⟩ }
  (if s1.greenOn then s1.bumpStat who.init 7 else s1).deliver who opShuttered []

/-- A router answers an RSV SHUTTERED (R186). -/
def State.refuseRsv (s : State) (who : Asker) : State :=
  let s1 := s.bump 0x4800 5
  if reservedInit who.init then s1.discardCode else s1.rsvRefused who

/-- Transaction `tag` of initiator `init` ends. -/
def State.endTrans (s : State) (init tag : Nat) : State :=
  { s with opn := { s.opn with trans := s.opn.trans.filter (fun o => !(o.init == init && o.tag == tag)) } }

/-- The requester of an open READ or WRITE, with the latency of its answer (R184). -/
def Trans.asker (o : Trans) (lat : Option Nat) : Asker :=
  let a := { Asker.plain o.init with tag := o.tag, lat := lat, user := o.user }
  match o.kind with
  | .rsv => a
  | .access size cls write => { a with size := size, cls := cls, write := write }

/-- The READ or WRITE that an answer to `tag` of `init` belongs to, if it is open (R174, R175). -/
def State.awaited (s : State) (init tag : Nat) : Option Trans :=
  s.opn.trans.find? (fun o => o.init == init && o.tag == tag && !o.spoiled && o.kind != .rsv)

/-- The latency of an answer: that which a row gives, else the strokes that the transaction has waited (R184). -/
def Trans.latency (o : Trans) : Option Nat → Option Nat
  | some l => some l
  | none => some o.waited

/-- A response flit that is no GRANT comes to its initiator (R171, R173, R175): one in error is discarded by the router
that finds it, in hamlet `h`; one with a reserved code, or for a reserved number (R154), is discarded and counted; one for
a tag that has ended is discarded. -/
def State.takeResponse (s : State) (h : Nat) (lat : Option Nat) (w : BitVec 144) : State :=
  let f := respOf w
  if !netGood .response w then s.flitError h
  else if f.cls = 0 ∨ f.op = 0 ∨ 8 ≤ f.op.toNat ∨ reservedInit f.dest.toNat then s.discardCode
  else
    match s.awaited f.dest.toNat f.tag.toNat with
    | none => s
    | some o => (s.endTrans o.init o.tag).arrive (o.asker (o.latency lat)) f.op.toNat []

/-- The beats of read data that an initiator holds under a tag (R174). -/
def State.readPart (s : State) (init tag : Nat) : List DataFlit :=
  ((s.opn.reads.find? (fun x => x.init == init && x.tag == tag)).map (·.beats)).getD []

/-- Replace them; none is no entry. -/
def State.setReadPart (s : State) (init tag : Nat) (beats : List DataFlit) : State :=
  let rest := s.opn.reads.filter (fun x => !(x.init == init && x.tag == tag))
  { s with opn := { s.opn with reads := if beats = [] then rest else rest ++ [⟨init, tag, beats⟩] } }

/-- A beat of read data comes to its initiator (R170, R173 to R175): what is discarded is as for a response; the
transaction has its answer once every beat is there. -/
def State.takeBeat (s : State) (h : Nat) (lat : Option Nat) (w : BitVec 144) : State :=
  let f := dataOf w
  if !netGood .data w then s.flitError h
  else if f.cls = 0 ∨ 2 ≤ f.kind.toNat ∨ reservedInit f.src.toNat then s.discardCode
  else
    match s.awaited f.src.toNat f.tag.toNat with
    | none => s
    | some o =>
      let beats := s.readPart o.init o.tag ++ [f]
      match assemble beats with
      | none => s.setReadPart o.init o.tag beats
      | some data => ((s.setReadPart o.init o.tag []).endTrans o.init o.tag).arrive (o.asker (o.latency lat)) opData data

/-- A flit of an answer comes to its initiator. -/
def State.takeAnswer (s : State) (h : Nat) (lat : Option Nat) (x : Net × BitVec 144) : State :=
  if x.1 = .data then s.takeBeat h lat x.2 else s.takeResponse h lat x.2

/-- The flits of an answer with the bits that are flipped on their way. -/
def flipped : List (Net × BitVec 144) → List (BitVec 144) → List (Net × BitVec 144)
  | [], _ => []
  | x :: xs, [] => x :: xs
  | x :: xs, e :: es => (x.1, x.2 ^^^ e) :: flipped xs es

/-- The node of the target whose response buffer an answer uses (R171); an answer that uses none comes from the green. -/
def Asker.source (who : Asker) : Nat := if who.home = 0 then 1024 else targetNode (who.home - 1)

/-- The answer of a transaction goes its way to the initiator (R171, R172), flit by flit. Flits that arrive as they were
sent give the initiator what they were formed from (`assemble_readBeats`, `respOf_answerFlit`). -/
def State.answerComes (s : State) (who : Asker) (op : Nat) (data : List Byte) : State :=
  if who.fate.flips.all (fun e => e == 0) then (s.endTrans who.init who.tag).arrive who op data
  else
    (flipped (answerFlits who.source who op data) who.fate.flips).foldl
      (fun st x => st.takeAnswer who.fate.finder.val who.lat x) s

/-! ## Packet flits on the networks (R150, R155) -/

/-- Number of a network. -/
def netNo : Net → Nat
  | .request => 0
  | .response => 1
  | .snoop => 2
  | .data => 3

/-- Key of the buffer of class `cls` (1 M, 2 T, 3 B) at input `i` of `node` on a network: a router; the output of the hub
switch to green port `g` (1024 + g); or what crosses the hub switch alone (1056). -/
def bufferKey (net : Net) (node i cls : Nat) : Nat := ((netNo net * 2048 + node) * 8 + i) * 4 + cls

/-- The node of the networks at which a flit enters that an agent at `node` gives (R152, R157): the green injects every
packet for router (x, y) on port y. -/
def entryNode (node dest : Nat) : Nat :=
  if node ≠ 1024 then node else if dest = 1024 then 1056 else 1024 + dest / 32

/-- Strokes from an agent's hand-off of a flit to its first router's, or the hub switch's, choice of it (R155, R156). -/
def entryDelay (level node : Nat) : Nat := if node < 1024 then 1 else if level = 2 then 2 else 3

/-- A flit waits at the agent of `node` for its network, behind the agent's earlier ones of its class (R168). -/
def State.enterNet (s : State) (node : Nat) (net : Net) (w : BitVec 144) (within : Bool) : State :=
  let m := entryNode node (netDest net w)
  let k := bufferKey net m 4 (netCls net w)
  let n := s.opn.net
  { s with opn := { s.opn with net := { n with
      buffers := Tbl.set [] n.buffers k
        (Tbl.get [] n.buffers k ++ [⟨w, within, n.count + entryDelay s.level m⟩]) } } }

/-- A response flit of OP `op` leaves `node` for a requester through the network (R171). -/
def State.sendResponse (s : State) (node : Nat) (who : Asker) (op : Nat) (arg : Nat := 0) : State :=
  s.enterNet node .response ((respWord (answerFlit node who op arg)).setWidth 144) false

/-- The answer of a hedgerow initiator's packet is on its way until PACKET_DONE (R298). -/
def State.answerWaits (s : State) (who : Asker) (op : Nat) (data : List Byte) : State :=
  let h := Tbl.get .blank s.hedge.inits (who.init - 1024)
  { s with hedge := { s.hedge with inits := Tbl.set .blank s.hedge.inits (who.init - 1024)
                                     { h with answer := some (some who, op, data) } } }

/-- The target sends the answer of a transaction (R171, R172): its buffer frees, and the answer goes its way, through the
networks where the request came through them. One for a tag that has ended is discarded by the initiator (R175), and one
that is lost does not come. -/
def State.reply (s : State) (who : Asker) (op : Nat) (data : List Byte) : State :=
  let s1 := (if op = opShuttered then s.bump 0x4800 5 else s).freeBuffer who
  match who.via with
  | some node => (answerFlits node who op data).foldl (fun st x => st.enterNet node x.1 x.2 false) s1
  | none =>
    match s1.opn.trans.find? (fun o => o.init == who.init && o.tag == who.tag) with
    | none => s1
    | some o =>
      let w := { who with user := o.user }
      if o.spoiled then s1
      else if o.user ∧ who.init < 1088 then s1.answerWaits w op data
      else s1.answerComes w op data

/-- The user of initiator `init` no longer waits for what it has asked for. -/
def State.dropUser (s : State) (init : Nat) : State :=
  { s with opn := { s.opn with
             trans := s.opn.trans.map (fun o => if o.init = init then { o with user := false } else o),
             parked := s.opn.parked.filter (fun p => p.asker.init != init) } }

/-! ## Lines that cores hold (R178) -/

/-- The 64-byte lines that an access of `n` bytes at byte `off` of a home meets. -/
def linesOf (off n : Nat) : List Nat := upFrom (off / 64) ((off + n - 1) / 64 + 1 - off / 64)

/-- The (line, core) pairs of a snoop filter that a write by initiator `init` must invalidate: every core
that holds a line of it but the writer. -/
def holdersIn (filter : List (Nat × Nat)) (off n init : Nat) : List (Nat × Nat) :=
  filter.filter (fun e => (linesOf off n).contains e.1 && 1088 + e.2 != init)

/-- The byte address at which a home begins: a croft's larder, cellar `t - 1024`, or the scratchpad (1028). -/
def homeBase (t : Nat) : Nat :=
  if t < 1024 then croftBase t else if t < 1028 then (t - 1024) * cellarBytes else scratchBase

/-- Whether an answer that a core holds is a part of a fill of the line at byte address `64 * line`. -/
def fillOf (line : Nat) (key : Bool × Nat × Nat) : Bool := decide (512 ≤ key.2.2) && key.2.1 / 64 == line

/-- Core `k` loses the line at byte address `64 * line` from both caches (R334), and what a fill under way has had of
it. -/
def State.uncache (s : State) (k line : Nat) : State :=
  let c := Tbl.get .rest s.cores k
  let c1 := { c with icache := Tbl.del line c.icache, dcache := Tbl.del line c.dcache,
                     got := c.got.filter (fun e => !fillOf line e.1) }
  { s with cores := Tbl.set .rest s.cores k c1 }

/-- Lines of home `t` are removed from the caches of the cores that hold them. -/
def State.uncacheAll (s : State) (t : Nat) (es : List (Nat × Nat)) : State :=
  es.foldl (fun st e => st.uncache e.2 (homeBase t / 64 + e.1)) s

/-- An access waits at its home for INV_ACK (R178). -/
def State.holdAccess (s : State) (h : HeldAccess) : State := { s with heldWrites := s.heldWrites ++ [h] }

end Sys2Proof.Machine
end

