-- ==== Sys2Proof/Machine/Events.lean ====
section
/-!
DEFINITION. The event controller (R477 to R480): configuration, the top-pending objects, the EVT pins, the
sources that can fire, software raise and pending MSI-X messages.
-/

namespace Sys2Proof.Machine

/-- The sources of an object's pending bits (R480). -/
def pendingOf (k v : Nat) : List Nat :=
  ((upFrom 0 16).filter (fun j => bitAt v j)).map (fun j => (k / 256 - 0x6000) * 16 + j)

/-- Every pending source, in ascending order (R477). -/
def State.pendingSources (s : State) : List Nat :=
  s.objs.flatMap (fun e =>
    if 0x6000 ≤ e.1 / 256 ∧ e.1 / 256 < 0x6100 ∧ e.1 % 256 = 0x11 then pendingOf e.1 e.2 else [])

/-- Whether source `src` is enabled for target `tgt` and instance `inst` (R480). -/
def State.evTargets (s : State) (src tgt inst : Nat) : Bool :=
  let c := s.evConfig src
  bitAt c 0 && bits c 5 3 == tgt && bits c 8 12 == inst

/-- The first of two sources in the order of R478: by priority, then by number. -/
def State.evFirst (s : State) (a b : Nat) : Nat :=
  let p := bits (s.evConfig a) 1 4
  let q := bits (s.evConfig b) 1 4
  if q < p ∨ (q = p ∧ b < a) then b else a

/-- The top-pending source of core `k`, 0xFFFF when none (R478, R480). -/
def State.topPending (s : State) (k : Nat) : Nat :=
  match s.pendingSources.filter (fun x => s.evTargets x 1 k) with
  | [] => 0xFFFF
  | x :: t => t.foldl s.evFirst x

/-- The EVT pins (R478, 0x6000.35): pin n is high while an enabled source that targets it is pending. -/
def State.evtPins (s : State) : Nat :=
  if !s.evPowered then 0
  else
    (upFrom 0 4).foldl (fun w n =>
      if s.pendingSources.any (fun x => s.evTargets x 4 n) then w + 2 ^ n else w) 0

/-- What stands on land EVT `n` (R478, R488, R501). -/
def State.evtPin (s : State) (n : Nat) : PinDrive := s.landDrive (1032 + n) (.level (bitAt s.evtPins n))

/-- Check 6 of R470 for a configuration word (R480). -/
def evConfigOk (v : Nat) : Bool :=
  let inst := bits v 8 12
  match bits v 5 3 with
  | 0 => true
  | 1 => decide (inst < 16)
  | 2 => decide (inst < 64)
  | 3 => true
  | 4 => decide (inst < 4)
  | _ => false

/-- A write of the configuration of source `src` (R477, R480): enabling a source whose latch is not zero
sets pending and delivers it. -/
def State.writeEvConfig (s : State) (src v : Nat) : WriteResult :=
  if !evConfigOk v then .error abInvalid
  else
    let was := bitAt (s.evConfig src) 0
    let i := evIndex src
    let j := src % 16
    let s1 := s.setObj i (1 + j) (v % 2 ^ 20)
    .ok (if !was && bitAt v 0 && s.obj i (0x13 + j) != 0 then
        (s1.setObj i 0x11 (s1.obj i 0x11 ||| (1 <<< j))).evDeliver src
      else s1)

/-- A write of an object of the event controller, the W1C objects apart (R480). -/
def State.writeEvent (s : State) (i sub v : Nat) : WriteResult :=
  if 1 ≤ sub ∧ sub ≤ 0x10 then s.writeEvConfig ((i - 0x6000) * 16 + (sub - 1)) v
  else if sub = 0x23 then
    (if 2048 ≤ v ∧ v < 4096 then .ok (s.fire v 0) else .error abInvalid)
  else if sub = 0x34 then
    (if 100 ≤ v ∧ v ≤ 1000000 then .ok (s.setObj 0x6000 0x34 v) else .error abInvalid)
  else .ok (s.setObj i sub v)

/-- The units of R479, in ascending order: first source, number of sources, number of causes. -/
def eventUnits : List (Nat × Nat × Nat) :=
  [(0, 1024, 4), (1024, 8, 5), (1032, 32, 6), (1064, 4, 4), (1068, 256, 2), (1324, 9, 4), (1333, 12, 2),
   (1345, 1, 1), (1346, 1, 1), (1347, 1, 3), (1348, 1, 2), (1349, 1, 2), (1350, 8, 1), (1358, 1, 5),
   (1359, 1, 3), (1360, 1, 2), (1361, 1, 2), (1362, 1, 1), (1363, 1, 3), (2048, 2048, 1)]

/-- Whether R479 lists cause `cause` for source `src`. -/
def causeListed (src cause : Nat) : Bool :=
  eventUnits.any (fun u => decide (u.1 ≤ src) && decide (src < u.1 + u.2.1) && decide (cause < u.2.2))

/-- EVENT_FIRE (R477): a source that R479 does not list never fires. -/
def execEventFire (src : Fin 4096) (cause : Fin 16) (s : State) : Host.Outcome State Fault Refusal :=
  .next (if s.power.vstby ∧ causeListed src.val cause.val then s.fire src.val cause.val else s)

/-- The first pending source that targets vector `v`, if there is one. -/
def State.vectorSource (s : State) (v : Nat) : Option Nat :=
  match s.pendingSources.filter (fun x => s.evTargets x 2 v) with
  | [] => none
  | x :: t => some (t.foldl s.evFirst x)

/-- Whether the delivery of vector `v` goes before that of `w` (R478): by their sources; a vector whose sources are no
longer pending goes after one whose are, and the lower number first. -/
def State.vectorBefore (s : State) (v w : Nat) : Bool :=
  match s.vectorSource v, s.vectorSource w with
  | some a, some b => s.evFirst a b == a
  | some _, none => true
  | none, some _ => false
  | none, none => decide (v ≤ w)

/-- MSIX_PENDING_SEND (R478): the message of a pending vector is sent once nothing masks it, in the order of the deliveries
that wait. -/
def execMsixPendingSend (v : Fin 64) (s : State) : Host.Outcome State Fault Refusal :=
  let waits := fun w : Nat => s.msixPending.getLsbD w && !s.msixBlocked w
  .next (if waits v.val && (upFrom 0 64).all (fun w => !waits w || s.vectorBefore v.val w) then
      { s with msixPending := s.msixPending &&& ~~~(1#64 <<< v.val), msixSent := s.msixSent ++ [v.val] }
    else s)

end Sys2Proof.Machine
end

