-- ==== Sys2Proof/Machine/Operands.lean ====
section
/-!
DEFINITION. The operand forms of a BP instruction: the fields of the word (R34, R51) and what each
selector reads (R43 to R49, R65), with the hazards that the read shows (R280).
-/

namespace Sys2Proof.Machine

/-! ## Fields of a payload (R34, R51) -/

def wSub (p : Nat) : Nat := bits p 0 3
def wWatch (p : Nat) : Bool := bitAt p 3
def wHold (p : Nat) : Bool := bitAt p 4
def wClass (p : Nat) : Nat := bits p 5 3
def wA (p : Nat) : Nat := bits p 8 12
def wB (p : Nat) : Nat := bits p 20 12
def wC (p : Nat) : Nat := bits p 32 12
def wD (p : Nat) : Nat := bits p 44 12
def wTT (p : Nat) : BitVec 16 := BitVec.ofNat 16 (bits p 56 16)

/-- R55: an EVAL word with HOLD set is the NOP. -/
def wNop (p : Nat) : Bool := wClass p == 0 && wHold p

/-! ## What a BP read depends on -/

/-- The context of a read at stroke `s`: the croft at the start of the stroke, the commit lag, whether
the croft is in X mode, and the key for free values. -/
structure ReadCtx where
  croft : CroftRec
  s : Nat
  lag : Nat
  x : Bool
  key : Nat

/-- A value that no rule gives: a selector that the loader rejects, left in a store by a window write
(assumption log 7). -/
def ReadCtx.free (c : ReadCtx) (site : Nat) : Rail :=
  let f := Config.freeBits 2 (c.key + site)
  if c.x then ⟨f.getLsbD 0 && f.getLsbD 1, f.getLsbD 1⟩ else .known (f.getLsbD 0)

/-- History bit `i` of BP `b` (R43). -/
def ReadCtx.hist (c : ReadCtx) (b i : Nat) : Bool := (c.croft.bp b).hist.getLsbD i

/-- A pair of history bits, or one known bit (R65). -/
def ReadCtx.histRail (c : ReadCtx) (b i : Nat) : Rail :=
  ⟨c.hist b i, !c.x || c.hist (b + 1) i⟩

/-- State bit `i` of the read generation (R49, R65). -/
def ReadCtx.stateRail (c : ReadCtx) (b i : Nat) : Rail :=
  ⟨(c.croft.bp b).read.getLsbD i, !c.x || (c.croft.bp (b + 1)).read.getLsbD i⟩

/-- R44: the state index that word `i` of BP `b` latches, when that word is an EVAL_LATCH with HOLD clear. A word that is
uncorrectable in the store latches none, so that the read gives a free value (DESIGN CHOICE, assumption log 7). -/
def carryIndex (c : CroftRec) (b i : Nat) : Option Nat :=
  match decodeWord (c.word b i) with
  | .bad => none
  | d => if wClass d.data = 1 ∧ !wHold d.data then some (wD d.data % 512) else none

/-- Bit `n` of slot 0 or slot 1 of channel `ch` of the data register (R58). -/
def ReadCtx.slotBit (c : ReadCtx) (ch : Nat) (slot1 : Bool) (n : Nat) : Bool :=
  let r := c.croft.ch ch
  (if slot1 then r.slot1 else r.slot0).getLsbD n

/-- The signal that selector `sel` of BP `b` reads (R43 to R49, R65). `site` names the read for free
values. -/
def ReadCtx.sel (c : ReadCtx) (b sel site : Nat) : Rail :=
  let i := sel % 1024
  match sel / 1024 with
  | 0 =>
    if i < c.s then c.histRail b i
    else
      match carryIndex c.croft b i with
      | some x => c.stateRail b x
      | none => c.free site
  | 1 => if i % 16 < c.s then c.histRail (i / 16) (c.s - 1 - i % 16) else c.free site
  | 2 => ⟨c.croft.arrival.getLsbD i, !c.x || c.croft.arrival.getLsbD (i + 1)⟩
  | _ =>
    if i < 0x200 then (if c.lag = 2 ∧ 384 ≤ i then c.free site else c.stateRail b i)
    else if i < 0x220 then
      let ch := (i - 0x200) / 8
      let slot1 := bitAt i 2
      if c.x then
        (if slot1 then c.free site else ⟨c.slotBit ch false (i % 4), c.slotBit ch true (i % 4)⟩)
      else .known (c.slotBit ch slot1 (i % 4))
    else if i = 0x3FE then .known false
    else if i = 0x3FF then .known true
    else c.free site

/-- The hazards of R280 that a read by selector `sel` shows, as (kind, DETAIL); `p` is the operand
number, or 0x20 for a gang operand (R281). -/
def ReadCtx.hazards (c : ReadCtx) (sel p : Nat) : List (Nat × Nat) :=
  let i := sel % 1024
  match sel / 1024 with
  | 2 =>
    if c.croft.landed.getLsbD i && (!c.x || c.croft.landed.getLsbD (i + 1)) then [] else [(1, p)]
  | 3 =>
    if 0x200 ≤ i ∧ i < 0x220 then
      let ch := (i - 0x200) / 8
      let slot1 := !c.x && bitAt i 2
      let r := c.croft.ch ch
      let detail := p + 4 * ch + 16 * b2n slot1
      (if r.loads.any (fun l => l.slot1 == slot1) then [(2, detail)] else []) ++
        (if (if slot1 then r.loaded1 else r.loaded0) then [] else [(3, detail)])
    else []
  | _ => []

/-- The four operand signals of a word at BP `b`. An EVAL_LATCH word and EVAL_SETX's table use D as
R50 and R67 say; D of an EVAL_LATCH word is an index and is not read. -/
def ReadCtx.operands (c : ReadCtx) (b p : Nat) : Quad4 where
  a := c.sel b (wA p) (b * 8)
  b := c.sel b (wB p) (b * 8 + 1)
  c := c.sel b (wC p) (b * 8 + 2)
  d := if wClass p = 1 then .known false else c.sel b (wD p) (b * 8 + 3)

/-- The hazards of the four operands of a word. -/
def ReadCtx.operandHazards (c : ReadCtx) (p : Nat) : List (Nat × Nat) :=
  c.hazards (wA p) 0 ++ c.hazards (wB p) 1 ++ c.hazards (wC p) 2 ++
    (if wClass p = 1 then [] else c.hazards (wD p) 3)

end Sys2Proof.Machine
end

