-- ==== Sys2Proof/Machine/Larder.lean ====
section
/-!
DEFINITION. The larders (R111 to R123, R141 to R147): what BP reads and writes do to a bank and the
write buffer, the accesses of requesters that are not BPs, retention, scrub, and the background test.
-/

namespace Sys2Proof.Machine

/-! ## Words and banks (R111) -/

/-- Word address of the bank word that holds nibble `a` of croft `k`'s larder (R111). -/
def larderWord (k a : Nat) : Nat := croftBase k / 8 + a / 16

/-- Bank of nibble `a` (R111). -/
def bankOf (a : Nat) : Nat := a / 0x20000

/-- Sub-index of croft `k` in the hamlet's larder objects (R148). -/
def cSub (k : Nat) : Nat := k % 128 + 1

/-- Object index `Hb + off` of the hamlet of croft `k`. -/
def hOff (k off : Nat) : Nat := hObj (k / 128) + off

/-- The mode that the larder bank mode object holds for bank `b` of croft `k` (R141). -/
def State.bankMode (s : State) (k b : Nat) : Nat := bits (s.obj (hOff k 0x20) (cSub k)) (2 * b) 2

/-- The mode a bank is in: in power state NAP every ACTIVE bank is in RETAIN (R142). -/
def State.bankModeNow (s : State) (k b : Nat) : Nat :=
  if s.bankMode k b = 2 ∧ s.obj 0x2100 1 = 2 then 1 else s.bankMode k b

/-- Whether the dust sheet of croft `c` leaves rota `r` to the croft itself (R102 to R105). -/
def CroftRec.bare (c : CroftRec) (r : Nat) : Bool :=
  match c.sheet with
  | .down => true
  | .raising => decide (r ≤ c.sheetRota)
  | .upHeld => false
  | .upLoadable => false
  | .lowering => decide (c.sheetRota < r)

/-- Whether croft `c` runs its instructions in rota `r` (R102 to R105): a croft with no section has none. -/
def CroftRec.runs (c : CroftRec) (r : Nat) : Bool := c.mode != 0 && c.bare r

/-! ## Uncorrectable words met by BPs (R123) -/

/-- R123: a BP read or a reserved cellar read met an uncorrectable word. The first meeting in a rota
rings foul; a meeting of the same word on the rota's replay moves the device to HALT. -/
def State.uncorrectable (s : State) (w : Nat) : State :=
  match s.uncorrected.find? (fun e => e.1 == s.rota && e.2.1 == w) with
  | some e => if e.2.2 = s.exec then s else s.haltAtBoundary 2
  | none => { s with uncorrected := s.uncorrected ++ [(s.rota, w, s.exec)] }.foul

/-- A write that is not a BP's rewrites a word (R123). -/
def State.forgetUncorrected (s : State) (w : Nat) : State :=
  { s with uncorrected := s.uncorrected.filter (fun e => e.2.1 != w) }

/-! ## The write buffer (R87 to R93) -/

/-- The newest entry for nibble `a` (R88): entries stand in order of creation. -/
def wbufFind (a : BitVec 19) : List WEntry → Option (BitVec 4)
  | [] => none
  | e :: t =>
    match wbufFind a t with
    | some v => some v
    | none => if e.addr = a then some e.val else none

/-- The newest committed entry for nibble `a` (R89). -/
def wbufCommitted (a : BitVec 19) (es : List WEntry) : Option (BitVec 4) :=
  wbufFind a (es.filter (·.committed))

/-- The error pattern of an uncorrectable word once the nibbles `js` of its stored data are exact (R123): its
check bits are left such that it still decodes as uncorrectable, with as few of them changed as that takes
(DESIGN CHOICE, assumption log 86). -/
def badPattern (e : BitVec 72) (js : List Nat) : BitVec 72 :=
  let e0 := js.foldl (fun e j => e &&& ~~~(0xF#72 <<< (4 * j))) e
  ([0#72, 1#72 <<< 64, 3#72 <<< 64, 1#72 <<< 65].map (e0 ^^^ ·)).find? (fun x => decodeError x == .bad)
    |>.getD e0

/-- A drain puts the nibbles `js` of `v` into the word at word address `w` (R92, R123, R132): correct contents get
fresh check bits; an uncorrectable word takes the nibbles in its stored data and stays uncorrectable. The flag
says so. -/
def State.drainWord (s : State) (w : Nat) (js : List Nat) (v : Nat) : State × Bool :=
  let put := fun base => js.foldl (fun b j => putBits b (4 * j) 4 (bits v (4 * j) 4)) base
  match s.readEcc w with
  | .bad => ((s.setLe (8 * w) 8 (put (s.word w))).setErr w (badPattern (s.err w) js), true)
  | d => (s.writeWord w (put d.data), false)

/-- Write nibble `a` of a larder into its bank word, as a drain does (R92, R123). -/
def State.drainNibble (s : State) (k : Nat) (a : BitVec 19) (v : BitVec 4) : State :=
  let j := a.toNat % 16
  let (s1, bad) := s.drainWord (larderWord k a.toNat) [j] (v.toNat <<< (4 * j))
  if bad then (s1.bump (hOff k 0x24) (cSub k)).fire k 3 else s1

/-- One stroke of drain over the entries in order of creation; `used` names the banks written. It
stops at the first entry that is not committed or whose bank was written in this stroke (R92). -/
def State.drainList (s : State) (k : Nat) (used : List Nat) : List WEntry → State × List WEntry
  | [] => (s, [])
  | e :: t =>
    if e.committed && !(used.contains (bankOf e.addr.toNat)) then
      (s.drainNibble k e.addr e.val).drainList k (bankOf e.addr.toNat :: used) t
    else (s, e :: t)

/-- R92: one stroke of drain of croft `k`'s write buffer. -/
def State.drain (s : State) (k : Nat) : State :=
  let c := s.croft k
  let (s1, es) := s.drainList k [] c.wbuf
  s1.setCroft k { s1.croft k with wbuf := es }

/-! ## BP reads (R112, R113, R115) -/

/-- A nibble read by a channel, for slot 0 or slot 1. -/
structure NibRead where
  ch : Nat
  addr : BitVec 19
  slot1 : Bool
  deriving DecidableEq, Repr

/-- Channel mask of a set of accesses (R281). -/
def chMask (chs : List Nat) : Nat := chs.foldl (fun m c => m ||| (1 <<< c)) 0

/-- The nibble that a served read delivers: forwarded from the buffer, or from the decoded word. -/
def servedNibble (es : List WEntry) (word : Decoded) (a : BitVec 19) : BitVec 4 :=
  match wbufFind a es with
  | some v => v
  | none => BitVec.ofNat 4 (bits word.data (4 * (a.toNat % 16)) 4)

/-- The hazard fields [21:0] of a croft hazard (R281). -/
def croftHazard (k bp detail : Nat) : Nat := bp <<< 16 + k <<< 6 + detail

/-- R113: the reads of one bank in one stroke. The lowest-lettered channel's word is served. -/
def State.bankReads (s : State) (k stroke bank : Nat) (rs : List NibRead) :
    State × List (Nat × SlotLoad) :=
  let mine := rs.filter (fun r => bankOf r.addr.toNat == bank)
  match mine with
  | [] => (s, [])
  | r0 :: _ =>
    let c := s.croft k
    let w := larderWord k r0.addr.toNat
    let dec := s.readEcc w
    let served := fun r : NibRead => larderWord k r.addr.toNat == w
    let fromBank := mine.any (fun r => served r && (wbufFind r.addr c.wbuf).isNone)
    let loads := mine.map (fun r =>
      (r.ch, SlotLoad.mk r.slot1 (if served r then servedNibble c.wbuf dec r.addr else 0)))
    let s1 :=
      if mine.all served then s
      else
        ((s.bump (hOff k 0x22) (cSub k)).fire k 1).hazard 4 stroke
          (croftHazard k 0 (bank + 4 * chMask (mine.map (·.ch)))) s.exec
    let s2 :=
      if !fromBank then s1
      else
        match dec with
        | .clean _ => s1
        | .corrected _ => s1.bump (hOff k 0x23) (cSub k)
        | .bad => ((s1.bump (hOff k 0x24) (cSub k)).fire k 3).uncorrectable w
    (s2, loads)

/-- The reads of one stroke over the four banks. -/
def State.larderReads (s : State) (k stroke : Nat) (rs : List NibRead) :
    State × List (Nat × SlotLoad) :=
  let (s0, l0) := s.bankReads k stroke 0 rs
  let (s1, l1) := s0.bankReads k stroke 1 rs
  let (s2, l2) := s1.bankReads k stroke 2 rs
  let (s3, l3) := s2.bankReads k stroke 3 rs
  (s3, l0 ++ l1 ++ l2 ++ l3)

/-! ## BP writes (R87, R114) -/

/-- The write of a channel in a stroke: one nibble, or a value and known pair in X mode (R71). -/
structure ChWrite where
  ch : Nat
  items : List (BitVec 19 × BitVec 4)
  deriving DecidableEq, Repr

/-- R114: the writes of one stroke, lowest-lettered channel first; a write to a nibble that a
lower-lettered channel writes creates no entry. `seen` holds the nibbles written, `hit` those of the
collisions that have been counted. -/
def State.larderWrites (s : State) (k stroke : Nat) (all : List ChWrite)
    (seen hit : List (BitVec 19)) : List ChWrite → State
  | [] => s
  | w :: t =>
    let addrs := w.items.map (·.1)
    if addrs.any seen.contains then
      if addrs.any hit.contains then s.larderWrites k stroke all seen hit t
      else
        let rivals := (all.filter (fun o => o.items.any (fun i => addrs.contains i.1))).map (·.ch)
        let bank := match addrs with
          | a :: _ => bankOf a.toNat
          | [] => 0
        (((s.bump (hOff k 0x21) (cSub k)).fire k 2).hazard 5 stroke
          (croftHazard k 0 (bank + 4 * chMask rivals)) s.exec).larderWrites k stroke all seen
            (addrs ++ hit) t
    else
      let c := s.croft k
      let es := w.items.map (fun i => WEntry.mk i.1 i.2 s.rota stroke false)
      (s.setCroft k { c with wbuf := c.wbuf ++ es }).larderWrites k stroke all (addrs ++ seen) hit t

/-- R280 kind 6: a read at a stroke names a nibble that another channel writes at that stroke. The value and known nibble
of an X-mode read (R65, R111) are one read, which is recorded once. -/
def State.larderRaces (s : State) (k stroke : Nat) (ws : List ChWrite) (seen : List Nat) : List NibRead → State
  | [] => s
  | r :: t =>
    let rivals := (ws.filter (fun w => w.ch != r.ch && w.items.any (fun i => i.1 == r.addr))).map (·.ch)
    if rivals = [] ∨ seen.contains r.ch then s.larderRaces k stroke ws seen t
    else (s.hazard 6 stroke (croftHazard k 0 (bankOf r.addr.toNat + 4 * chMask (r.ch :: rivals))) s.exec).larderRaces
      k stroke ws (r.ch :: seen) t

/-! ## Requesters that are not BPs (R116 to R119) -/

/-- R116: the rank of an initiator. -/
def rankOf (init : Nat) : Nat :=
  if init = 1113 then 2
  else if 1088 ≤ init ∧ init ≤ 1103 then 3
  else if init = 1112 then 4
  else if 1127 ≤ init ∧ init ≤ 1134 then 6
  else 5

/-- Whether a write by this initiator is a foreign write (R280). -/
def foreignInit (init : Nat) : Bool := decide (1024 ≤ init) && decide (init ≤ 1122)

/-- The committed view of bank word `w0` (R89): undrained committed entries over the bank content. -/
def committedWord (es : List WEntry) (w0 : Nat) (data : Nat) : Nat → Nat
  | 0 => data
  | n + 1 =>
    let rest := committedWord es w0 data n
    match wbufCommitted (BitVec.ofNat 19 (16 * w0 + n)) es with
    | some v => putBits rest (4 * n) 4 v.toNat
    | none => rest

/-- Drop the committed entries of every nibble of the bytes written (R119). -/
def dropEntries (bytes : List Nat) (es : List WEntry) : List WEntry :=
  es.filter (fun e => !(e.committed && bytes.contains (e.addr.toNat / 2)))

/-- The bytes of an access that fall in the word of its present offset. -/
def Waiter.span (w : Waiter) : Nat := min w.left (8 - w.off % 8)

/-- Replace byte `i` of a 64-bit word. -/
def putByte (word i : Nat) (b : Byte) : Nat := putBits word (8 * i) 8 b.toNat

/-- Put enabled bytes into a word from byte lane `lane` up. -/
def putEnabled (word : Nat) (lane : Nat) : List (Byte × Bool) → Nat
  | [] => word
  | (b, en) :: t => putEnabled (if en then putByte word lane b else word) (lane + 1) t

/-- The offsets of the enabled bytes from `off` up. -/
def enabledAt (off : Nat) : List (Byte × Bool) → List Nat
  | [] => []
  | (_, en) :: t => (if en then [off] else []) ++ enabledAt (off + 1) t

/-- R280, R281: the hazard record of a write by a requester that is not a BP into memory that the design uses (`watched`),
where it enables a byte. -/
def State.foreignWrite (s : State) (init : Nat) (watched : Bool) (data : List (Byte × Bool)) : State :=
  if s.dev = .run && watched && foreignInit init && data.any (·.2) then s.hazard 0xA 0 (init <<< 6) s.requestExec else s

/-- One word access of a non-BP access at croft `k` (R118): the state, and what is left of the access,
or the answer that ends it. -/
def State.larderWordAccess (s : State) (k : Nat) (w : Waiter) : State × (Waiter ⊕ Nat) :=
  let n := w.span
  let c := s.croft k
  let w0 := w.off / 8
  let wa := croftBase k / 8 + w0
  let dec := s.readEcc wa
  let next : Waiter :=
    { w with off := w.off + n, left := w.left - n, data := w.data.drop n, waited := 0 }
  if w.write then
    let part := w.data.take n
    let old := match dec with
      | .bad => s.word wa ^^^ (s.err wa).toNat % 2 ^ 64
      | d => d.data
    let s1 := (s.writeWord wa (putEnabled old (w.off % 8) part)).forgetUncorrected wa
    let c1 := { s1.croft k with wbuf := dropEntries (enabledAt w.off part) c.wbuf }
    let watched := c.bankMask.getLsbD (w.off / 0x10000)
    let s2 := (s1.setCroft k c1).foreignWrite w.asker.init (watched && !w.noted) part
    (s2, if next.left = 0 then .inr opAck else .inl { next with noted := w.noted || (watched && part.any (·.2)) })
  else
    match dec with
    | .bad => ((s.bump (hOff k 0x24) (cSub k)).fire k 3, .inr opUncorrectable)
    | d =>
      let s1 := match d with
        | .corrected _ => s.bump (hOff k 0x23) (cSub k)
        | _ => s
      let v := committedWord c.wbuf w0 d.data 16
      let bs := ((leBytes 8 v).drop (w.off % 8)).take n
      let next' := { next with got := w.got ++ bs }
      (s1, .inl next')

/-- The answer of an access that has no bytes left. -/
def Waiter.finished (w : Waiter) : Option Nat :=
  if w.left = 0 then some (if w.write then opAck else opData) else none

/-- Whether the croft's BPs can read a bank in the present stroke, so that a requester waits for an
idle cycle (R112, R116); between rotas it waits for the stroke to come. -/
def State.larderContended (s : State) (k : Nat) : Bool :=
  match s.phase with
  | .rota _ => (s.croft k).runs s.rota
  | .boundary => (s.croft k).runs s.rota
  | _ => false

/-- Whether an access that comes now finds the cycle of bank `b` idle (R116): the croft's BPs cannot read the bank, no
access has taken the cycle, and none waits for it. -/
def State.bankIdle (s : State) (k b : Nat) : Bool :=
  let c := s.croft k
  !s.larderContended k && !c.used.getLsbD b && !c.waiters.any (fun w => w.off / 0x10000 == b)

/-- An access takes the cycle of bank `b` in the present stroke. -/
def State.useBank (s : State) (k b : Nat) : State :=
  s.setCroft k { s.croft k with used := (s.croft k).used ||| (1#4 <<< b) }

/-- Whether the access touches the block that a background test of the croft's hamlet has borrowed
(R147). -/
def State.testBlocks (s : State) (k : Nat) (w : Waiter) : Bool :=
  let t := Tbl.get .rest s.tests (k / 128)
  let meets := fun o => t.unit == (k % 128) * 4 + o / 0x10000 && t.block == o % 0x10000 / 512
  t.running && !t.yielded && (meets w.off || meets (w.off + w.left - 1))

/-- The access waits until the test has written its block back (R147). -/
def State.holdAtTest (s : State) (k : Nat) (w : Waiter) : State :=
  let t := Tbl.get .rest s.tests (k / 128)
  { s with tests := Tbl.set .rest s.tests (k / 128) { t with held := t.held ++ [(k, w)] } }

/-- The access waits for an idle cycle of its bank (R116). -/
def State.larderWait (s : State) (k : Nat) (w : Waiter) : State :=
  s.setCroft k { s.croft k with waiters := (s.croft k).waiters ++ [w] }

/-- The next word access of one access in a bank cycle: it ends the access, or the access waits for its next one (R118). -/
def State.larderCycle (s : State) (k : Nat) (w : Waiter) : State :=
  match s.larderWordAccess k w with
  | (s1, .inr op) => s1.reply w.asker op []
  | (s1, .inl w1) =>
    match w1.finished with
    | some op => s1.reply w1.asker op w1.got
    | none => s1.larderWait k w1

/-- An access whose bank can serve it (R116, R117): it takes the cycle of the present stroke where that is idle, or
waits. -/
def State.larderAdmit (s : State) (k : Nat) (w : Waiter) : State :=
  if s.bankIdle k (w.off / 0x10000) then (s.useBank k (w.off / 0x10000)).larderCycle k w else s.larderWait k w

/-! ## Scrub (R122) -/

/-- R122, R123: a scrub visit reads a word through its check bits and rewrites a corrected one. `idx`,
`sub` name the counters of corrected and uncorrectable errors, `src` and `cause` the event. -/
def State.scrubWord (s : State) (w : Nat) (ci csub ui usub src cause : Nat) : State :=
  match s.readEcc w with
  | .clean _ => s
  | .corrected d => (s.writeWord w d).bump ci csub
  | .bad => (s.bump ui usub).fire src cause

/-- The maintenance engine of the hamlet of croft `k` as the requester of a scrub visit (R154). -/
def scrubAsker (k : Nat) : Asker := { Asker.plain (1127 + k / 128) with size := 8 }

/-- A scrub of bank word `word` of croft `k` (R122). -/
def State.larderScrub (s : State) (k word : Nat) : State :=
  s.scrubWord (croftBase k / 8 + word) (hOff k 0x23) (cSub k) (hOff k 0x24) (cSub k) k 3

/-- A visit of the scrubber in its bank cycle, which its engine counts as an answered transaction (R190). -/
def State.larderVisit (s : State) (k word : Nat) : State :=
  let bad := s.readEcc (croftBase k / 8 + word) == .bad
  (s.larderScrub k word).countAnswer (scrubAsker k) (if bad then opUncorrectable else opData)

/-- A visit of the scrubber to bank word `word` of croft `k`, as a request of rank 6 (R116). -/
def scrubWaiter (k word : Nat) : Waiter := ⟨scrubAsker k, 6, true, false, 8 * word, 8, [], [], 0, false⟩

/-- A visit of the scrubber arrives at croft `k` (R116, R122, R147): it makes a test give way like any requester, and takes
an idle cycle of its bank or waits for one. -/
def State.scrubArrive (s : State) (k word : Nat) : State :=
  let w := scrubWaiter k word
  if s.testBlocks k w then s.holdAtTest k w
  else if s.bankIdle k (word / 8192) then (s.useBank k (word / 8192)).larderVisit k word
  else s.larderWait k w

/-- The banks that an access still has to reach. -/
def Waiter.banks (w : Waiter) : List Nat := [w.off / 0x10000, (w.off + w.left - 1) / 0x10000]

/-- Whether bank `b` of croft `k` is in RETAIN and not awake (R141). -/
def State.bankAsleep (s : State) (k b : Nat) : Bool := s.bankModeNow k b == 1 && !(s.croft k).woken.getLsbD b

/-- R118, R141: a non-BP access arrives at croft `k`. A write to a line that a core holds waits for INV_ACK
(R178). -/
def State.larderArrive (s : State) (k : Nat) (w : Waiter) : State :=
  let c := s.croft k
  let b0 := w.off / 0x10000
  if w.scrub then (if s.bankModeNow k b0 = 2 then s.scrubArrive k (w.off / 8) else s)
  else if 0x40000 < w.off + w.left ∨ w.left = 0 then s.reply w.asker opDecode []
  else if w.banks.any (fun b => s.bankModeNow k b == 0) then s.reply w.asker opNotPowered []
  else if w.write ∧ holdersIn c.snoop w.off w.left w.asker.init ≠ [] then
    s.holdAccess ⟨w.asker, k, w.off, .write w.data, holdersIn c.snoop w.off w.left w.asker.init⟩
  else if s.testBlocks k w then s.holdAtTest k w
  else
    match w.banks.find? (s.bankAsleep k) with
    | some b => s.setCroft k { c with held := c.held ++ [(b, w)] }
    | none => s.larderAdmit k w

/-- Whether an access that waits can still be served as it stands (R141, R147, R178): its banks are as they were when it
came, no test has borrowed its block, and no core has come to hold a line that it writes. -/
def State.servable (s : State) (k : Nat) (w : Waiter) : Bool :=
  !s.testBlocks k w &&
    (if w.scrub then s.bankModeNow k (w.off / 0x10000) == 2
     else !w.banks.any (fun b => s.bankModeNow k b == 0 || s.bankAsleep k b) &&
       !(w.write && holdersIn (s.croft k).snoop w.off w.left w.asker.init != []))

/-- The accesses of croft `k` that can no longer be served as they stand arrive anew: they are rejected or held. -/
def State.recheckWaiters (s : State) (k : Nat) : State :=
  let (keep, again) := (s.croft k).waiters.partition (s.servable k)
  if again = [] then s
  else again.foldl (fun st w => st.larderArrive k w) (s.setCroft k { s.croft k with waiters := keep })

/-- Whether waiter `w` goes before `v` on one bank (R116). -/
def Waiter.before (w v : Waiter) : Bool :=
  decide (w.rank < v.rank) || (w.rank == v.rank && decide (w.asker.init < v.asker.init))

/-- Position of the waiter that wins bank `b` (R116): the highest rank, then the lower initiator, then
the earlier arrival. -/
def winner (b : Nat) : Nat → List Waiter → Option (Nat × Waiter)
  | _, [] => none
  | i, w :: t =>
    match winner b (i + 1) t with
    | none => if w.off / 0x10000 = b then some (i, w) else none
    | some (j, v) => if w.off / 0x10000 = b && !(v.before w) then some (i, w) else some (j, v)

/-- Remove element `i` of a list. -/
def dropAt {α : Type} : List α → Nat → List α
  | [], _ => []
  | _ :: t, 0 => t
  | a :: t, i + 1 => a :: dropAt t i

/-- Serve bank `b` of croft `k` in a stroke in which it is idle. -/
def State.serveBank (s : State) (k b : Nat) : State :=
  match winner b 0 (s.croft k).waiters with
  | none => s
  | some (i, w) =>
    let s0 := s.setCroft k { s.croft k with waiters := dropAt (s.croft k).waiters i }
    if w.scrub then s0.larderVisit k (w.off / 8) else s0.larderCycle k w

/-- The waiters age by one stroke (R117), and the next stroke brings new bank cycles. -/
def CroftRec.age (c : CroftRec) : CroftRec :=
  { c with waiters := c.waiters.map (fun w => { w with waited := w.waited + 1 }), used := 0 }

/-- R116: the idle banks of a stroke serve the waiters; `busy` names the banks that BPs read, and an access that came
before the stroke may have taken a cycle. -/
def State.serveWaiters (s : State) (k : Nat) (busy : List Nat) : State :=
  let s1 := s.recheckWaiters k
  let taken := (s1.croft k).used
  let s2 := [0, 1, 2, 3].foldl (fun st b => if busy.contains b || taken.getLsbD b then st else st.serveBank k b) s1
  s2.setCroft k (s2.croft k).age

/-- A non-BP access as a waiter. -/
def mkWaiter (who : Asker) (off : Nat) : PAccess → Waiter
  | .read n => ⟨who, rankOf who.init, false, false, off, n, [], [], 0, false⟩
  | .fill n => ⟨who, rankOf who.init, false, false, off, n, [], [], 0, false⟩
  | .write bs => ⟨who, rankOf who.init, false, true, off, bs.length, bs, [], 0, false⟩
  | .atomic _ n _ => ⟨who, rankOf who.init, false, false, off, n, [], [], 0, false⟩

/-- Sizes that a larder access can have (R118). -/
def larderSize (n : Nat) : Bool := n == 1 || n == 2 || n == 4 || n == 8

/-- BANK_BUSY_TIMEOUT (R117): the request that has waited 4,096 strokes on bank `bank` is ended; of a visit of the
scrubber nobody is told. -/
def execBankBusyTimeout (h : Hamlet) (c : Croft) (bank : Fin 4) (s : State) :
    Host.Outcome State Fault Refusal :=
  let k := h.val * 128 + c.val
  let late := fun w : Waiter => w.off / 0x10000 == bank.val && decide (4096 ≤ w.waited)
  .next (match (s.croft k).waiters.find? late with
    | none => s
    | some w =>
      let s1 := s.setCroft k { s.croft k with waiters := (s.croft k).waiters.erase w }
      let s2 := s1.bump (hOff k 0x25) (cSub k)
      if w.scrub then s2 else s2.reply w.asker opBusy [])

/-- Admit the held accesses of a bank in order of arrival. -/
def State.admitHeld (s : State) (k : Nat) : List (Nat × Waiter) → State
  | [] => s
  | (_, w) :: t => (s.larderArrive k w).admitHeld k t

/-- BANK_WAKE (R141): 200 ns after an access arrived at a bank in RETAIN, the bank is awake and the
accesses that wait for it are performed; a bank that has left RETAIN in the meantime answers them in the mode
it is in. -/
def execBankWake (h : Hamlet) (c : Croft) (bank : Fin 4) (s : State) :
    Host.Outcome State Fault Refusal :=
  let k := h.val * 128 + c.val
  let cr := s.croft k
  let (mine, rest) := cr.held.partition (fun e => e.1 == bank.val)
  let woken := if s.bankModeNow k bank.val = 1 then cr.woken ||| (1#4 <<< bank.val) else cr.woken
  .next (if mine = [] then s
    else (s.setCroft k { cr with held := rest, woken := woken }).admitHeld k mine)

/-- BANK_RETAIN_TIMEOUT (R141): a woken bank returns to RETAIN after 10 µs without access. -/
def execBankRetainTimeout (h : Hamlet) (c : Croft) (bank : Fin 4) (s : State) :
    Host.Outcome State Fault Refusal :=
  let k := h.val * 128 + c.val
  let cr := s.croft k
  .next (s.setCroft k { cr with woken := cr.woken &&& ~~~(1#4 <<< bank.val) })

/-- LARDER_SCRUB_VISIT (R122): one bank word of an ACTIVE bank. -/
def execLarderScrubVisit (h : Hamlet) (c : Croft) (word : Fin 32768) (s : State) :
    Host.Outcome State Fault Refusal :=
  let k := h.val * 128 + c.val
  .next (if s.bankModeNow k (word.val / 8192) = 2 ∧ s.obj (hOff k 0x26) 1 ≠ 0 then s.scrubArrive k word.val
    else s)

end Sys2Proof.Machine
end

