-- ==== Sys2Proof/Machine/Bp.lean ====
section
/-!
DEFINITION. One stroke of a croft's BPs (R36 to R75, R87): fetch, evaluation, and the writes at the
end of the stroke.
-/

namespace Sys2Proof.Machine

/-! ## Fetch (R36 to R39) -/

/-- The BPs whose instruction store is fetched (R64). -/
def fetchedBps (x : Bool) : List Nat :=
  if x then (upFrom 0 32).map (fun j => 2 * j) else upFrom 0 64

/-- The payload that BP `b` of croft `c` executes at stroke `t`: an uncorrectable word runs as the NOP
(R36, R38). -/
def fetchPayload (c : CroftRec) (t b : Nat) : Nat :=
  match decodeWord (c.word b t) with
  | .bad => nopPayload.toNat
  | d => d.data

/-- R37 to R39: what a fetch counts and reports. Of several uncorrectable fetches of a hamlet in one stroke
Hb+0x10.03 keeps the last in the order of ascending croft and BP (DESIGN CHOICE, assumption log 82). -/
def State.fetchReport (s : State) (k t b : Nat) (w : BitVec 80) : State :=
  match decodeWord w with
  | .clean _ => s
  | .corrected _ => s.bump (hOff k 0x10) 1
  | .bad =>
    let s1 := (s.bump (hOff k 0x10) 2).setObj (hOff k 0x10) 3 (k % 128 + b <<< 7 + t <<< 13)
    ((s1.fire (1024 + k / 128) 0).foul).haltAtBoundary 1

/-- The reports of every fetch of a stroke. -/
def State.fetchReports (s : State) (k t : Nat) (c : CroftRec) : List Nat → State
  | [] => s
  | b :: bs => (s.fetchReport k t b (c.word b t)).fetchReports k t c bs

/-! ## Results (R50, R52, R53, R66, R67, R73 to R75) -/

/-- The result of an EVAL word by sub-operation (R52, R67); `none` for a reserved code. -/
def evalResult (sub : Nat) (tt : BitVec 16) (q : Quad4) : Option Rail :=
  match sub with
  | 0 => some (evalTT tt q.vNib q.kNib)
  | 1 => some (.known (evalTT tt q.vNib q.kNib).k)
  | 2 => some (if q.d.k && !q.d.v then evalTT3 tt q.vNib q.kNib else .x)
  | _ => none

/-- The gang data and select of the gang whose lead is BP `b`, from members `m` on; `none` where a
member is missing (R73, R74). -/
def gangInputs (ctx : ReadCtx) (pay : Nat → Nat) (b : Nat) (mux : Bool) : List Nat → Option (Nat × Nat)
  | [] => some (0, 0)
  | m :: ms =>
    let p := pay (b + m)
    if m ≠ 0 ∧ !(wClass p = 3 ∧ wSub p = m) then none
    else
      match gangInputs ctx pay b mux ms with
      | none => none
      | some (data, sel) =>
        let nib := (ctx.operands (b + m) p).vNib
        let sm := mux && (ctx.sel (b + m) ((wTT p).toNat % 4096) ((b + m) * 8 + 4)).v
        some (data + nib <<< (4 * m), sel + b2n sm <<< m)

/-- The result of a word at BP `b` before HOLD; `none` when the class holds the output (R74). A code
that the loader rejects, a gang at a place that R73 rejects among them, gives a free value (assumption log 7). -/
def wordResult (ctx : ReadCtx) (pay : Nat → Nat) (b p : Nat) : Option Rail :=
  let q := ctx.operands b p
  let tt := wTT p
  match wClass p with
  | 0 => some ((evalResult (wSub p) tt q).getD (ctx.free (b * 8 + 5)))
  | 1 => some (if wSub p = 0 then evalTT3 tt q.vNib q.kNib else ctx.free (b * 8 + 5))
  | 2 =>
    if ctx.x || b % 4 != 0 then some (ctx.free (b * 8 + 5))
    else match gangInputs ctx pay b (wSub p == 0) [0, 1, 2, 3] with
    | some (data, sel) =>
      match gangResult (wSub p) (BitVec.ofNat 16 data) sel with
      | some r => some (.known r)
      | none => some (ctx.free (b * 8 + 5))
    | none => some (ctx.free (b * 8 + 5))
  | 3 => none
  | _ => some (evalTT tt q.vNib q.kNib)

/-- The output register after the stroke, as rails (R41, R54, R74). -/
def outputAfter (ctx : ReadCtx) (pay : Nat → Nat) (b p : Nat) : Rail :=
  let old : Rail := ⟨(ctx.croft.bp b).out, !ctx.x || (ctx.croft.bp (b + 1)).out⟩
  if wHold p then old
  else (wordResult ctx pay b p).getD old

/-- The word at BP `b` carries a gang operand (R74): the lead of a MUX16 gang, or a member of one. -/
def carriesGangOperand (pay : Nat → Nat) (b p : Nat) : Bool :=
  let lead := pay (b - b % 4)
  (wClass p == 2 || wClass p == 3) && wClass lead == 2 && wSub lead == 0

/-- The hazards of the reads of one word: reading BP and (kind, DETAIL). -/
def wordHazards (ctx : ReadCtx) (pay : Nat → Nat) (b p : Nat) : List (Nat × Nat × Nat) :=
  if wNop p then []
  else
    let own := ctx.operandHazards p
    let gang := if carriesGangOperand pay b p then ctx.hazards ((wTT p).toNat % 4096) 0x20 else []
    (own ++ gang).map (fun e => (b, e.1, e.2))

/-! ## Writes at the end of the stroke (R40, R41, R52, R59, R68 to R72) -/

/-- Set bit `i` of a store. -/
def setBit {n : Nat} (x : BitVec n) (i : Nat) (v : Bool) : BitVec n :=
  if v then x ||| (1#n <<< i) else x &&& ~~~(1#n <<< i)

/-- R41: the output register, and history bit `t`. -/
def BpRec.write (r : BpRec) (t : Nat) (out : Bool) : BpRec :=
  { r with out := out, hist := setBit r.hist t out }

/-- R49, R83: state bit `i` is latched, pending. -/
def BpRec.latch (r : BpRec) (i : Nat) (v : Bool) : BpRec :=
  { r with wmask := setBit r.wmask i true, wval := setBit r.wval i v }

/-- R52: the address register after MEM_ADDR sub-operation `sub` with operand nibble `nib`. -/
def addrStep (sub : Nat) (addr : BitVec 19) (nib : Nat) : BitVec 19 :=
  let a := addr.toNat
  BitVec.ofNat 19 (match sub with
    | 0 => putBits a 0 4 nib
    | 1 => putBits a 4 4 nib
    | 2 => putBits a 8 4 nib
    | 3 => putBits a 12 4 nib
    | 4 => putBits a 16 3 nib
    | 5 => a + nib
    | 6 => nib
    | _ => a)

/-- R69: bits at or above the lowest unknown bit of either addend become unknown. -/
def maskAdd (known : BitVec 19) (kNib : Nat) : BitVec 19 :=
  let unknown := (~~~known).toNat ||| (15 - kNib % 16)
  if unknown = 0 then known
  else known &&& BitVec.ofNat 19 ((unknown &&& (2 ^ 20 - unknown)) - 1)

/-- R69: the known mask after MEM_ADDR sub-operation `sub` with known rails `kNib`. -/
def maskStep (sub : Nat) (known : BitVec 19) (kNib : Nat) : BitVec 19 :=
  let a := known.toNat
  match sub with
  | 0 => BitVec.ofNat 19 (putBits a 0 4 kNib)
  | 1 => BitVec.ofNat 19 (putBits a 4 4 kNib)
  | 2 => BitVec.ofNat 19 (putBits a 8 4 kNib)
  | 3 => BitVec.ofNat 19 (putBits a 12 4 kNib)
  | 4 => BitVec.ofNat 19 (putBits a 16 3 kNib)
  | 5 => maskAdd known kNib
  | 6 => BitVec.ofNat 19 (putBits (2 ^ 19 - 1) 0 4 kNib)
  | _ => known

/-- What a stroke gathers from the words of a croft before its end: new channel addresses, the larder
accesses, and the send lanes. -/
structure Gather where
  croft : CroftRec
  reads : List NibRead
  writes : List ChWrite
  dropped : Nat
  watch : Bool

/-- Change of a channel's address by MEM_ADDR. -/
def CroftRec.memAddr (c : CroftRec) (ch sub v k : Nat) : CroftRec :=
  let r := c.ch ch
  c.setCh ch { r with addr := addrStep sub r.addr v, known := maskStep sub r.known k }

/-- The effect of MEM_READ: the reads it makes, given the channel at the start of the stroke (R59,
R70). -/
def memRead (x : Bool) (ch : Nat) (r : Channel) (slot1 : Bool) : List NibRead ⊕ List SlotLoad :=
  if !x then .inl [⟨ch, r.addr, slot1⟩]
  else if r.known.toNat % 2 ^ 18 = 2 ^ 18 - 1 then
    let a := 2 * (r.addr.toNat % 2 ^ 18)
    .inl [⟨ch, BitVec.ofNat 19 a, false⟩, ⟨ch, BitVec.ofNat 19 (a + 1), true⟩]
  else .inr [⟨false, 0⟩, ⟨true, 0⟩]

/-- The effect of MEM_WRITE: its write, or `none` when the address is not known (R71). -/
def memWrite (x : Bool) (ch : Nat) (r : Channel) (v k : Nat) : Option ChWrite :=
  if !x then some ⟨ch, [(r.addr, BitVec.ofNat 4 v)]⟩
  else if r.known.toNat % 2 ^ 18 = 2 ^ 18 - 1 then
    let a := 2 * (r.addr.toNat % 2 ^ 18)
    some ⟨ch, [(BitVec.ofNat 19 a, BitVec.ofNat 4 v), (BitVec.ofNat 19 (a + 1), BitVec.ofNat 4 k)]⟩
  else none

/-- Put a nibble on send lane `n` (R62). -/
def putLane (lanes : BitVec 32) (n v : Nat) : BitVec 32 :=
  if n < 8 then BitVec.ofNat 32 (putBits lanes.toNat (4 * n) 4 v) else lanes

/-- The side effects of a word's class (R52, R53, R59, R62, R68 to R72); `start` is the croft at the
start of the stroke. -/
def Gather.side (g : Gather) (x : Bool) (start : CroftRec) (b p : Nat) (q : Quad4) (res : Rail) :
    Gather :=
  let ch := b / 16
  let sub := wSub p
  match wClass p with
  | 1 =>
    if sub ≠ 0 then g
    else
      let i := wD p % 512
      let c1 := g.croft.setBp b ((g.croft.bp b).latch i res.v)
      { g with croft := if x then c1.setBp (b + 1) ((c1.bp (b + 1)).latch i res.k) else c1 }
  | 4 => if sub = 7 then g else { g with croft := g.croft.memAddr ch sub q.vNib q.kNib }
  | 5 =>
    if 4 ≤ sub then g
    else
      let inc := bitAt sub 1
      let c1 := if inc then g.croft.memAddr ch 5 1 15 else g.croft
      match memRead x ch (start.ch ch) (bitAt sub 0) with
      | .inl rs => { g with croft := c1, reads := g.reads ++ rs }
      | .inr ls =>
        let r := c1.ch ch
        { g with croft := c1.setCh ch { r with loads := r.loads ++ ls } }
  | 6 =>
    if 2 ≤ sub then g
    else
      let c1 := if bitAt sub 0 then g.croft.memAddr ch 5 1 15 else g.croft
      match memWrite x ch (start.ch ch) q.vNib q.kNib with
      | some w => { g with croft := c1, writes := g.writes ++ [w] }
      | none => { g with croft := c1, dropped := g.dropped + 1 }
  | 7 =>
    let l1 := putLane g.croft.sends sub q.vNib
    { g with croft := { g.croft with sends := if x then putLane l1 (sub + 1) q.kNib else l1 } }
  | _ => g

/-- One BP of the stroke: output, history and class effects, from the croft at the start of the
stroke. -/
def Gather.bp (g : Gather) (ctx : ReadCtx) (pay : Nat → Nat) (b : Nat) : Gather :=
  let p := pay b
  let out := outputAfter ctx pay b p
  let c1 := g.croft.setBp b ((g.croft.bp b).write ctx.s out.v)
  let c2 := if ctx.x then c1.setBp (b + 1) ((c1.bp (b + 1)).write ctx.s out.k) else c1
  let g1 := { g with croft := c2, watch := g.watch || (!wNop p && wWatch p && out.v && out.k) }
  if wNop p || wClass p == 2 || wClass p == 3 then g1
  else
    let q := ctx.operands b p
    g1.side ctx.x ctx.croft b p q ((wordResult ctx pay b p).getD .x)

/-- The loads that were under way land at the end of the stroke (R59). -/
def Channel.land (r : Channel) : Channel :=
  r.loads.foldl (fun c l =>
    if l.slot1 then { c with slot1 := l.nibble, loaded1 := true }
    else { c with slot0 := l.nibble, loaded0 := true }) { r with loads := [] }

/-- Put the loads of this stroke's reads under way. -/
def CroftRec.addLoads (c : CroftRec) : List (Nat × SlotLoad) → CroftRec
  | [] => c
  | (ch, l) :: t =>
    let r := c.ch ch
    (c.setCh ch { r with loads := r.loads ++ [l] }).addLoads t

/-- R281: report the hazards of the reads of a stroke. -/
def State.readHazards (s : State) (k t : Nat) : List (Nat × Nat × Nat) → State
  | [] => s
  | (b, kind, detail) :: rest => (s.hazard kind t (croftHazard k b detail) s.exec).readHazards k t rest

/-- X-address writes that were dropped are counted and reported (R71). -/
def State.droppedWrites (s : State) (k : Nat) : Nat → State
  | 0 => s
  | n + 1 => ((s.bump (kObj k) 6).fire k 0).droppedWrites k n

/-- The croft's state at the start of a stroke with the loads under way landed and the lanes empty:
what the writes of the stroke are applied to. -/
def CroftRec.strokeBase (c : CroftRec) : CroftRec :=
  { c with chA := c.chA.land, chB := c.chB.land, chC := c.chC.land, chD := c.chD.land, sends := 0,
           watch := false }

/-- R40, R57: one stroke of croft `k`'s BPs at stroke `t`; the answer names the banks read. -/
def State.croftStroke (s : State) (k t : Nat) : State × List Nat :=
  let c := s.croft k
  let x := c.mode == 2
  let ctx : ReadCtx := ⟨c, t, s.lag, x, s.freeKey (k * 1024)⟩
  let bps := fetchedBps x
  let pay := fetchPayload c t
  let s1 := s.fetchReports k t c bps
  let s2 := if s.debug then s1.readHazards k t (bps.flatMap (fun b => wordHazards ctx pay b (pay b))) else s1
  let g := bps.foldl (fun g b => g.bp ctx pay b) (Gather.mk c.strokeBase [] [] 0 false)
  let s3 := s2.setCroft k { g.croft with watch := g.watch }
  let (s4, loads) := s3.larderReads k t g.reads
  let s5 := s4.larderRaces k t g.writes [] g.reads
  let s6 := s5.larderWrites k t g.writes [] [] g.writes
  let s7 := s6.setCroft k ((s6.croft k).addLoads loads)
  (s7.droppedWrites k g.dropped, g.reads.map (fun r => bankOf r.addr.toNat))

end Sys2Proof.Machine
end

