-- ==== Sys2Proof/Machine/Croft.lean ====
section
/-!
DEFINITION. Crofts across rotas (R76 to R110): what a boundary and a verdict do to a croft, the dust
sheets, and the croft window outside the larder.
-/

namespace Sys2Proof.Machine

/-- The verdicts of R82; a CLEAR or FOUL verdict decides a rota. -/
inductive Verdict where
  | none
  | clear (rota : Nat)
  | foul (rota : Nat)
  deriving DecidableEq, Repr

/-! ## Generations (R83 to R86) -/

/-- The read generation with the bits latched by the rota that ends (R84). -/
def BpRec.merged (r : BpRec) : BitVec 512 := (r.read &&& ~~~r.wmask) ||| (r.wval &&& r.wmask)

/-- R84, R85: a verdict applied to one BP's state store. -/
def BpRec.verdict (r : BpRec) (lag : Nat) : Verdict → BpRec
  | .none => { r with pend := if lag = 2 then r.read else r.pend, read := r.merged,
                      wmask := 0, wval := 0 }
  | .clear _ => { r with committed := if lag = 2 then r.pend else r.read,
                         pend := if lag = 2 then r.read else r.pend, read := r.merged,
                         wmask := 0, wval := 0 }
  | .foul _ => { r with read := r.committed, pend := 0, wmask := 0, wval := 0 }

/-- R93, R92: a verdict applied to the write buffer. -/
def wbufVerdict (es : List WEntry) : Verdict → List WEntry
  | .none => es
  | .clear k => es.map (fun e => if e.rota = k then { e with committed := true } else e)
  | .foul k => es.filter (fun e => e.committed || decide (e.rota < k))

/-- R103, R105: what a boundary with a verdict does to the sheet state. -/
def sheetVerdict (st : Sheet) (rota : Nat) : Verdict → Sheet
  | .clear k =>
    match st with
    | .raising => if k = rota then .upHeld else .raising
    | .upHeld => .upLoadable
    | .lowering => if k = rota then .down else .lowering
    | other => other
  | _ =>
    match st with
    | .upHeld => .upLoadable
    | other => other

/-- R42: what every boundary clears in a croft. -/
def CroftRec.clearLocal (c : CroftRec) : CroftRec :=
  { c with bps := Tbl.mapVals .zero (fun r => { r with out := false }) c.bps, arrival := 0,
           landed := 0, chA := .clear, chB := .clear, chC := .clear, chD := .clear, sends := 0,
           watch := false }

/-- R77, steps 2 and 3, for one croft. The sheet state changes in device state RUN alone (`running`,
R106). -/
def CroftRec.boundary (c : CroftRec) (running : Bool) (lag : Nat) (v : Verdict) : CroftRec :=
  let sheet : Sheet := if running then sheetVerdict c.sheet c.sheetRota v else c.sheet
  let c1 :=
    { c with bps := Tbl.mapVals .zero (fun r => r.verdict lag v) c.bps, wbuf := wbufVerdict c.wbuf v,
             sheet := sheet, sheetRota := if sheet = Sheet.down then 0 else c.sheetRota }
  c1.clearLocal

/-- Add 1 to the 32-bit counters at the keys `ks`, which rise, of a table of objects; `fuel` bounds the
entries of both. -/
def bumpKeys : Nat → List Nat → Tbl Nat → Tbl Nat
  | 0, _, t => t
  | _ + 1, [], t => t
  | _ + 1, ks, [] => ks.map (fun k => (k, 1))
  | fuel + 1, k :: ks, (q, v) :: t =>
    if k < q then (k, 1) :: bumpKeys fuel ks ((q, v) :: t)
    else if k = q then (q, satAdd 32 v 1) :: bumpKeys fuel ks t
    else (q, v) :: bumpKeys fuel (k :: ks) t

/-- The crofts whose hamlet is powered. -/
def State.poweredCrofts (s : State) : List Nat :=
  (upFrom 0 8).flatMap (fun h => if s.granted (132 * h) then upFrom (128 * h) 128 else [])

/-- Count a FOUL verdict at every croft of a powered hamlet (R82, R107). -/
def State.countReplay (s : State) (v : Verdict) : State :=
  match v with
  | .foul _ =>
    let ks := s.poweredCrofts.map (fun k => objKey (kObj k) 7)
    { s with objs := bumpKeys (ks.length + s.objs.length + 1) ks s.objs }
  | _ => s

/-- A verdict at the boundary, at every croft (R77, R82). -/
def State.boundaryCrofts (s : State) (v : Verdict) : Tbl CroftRec → State
  | [] => s.countReplay v
  | (k, c) :: t => (s.setCroft k (c.boundary (s.dev == .run) s.lag v)).boundaryCrofts v t

/-- The sheet state that an entry to RUN finds when `done` rotas are committed: the change that a CLEAR
applied outside RUN has held back (R103, R105, R106; DESIGN CHOICE, assumption log 83). -/
def heldSheet (st : Sheet) (rota done : Nat) : Sheet :=
  if done ≤ rota then st
  else match st with
    | .raising => .upHeld
    | .lowering => .down
    | other => other

/-- A croft as an entry to RUN that is not from SET resumes it, when `done` rotas are committed: every
uncommitted rota is discarded as at a FOUL (R98). -/
def CroftRec.resume (done : Nat) (c : CroftRec) : CroftRec :=
  let sheet := heldSheet c.sheet c.sheetRota done
  { c with bps := Tbl.mapVals .zero (fun r => r.verdict 1 (.foul 0)) c.bps,
           wbuf := c.wbuf.filter (·.committed), sheet := sheet,
           sheetRota := if sheet = Sheet.down then 0 else c.sheetRota }.clearLocal

/-- A croft as an entry to RUN from SET begins it (R86): no write is pending and the histories are clear; no sheet has
been lowered in the run (R129). -/
def CroftRec.fresh (c : CroftRec) : CroftRec :=
  { c with bps := Tbl.mapVals .zero (fun r => { r with hist := 0, wmask := 0, wval := 0 }) c.bps,
           wbuf := [], firstRota := 0 }.clearLocal

/-- Committed entries of a write buffer reach their banks before the buffer is emptied (R92). -/
def State.flushWbuf (s : State) (k : Nat) : State :=
  ((s.croft k).wbuf.filter (·.committed)).foldl (fun st e => st.drainNibble k e.addr e.val) s

/-- Every croft begins as R86 says. -/
def State.freshCrofts (s : State) : State :=
  let s1 := s.crofts.foldl (fun st e => st.flushWbuf e.1) s
  { s1 with crofts := Tbl.mapVals .blank CroftRec.fresh s1.crofts }

/-- A boundary without a verdict (R242) at one croft: step 3 of R77 (R42), and UP_HELD ends, since the boundary after the
rota that drains comes whatever its verdict (R103). -/
def CroftRec.unjudged (c : CroftRec) : CroftRec :=
  { c with sheet := sheetVerdict c.sheet c.sheetRota .none }.clearLocal

/-- A boundary without a verdict at every croft. -/
def State.clearCrofts (s : State) : State :=
  { s with crofts := Tbl.mapVals .blank CroftRec.unjudged s.crofts }

/-! ## Dust sheets (R99 to R106) -/

/-- The rota that R511 names: the rota executing, or the one that the rota counter names. -/
def State.thisRota (s : State) : Nat := s.rota

/-- Record the nibbles sent at stroke `t` of the raise rota (R103). -/
def CroftRec.recordLast (c : CroftRec) (t : Nat) : List Nat → CroftRec
  | [] => c
  | n :: ns =>
    let v := BitVec.ofNat 4 (bits c.sends.toNat (4 * n) 4)
    { c with last := Tbl.set 0 c.last (t * 8 + n) v }.recordLast t ns

/-- The nibble that the dust-sheet table gives for lane `n` at stroke `t` (R99): `e` is the table
entry, `last` the nibble of the raise rota. -/
def sheetNibble (e last : Nat) : Nat :=
  let bit := fun j => match bits e (2 * j) 2 with
    | 0 => b2n (bitAt last j)
    | 2 => 1
    | _ => 0
  bit 0 + 2 * bit 1 + 4 * bit 2 + 8 * bit 3

/-- The lanes that a sheeted croft's table sends at stroke `t` (R99, R100). -/
def State.sheetLanes (s : State) (k t : Nat) : BitVec 32 :=
  let c := s.croft k
  (upFrom 0 8).foldl (fun l n =>
    putLane l n (sheetNibble (s.byte (croftBase k + 0x206000 + t * 8 + n)).toNat
      (Tbl.get 0 c.last (t * 8 + n)).toNat)) 0

/-- R103, R106: a raise command. -/
def State.raiseSheet (s : State) (k : Nat) : WriteResult :=
  let c := s.croft k
  if s.dev ≠ .run ∨ c.sheet ≠ .down then .error abState
  else .ok (s.setCroft k { c with sheet := .raising, sheetRota := s.thisRota + 1, newSection := false })

/-- R105, R106: a lower command. Command 2 of R188 waits for it. -/
def State.lowerSheet (s : State) (k : Nat) : WriteResult :=
  let c := s.croft k
  if s.dev ≠ .run ∨ c.sheet ≠ .upLoadable ∨ !c.newSection then .error abState
  else
    let q := s.thisRota
    let s1 := s.setCroft k
      { c with sheet := .lowering, sheetRota := q, firstRota := q + 1, newSection := false }
    .ok (if s.opn.swapArmed && s.opn.swapLower && s.obj 0x4801 4 % 1024 == k then
        { s1 with opn := { s1.opn with swapRota := q + 1, swapArmed := false } }.setObj 0x4801 2 2
      else s1)

/-- A write of +c.03 (R107). -/
def State.writeSheet (s : State) (k v : Nat) : WriteResult :=
  if v = 1 then s.raiseSheet k else if v = 2 then s.lowerSheet k else .error abInvalid

/-! ## The croft window outside the larder (R109, R110) -/

/-- Byte `i` of a bit vector read as a number. -/
def byteOf (n i : Nat) : Byte := BitVec.ofNat 8 (bits n (8 * i) 8)

/-- Byte `i` of a 64-byte generation block; under C = 2 bytes 48 to 63 read zero (R109). -/
def genByte (lag : Nat) (g : BitVec 512) (i : Nat) : Byte :=
  if lag = 2 ∧ 48 ≤ i then 0 else byteOf g.toNat i

/-- The byte at offset `off` of croft `k`'s window outside the larder; `none` where the window is
reserved (R109). -/
def State.croftByte (s : State) (k off : Nat) : Option Byte :=
  let c := s.croft k
  if 0x100000 ≤ off ∧ off < 0x200000 then
    let o := off - 0x100000
    some (if o % 16 < 10 then byteOf (c.word (o / 0x4000) (o % 0x4000 / 16)).toNat (o % 16) else 0)
  else if 0x200000 ≤ off ∧ off < 0x201000 then
    let o := off - 0x200000
    some (genByte s.lag (c.bp (o / 64)).committed (o % 64))
  else if 0x201000 ≤ off ∧ off < 0x202000 then
    let o := off - 0x201000
    some (genByte s.lag (c.bp (o / 64)).read (o % 64))
  else if 0x202000 ≤ off ∧ off < 0x204000 then
    let o := off - 0x202000
    some (byteOf (c.bp (o / 128)).hist.toNat (o % 128))
  else if 0x204000 ≤ off ∧ off < 0x204080 then some (byteOf c.arrival.toNat (off - 0x204000))
  else if 0x206000 ≤ off ∧ off < 0x208000 then some (s.byte (croftBase k + off))
  else none

/-- The bytes of a window read; `none` when one of them is reserved (R13). -/
def State.croftRead (s : State) (k : Nat) : Nat → Nat → Option (List Byte)
  | _, 0 => some []
  | off, n + 1 =>
    match s.croftByte k off, s.croftRead k (off + 1) n with
    | some b, some bs => some (b :: bs)
    | _, _ => none

/-- Replace byte `i` of a bit vector. -/
def putByteBv {w : Nat} (x : BitVec w) (i : Nat) (b : Byte) : BitVec w :=
  BitVec.ofNat w (putBits x.toNat (8 * i) 8 b.toNat)

/-- Whether writes to the instruction store and the committed generation take effect (R110). -/
def State.croftLoadable (s : State) (k : Nat) : Bool :=
  s.dev == .prep || s.dev == .set || (s.croft k).sheet == .upLoadable

/-- Write one byte of the window (R109, R110); bytes that do not take the write stay. -/
def State.setCroftByte (s : State) (k off : Nat) (b : Byte) : State :=
  let c := s.croft k
  if 0x100000 ≤ off ∧ off < 0x200000 then
    let o := off - 0x100000
    let w := c.word (o / 0x4000) (o % 0x4000 / 16)
    if s.croftLoadable k ∧ o % 16 < 10 then
      s.setCroft k (c.setWord (o / 0x4000) (o % 0x4000 / 16) (putByteBv w (o % 16) b))
    else s
  else if 0x200000 ≤ off ∧ off < 0x201000 then
    let o := off - 0x200000
    let r := c.bp (o / 64)
    let g := putByteBv r.committed (o % 64) b
    if s.croftLoadable k ∧ !(s.lag = 2 ∧ 48 ≤ o % 64) then
      s.setCroft k (c.setBp (o / 64) { r with committed := g, read := g, pend := g })
    else s
  else if 0x206000 ≤ off ∧ off < 0x208000 then
    if c.sheet = .down then s.setByte (croftBase k + off) b else s
  else s

/-- Write the enabled bytes of an access. -/
def State.setCroftBytes (s : State) (k : Nat) : Nat → List (Byte × Bool) → State
  | _, [] => s
  | off, (b, en) :: t => (if en then s.setCroftByte k off b else s).setCroftBytes k (off + 1) t

/-- A dust-sheet byte with a reserved hold mode (R99). -/
def reservedMode (b : Byte) : Bool :=
  (upFrom 0 4).any (fun j => bits b.toNat (2 * j) 2 == 3)

/-- R99, R109, R110: a write at offset `off` of the window outside the larder. The answer is
ERROR_DECODE when a byte of it is reserved; a dust-sheet write that contains a reserved mode is
discarded whole. -/
def State.croftWrite (s : State) (k off : Nat) (data : List (Byte × Bool)) : State × Nat :=
  if (s.croftRead k off data.length).isNone then (s, opDecode)
  else if 0x206000 ≤ off ∧ data.any (fun e => e.2 && reservedMode e.1) then (s, opAck)
  else (s.setCroftBytes k off data, opAck)

end Sys2Proof.Machine
end

