-- ==== Sys2Proof/Machine/Cellar.lean ====
section
/-!
DEFINITION. The cellars (R124 to R140): reserved requests and returns, the pending store, non-BP
accesses, refresh debt, patrol scrub and bring-up.
-/

namespace Sys2Proof.Machine

/-- The contract read latency D in strokes (R128, R269). -/
def readLatency (level clock : Nat) : Nat :=
  if level = 2 then (if clock = 13 then 132 else 160) else (if clock = 13 then 160 else 192)

/-- The round period of R139 in strokes: 3.9 µs. -/
def roundStrokes (clock : Nat) : Nat := if clock = 13 then 5070 else 6240

/-- Event source of cellar `n` (R479). -/
def cellarSource (n : Nat) : Nat := 1064 + n

/-! ## Requests (R125 to R127, R134) -/

/-- Slot nibble `i` of binding `b` as it was received. -/
def CellarRec.slotNibble (c : CellarRec) (b i : Nat) : Nat := (Tbl.get 0 c.rx (b * 64 + i)).toNat

/-- Request nibble `i` of a binding: its value rail (R136). -/
def CellarRec.value (c : CellarRec) (b i : Nat) (x : Bool) : Nat :=
  if x then c.slotNibble b (2 * i) else c.slotNibble b i

/-- Request nibble `i` of a binding: its known rail (R134, R136). -/
def CellarRec.knownRail (c : CellarRec) (b i : Nat) (x : Bool) : Nat :=
  if x then c.slotNibble b (2 * i + 1) else 15

/-- Nibbles `lo` to `lo + n - 1`, lowest first, as one number. -/
def gatherNibbles (f : Nat → Nat) (lo : Nat) : Nat → Nat
  | 0 => 0
  | n + 1 => f lo + 16 * gatherNibbles f (lo + 1) n

/-- A request as the controller assembles it (R125). -/
structure CRequest where
  op : Nat
  word : Nat
  data : Nat
  dataKnown : Nat
  mask : BitVec 16
  known : Bool

/-- R125, R134: the request of binding `b` from its received nibbles. The mask of an X-mode masked write is that of the
value rails: R134 speaks of unknown bits of the OP and the address alone (DESIGN CHOICE, assumption log 106). -/
def CellarRec.request (c : CellarRec) (b : Nat) (x : Bool) : CRequest where
  op := c.value b 0 x
  word := gatherNibbles (fun i => c.value b i x) 1 9
  data := gatherNibbles (fun i => c.value b i x) 10 16
  dataKnown := gatherNibbles (fun i => c.knownRail b i x) 10 16
  mask :=
    if c.value b 0 x = 3 then BitVec.ofNat 16 (gatherNibbles (fun i => c.value b i x) 26 4)
    else BitVec.allOnes 16
  known := (upFrom 0 10).all (fun i => c.knownRail b i x == 15)

/-- Whether a word address may be accessed by a binding (R127). `regions` holds the first word and
the word count of each declared region. -/
def wordAllowed (regions : List (Nat × Nat)) (pch word : Nat) : Bool :=
  decide (word ≤ 0x2FFFFFFFF) && bits word 2 5 == pch &&
    regions.any (fun r => decide (r.1 ≤ word) && decide (word < r.1 + r.2))

/-- Whether a pending-store entry is seen by a read of `word` with request stroke `t` in rota `r`
(R130). -/
def CEntry.seen (e : CEntry) (word r t : Nat) : Bool :=
  e.word == word && (e.committed || decide (e.rota < r) || (e.rota == r && decide (e.stroke < t)))

/-- Whether entry `e` is newer than `f` (R130). -/
def CEntry.newer (e f : CEntry) : Bool :=
  decide (f.rota < e.rota) || (e.rota == f.rota && decide (f.stroke ≤ e.stroke))

/-- The newest entry that a read sees and that writes nibble `j`. -/
def newestEntry (word r t j : Nat) : List CEntry → Option CEntry
  | [] => none
  | e :: es =>
    let rest := newestEntry word r t j es
    if e.seen word r t && e.nibbles.getLsbD j then
      match rest with
      | some f => if e.newer f && !(f.newer e) then some e else some f
      | none => some e
    else rest

/-- The word that a read delivers nibble by nibble (R130), from stack content `base`; the flag says
whether some nibble comes from the stack. -/
def pendingRead (es : List CEntry) (word r t base : Nat) : Nat → Nat × Bool
  | 0 => (base, false)
  | n + 1 =>
    let (v, fromStack) := pendingRead es word r t base n
    match newestEntry word r t n es with
    | some e => (putBits v (4 * n) 4 (bits e.data.toNat (4 * n) 4), fromStack)
    | none => (v, true)

/-- One reserved read of `word` (R122, R123, R130). `bad` is a failed transfer (R123). -/
def State.cellarReadWord (s : State) (n word t : Nat) (bad : Bool) : State × Nat :=
  let es := (s.cellar n).pend
  let dec := if bad then Decoded.bad else s.readEcc word
  let (v, fromStack) := pendingRead es word s.rota t dec.data 16
  if !fromStack then (s, v)
  else
    match dec with
    | .clean _ => (s, v)
    | .corrected _ => (s.bump (cObj n) 5, v)
    | .bad => (((s.bump (cObj n) 6).fire (cellarSource n) 0).uncorrectable word, v)

/-- The hazard fields of a cellar hazard (R281). -/
def cellarHazard (n req : Nat) : Nat := (req % 1024) <<< 6 + n

/-- R280 kinds 7 and 8: the accesses of the same rota and request stroke to the same nibbles. A write
that meets a write is a collision (R131); a read that meets a write is a race. -/
def State.cellarMeet (s : State) (n : Nat) (a : CAccess) : List CAccess → State
  | [] => s
  | o :: t =>
    let same := o.rota == s.rota && o.stroke == a.stroke && o.word == a.word &&
      (o.nibbles &&& a.nibbles) != 0
    let s1 :=
      if !same then s
      else if o.write && a.write then
        ((s.bump (cObj n) 7).fire (cellarSource n) 1).hazard 7 a.stroke
          (cellarHazard n (min o.req a.req)) s.exec
      else if o.write || a.write then s.hazard 8 a.stroke (cellarHazard n a.req) s.exec
      else s
    s1.cellarMeet n a t

/-- Note an access of the present rota. -/
def State.cellarNote (s : State) (n : Nat) (a : CAccess) : State :=
  let s1 := s.cellarMeet n a (s.cellar n).recent
  let c := s1.cellar n
  s1.setCellar n { c with recent := c.recent.filter (fun o => o.rota == s.rota) ++ [a] }

/-- R131: the nibbles of a write that no lower requester writes with the same request stroke. -/
def keptNibbles (e : CEntry) : List CEntry → BitVec 16
  | [] => e.nibbles
  | f :: t =>
    let rest := keptNibbles e t
    if f.word = e.word ∧ f.rota = e.rota ∧ f.stroke = e.stroke ∧ f.req < e.req ∧ !f.committed then
      rest &&& ~~~f.nibbles
    else rest

/-- R131: take the nibbles of write `e` away from the entries of higher requesters. -/
def yieldNibbles (e : CEntry) (es : List CEntry) : List CEntry :=
  (es.map (fun f =>
    if f.word = e.word ∧ f.rota = e.rota ∧ f.stroke = e.stroke ∧ e.req < f.req ∧ !f.committed then
      { f with nibbles := f.nibbles &&& ~~~e.nibbles }
    else f)).filter (fun f => f.nibbles != 0)

/-- The nibbles of a word that was read as `v`, once entry `e` has joined the pending store `es` (R130). -/
def refreshWord (es : List CEntry) (e : CEntry) (reqStroke : Nat) (v : BitVec 64) : BitVec 64 :=
  BitVec.ofNat 64 ((upFrom 0 16).foldl (fun v j =>
    match newestEntry e.word e.rota reqStroke j es with
    | some f => putBits v (4 * j) 4 (bits f.data.toNat (4 * j) 4)
    | none => v) v.toNat)

/-- A return of this rota is served again when an earlier-stroke write of the rota arrives after it
(R130: what is read depends on request strokes alone); a pair is read in both its words (R134). -/
def CReturn.refresh (r : CReturn) (es : List CEntry) (e : CEntry) : CReturn :=
  if ¬ (r.reqRota = e.rota ∧ e.stroke < r.reqStroke) then r
  else if r.word = some e.word then { r with data := refreshWord es e r.reqStroke r.data }
  else if r.pair ∧ r.word.map (· + 1) = some e.word then
    { r with known := refreshWord es e r.reqStroke r.known }
  else r

/-- R130 to R132: one pending write of a cellar word. -/
def State.cellarWriteWord (s : State) (n : Nat) (e : CEntry) : State :=
  let s1 := s.cellarNote n ⟨e.rota, e.stroke, e.req, e.word, e.nibbles, true⟩
  let c := s1.cellar n
  let kept := { e with nibbles := keptNibbles e c.pend }
  let es := yieldNibbles e c.pend ++ (if kept.nibbles = 0 then [] else [kept])
  let c1 := { c with pend := es, log := c.log.map (fun r => r.refresh es kept) }
  (s1.setCellar n c1).peak (cObj n) 9 es.length

/-- A request is refused (R126, R127): counter, event and hazard; its return lands as zero. -/
def State.cellarRefuse (s : State) (n : Nat) (b : Binding) : State :=
  ((s.bump (cObj n) 8).fire (cellarSource n) 2).hazard 9 b.rstroke (cellarHazard n b.req) s.exec

/-- Enter a return in the log (R128, R133). -/
def State.cellarLog (s : State) (n bi : Nat) (b : Binding) (word : Option Nat) (data known : Nat) :
    State :=
  if !b.rd then s
  else
    let d := readLatency s.level s.strokeClock
    let r : CReturn := ⟨bi, s.rota, b.rstroke, s.rota + (b.rstroke + d) / s.rotaLen, word, b.xpair,
      BitVec.ofNat 64 data, BitVec.ofNat 64 known⟩
    let c := s.cellar n
    s.setCellar n { c with log := c.log ++ [r] }

/-- The words that a request names: one, or the value and known words of a pair (R134); the address of an X-mode
request is the a of that rule, the number of the pair (DEDUCED, assumption log 88). -/
def pairWords (x : Bool) (w : Nat) : List Nat := if x then [2 * w, 2 * w + 1] else [w]

/-- The read of a request (R126, R130, R134). -/
def State.cellarServeRead (s : State) (n bi : Nat) (b : Binding) (q : CRequest) (bad : Bool) : State :=
  let s0 := (pairWords b.xpair q.word).foldl (fun st w =>
    st.cellarNote n ⟨s.rota, b.rstroke, b.req, w, BitVec.allOnes 16, false⟩) s
  if b.xpair then
    let (s1, v) := s0.cellarReadWord n (2 * q.word) b.rstroke bad
    let (s2, k) := s1.cellarReadWord n (2 * q.word + 1) b.rstroke bad
    s2.cellarLog n bi b (some (2 * q.word)) v k
  else
    let (s1, v) := s0.cellarReadWord n q.word b.rstroke bad
    s1.cellarLog n bi b (some q.word) v (2 ^ 64 - 1)

/-- The write of a request (R126, R134). -/
def State.cellarServeWrite (s : State) (n : Nat) (b : Binding) (q : CRequest) : State :=
  let e := fun w d => CEntry.mk w q.mask (BitVec.ofNat 64 d) s.rota b.rstroke b.req false
  if b.xpair then
    (s.cellarWriteWord n (e (2 * q.word) q.data)).cellarWriteWord n (e (2 * q.word + 1) q.dataKnown)
  else s.cellarWriteWord n (e q.word q.data)

/-- R126, R127, R134: a request of binding `bi` is performed or refused; one whose OP nibble was absent is idle
(R137). The return of a slot whose request is a write lands as zeros, as for a slot that is idle (DESIGN CHOICE, assumption
log 106). -/
def State.cellarServe (s : State) (n bi : Nat) (b : Binding) (bad : Bool) : State :=
  let c := s.cellar n
  let q := c.request bi b.xpair
  let allowed := (pairWords b.xpair q.word).all (fun w => wordAllowed c.regions b.pch w)
  if c.absent.contains bi then s.cellarLog n bi b none 0 0
  else if !q.known then (s.cellarLog n bi b none 0 0).bump (cObj n) 0xB
  else if q.op = 0 then s.cellarLog n bi b none 0 0
  else if q.op = 1 ∧ b.rd ∧ allowed then s.cellarServeRead n bi b q bad
  else if (q.op = 2 ∨ q.op = 3) ∧ b.wr ∧ allowed then
    (s.cellarLog n bi b none 0 0).cellarServeWrite n b q
  else (s.cellarLog n bi b none 0 0).cellarRefuse n b

/-- CELLAR_REQUEST (R126): the request of a binding that has arrived whole in the present rota. -/
def execCellarRequest (n : Cellar) (binding : Fin 4096) (phyBad : Bool) (s : State) :
    Host.Outcome State Fault Refusal :=
  let c := s.cellar n.val
  .next (match c.bindings[binding.val]? with
    | some b =>
      if c.ready.contains binding.val then
        (s.setCellar n.val { c with ready := c.ready.erase binding.val }).cellarServe n.val
          binding.val b phyBad
      else s
    | none => s)

/-! ## Returns (R128, R129, R137) -/

/-- Slot nibble `j` of the return of a binding: a data nibble, or a value or known rail (R136). -/
def returnNibble (x : Bool) (r : Option CReturn) (j : Nat) : Nat :=
  match r with
  | none => 0
  | some r =>
    if x then bits (if j % 2 = 0 then r.data.toNat else r.known.toNat) (4 * (j / 2)) 4
    else bits r.data.toNat (4 * j) 4

/-- Put the nibbles of a hand-off entry into a quad, from nibble `m` on (R136). -/
def fillQuad (mask : BitVec 8) (f : Nat → Nat) : Nat → Nat → List Nat → Nat
  | _, q, [] => q
  | j, q, m :: ms =>
    if mask.getLsbD m then fillQuad mask f (j + 1) (putBits q (4 * m) 4 (f j)) ms
    else fillQuad mask f j q ms

/-- Hand a quad to the hub at the present stroke: green port `g`, quad position `q` (R162); bits [33:32]
say what sheet the quad comes from (R303). -/
def State.handOff (s : State) (g q : Nat) (v : BitVec 34) : State :=
  { s with opn := { s.opn with agentOut := Tbl.put (g * 4 + q) v s.opn.agentOut } }

/-- The hand-offs of a binding at stroke `t`. -/
def State.cellarHandOffs (s : State) (x : Bool) (r : Option CReturn) (bi t : Nat) :
    List CSlot → State
  | [] => s
  | e :: es =>
    (if e.dir && e.binding == bi && e.stroke == t then
      let old := (Tbl.get 0 s.opn.agentOut (e.gport * 4 + e.pquad)).toNat
      s.handOff e.gport e.pquad
        (BitVec.ofNat 34 (fillQuad e.mask (returnNibble x r) e.first old (upFrom 0 8)))
    else s).cellarHandOffs x r bi t es

/-- The first rota that requester `req` runs after its sheet was lowered, 0 for one that was never lowered (R105,
R129, R302). -/
def State.firstRotaOf (s : State) (req : Nat) : Nat :=
  if req < 1024 then (s.croft req).firstRota else (Tbl.get .blank s.hedge.inits (req - 1024)).firstRota

/-- CELLAR_RETURN (R128, R137): the returns of a binding that are handed off at the present stroke; a
landing with no request behind it carries zeros, and so does one of an earlier rota's request in the first rota
after a lower (R129). -/
def execCellarReturn (n : Cellar) (binding : Fin 4096) (s : State) :
    Host.Outcome State Fault Refusal :=
  let c := s.cellar n.val
  .next (match s.phase, c.bindings[binding.val]? with
    | .rota t, some b =>
      let r := c.log.find? (fun r => r.binding == binding.val && r.landRota == s.rota &&
        !(s.firstRotaOf b.req == s.rota && decide (r.reqRota < s.rota)))
      s.cellarHandOffs b.xpair r binding.val t (c.slots.filter (fun e => e.bank == s.bankNow))
    | _, _ => s)

/-! ## Verdicts (R132, R133) -/

/-- Drain committed entries to the stack (R123, R132). -/
def State.cellarDrain (s : State) (n : Nat) : List CEntry → State
  | [] => s
  | e :: t =>
    let (s1, bad) := s.drainWord e.word ((upFrom 0 16).filter (e.nibbles.getLsbD ·)) e.data.toNat
    (if bad then (s1.bump (cObj n) 6).fire (cellarSource n) 0 else s1).cellarDrain n t

/-- Entries in the order in which they commit: by request stroke (R130). -/
def insertEntry (e : CEntry) : List CEntry → List CEntry
  | [] => [e]
  | f :: t => if e.stroke < f.stroke then e :: f :: t else f :: insertEntry e t

/-- R132, R133: a verdict at cellar `n`. Committed writes go to the stack at once (assumption log 8). -/
def State.cellarVerdict (s : State) (n : Nat) (v : Verdict) : State :=
  let c := s.cellar n
  match v with
  | .none => s
  | .clear k =>
    let (mine, rest) := c.pend.partition (fun e => e.rota == k)
    (s.setCellar n { c with pend := rest, log := c.log.filter (fun r => decide (k < r.landRota)) }
      ).cellarDrain n (mine.foldl (fun l e => insertEntry e l) [])
  | .foul k =>
    s.setCellar n { c with pend := c.pend.filter (fun e => decide (e.rota < k)),
                           log := c.log.filter (fun r => decide (r.reqRota < k)), ready := [], absent := [] }

/-- A boundary at every cellar. -/
def State.cellarsVerdict (s : State) (v : Verdict) : State :=
  [0, 1, 2, 3].foldl (fun st n =>
    let s1 := st.cellarVerdict n v
    s1.setCellar n { s1.cellar n with ready := [], absent := [], recent := [] }) s

/-! ## Requesters that are not BPs (R135) -/

/-- The word addresses of an access of `n` bytes at byte address `a`. -/
def wordsOf (a n : Nat) : List Nat := upFrom (a / 8) ((a + n - 1) / 8 + 1 - a / 8)

/-- Whether the cellar that holds byte address `a` can serve an access. -/
def State.cellarOn (s : State) (a : Nat) : Bool := s.obj (cObj (a / cellarBytes)) 1 == 2

/-- R118, R122, R123, R135: a non-BP read of a cellar. -/
def State.cellarBytesRead (s : State) (a n : Nat) : State × Nat × List Byte :=
  let cn := a / cellarBytes
  if !s.cellarOn a then (s, opNotPowered, [])
  else
    let ws := wordsOf a n
    let fixed := (ws.filter (fun w => (s.readEcc w).isCorrected)).length
    let s1 := if fixed = 0 then s else s.bump (cObj cn) 5 fixed
    if ws.any (fun w => s.readEcc w == .bad) then ((s1.bump (cObj cn) 6).fire (cellarSource cn) 0, opUncorrectable, [])
    else
      let all := ws.flatMap (fun w => leBytes 8 (s.readEcc w).data)
      (s1, opData, (all.drop (a % 8)).take n)

/-- What reading the words from `lo` below `hi` of the cellars counts and reports (R122, R123); a word with no error
pattern gives nothing. -/
def State.countCellarReads (s : State) (lo hi : Nat) : State :=
  s.errs.foldl (fun st e =>
    let n := e.1 / cellarWords
    if e.1 < lo ∨ hi ≤ e.1 then st
    else match s.readEcc e.1 with
    | .clean _ => st
    | .corrected _ => st.bump (cObj n) 5
    | .bad => (st.bump (cObj n) 6).fire (cellarSource n) 0) s

/-- Write the enabled bytes of an access word by word, with fresh check bits. -/
def State.eccWriteBytes (s : State) : Nat → List (Byte × Bool) → State
  | _, [] => s
  | a, (b, en) :: t =>
    (if !en then s
      else
        let w := a / 8
        let old := match s.readEcc w with
          | .bad => s.word w ^^^ (s.err w).toNat % 2 ^ 64
          | d => d.data
        (s.writeWord w (putByte old (a % 8) b)).forgetUncorrected w).eccWriteBytes (a + 1) t

/-- Whether a byte range meets a declared region of a cellar (R178, R280). -/
def State.declaredRegion (s : State) (a n : Nat) : Bool :=
  (s.cellar (a / cellarBytes)).regions.any (fun r =>
    decide (8 * r.1 < a + n) && decide (a < 8 * (r.1 + r.2)))

/-- R119, R135: a non-BP write to a cellar. -/
def State.cellarBytesWrite (s : State) (init a : Nat) (data : List (Byte × Bool)) : State × Nat :=
  if !s.cellarOn a then (s, opNotPowered)
  else ((s.eccWriteBytes a data).foreignWrite init (s.declaredRegion a data.length) data, opAck)

/-! ## Temperature and refresh (R139, R140) -/

/-- R139: the band after a reading of `t` °C. Band 2 is left for band 1 at 82 °C and above (DESIGN CHOICE, assumption
log 88). -/
def nextBand (band : Nat) (t : Int) : Nat :=
  if 95 < t then 2
  else
    match band with
    | 0 => if 85 < t then 1 else 0
    | 1 => if t < 82 then 0 else 1
    | _ => if t < 82 then 0 else if t < 92 then 1 else 2

/-- CELLAR_TEMPERATURE_READ (R139). -/
def execCellarTemperatureRead (n : Cellar) (temp : Int) (s : State) :
    Host.Outcome State Fault Refusal :=
  let i := cObj n.val
  let s1 := (s.setObj i 2 (pattern 8 temp)).setObj i 3 (nextBand (s.obj i 3) temp)
  .next (if s.obj i 3 = 2 ∨ nextBand (s.obj i 3) temp = 2 then
      (if 105 < temp then s1.fire (cellarSource n.val) 3 else s1)
    else s1)

/-- Whole rounds owed by cellar `n` (R139). -/
def State.roundsOwed (s : State) (n : Nat) : Nat := (s.cellar n).debt / roundStrokes s.strokeClock

/-- One stroke of refresh debt at cellar `n` (R139; assumption log 9): a stack that is up and not in self-refresh
owes, in every device state. -/
def State.debtStroke (s : State) (n : Nat) : State :=
  let inc := match s.obj (cObj n) 3 with
    | 1 => 1
    | 2 => 3
    | _ => 0
  if inc = 0 ∨ s.obj (cObj n) 1 ≠ 2 ∨ (s.cellar n).selfRefresh then s
  else s.setCellar n { s.cellar n with debt := (s.cellar n).debt + inc }

/-- Ask the bell unit for a refresh fallow (R140, R246). -/
def State.askRefresh (s : State) : State :=
  { s with bell := { s.bell with refresh := some (s.bell.refresh.getD s.requestExec) } }

/-- REFRESH_FALLOW_REQUEST (R140): the debt of a controller has reached 4 rounds. -/
def execRefreshFallowRequest (n : Cellar) (s : State) : Host.Outcome State Fault Refusal :=
  let c := s.cellar n.val
  .next (if s.dev = .run ∧ 4 ≤ s.roundsOwed n.val ∧ !c.asked then
      ((s.setCellar n.val { c with asked := true }).bump (cObj n.val) 4).askRefresh
    else s)

/-- FORCED_REFRESH (R140): the debt has reached 8 rounds before a refresh fallow began. -/
def execForcedRefresh (n : Cellar) (s : State) : Host.Outcome State Fault Refusal :=
  let c := s.cellar n.val
  .next (if s.dev = .run ∧ 8 ≤ s.roundsOwed n.val ∧ !c.forced then
      (((s.setCellar n.val { c with asked := true, forced := true }).bump (cObj n.val) 4
        ).chargeFoul s.requestExec).askRefresh
    else s)

/-- A bell with REFRESH answers the requests that stand: rounds still owed after it are requested again (R245). -/
def State.answerRefresh (s : State) : State :=
  [0, 1, 2, 3].foldl (fun st n => st.setCellar n { st.cellar n with asked := false, forced := false }) s

/-- R140, R245: a fallow whose bell carried REFRESH repays 4 rounds, or 8 when it also carried FOUL. -/
def State.repayRefresh (s : State) (rounds : Nat) : State :=
  [0, 1, 2, 3].foldl (fun st n =>
    let c := st.cellar n
    st.setCellar n { c with debt := c.debt - rounds * roundStrokes s.strokeClock }) s

/-- CELLAR_PATROL_SCRUB (R122). -/
def execCellarPatrolScrub (n : Cellar) (word : Fin 3221225472) (s : State) :
    Host.Outcome State Fault Refusal :=
  let i := cObj n.val
  .next (if s.obj i 1 = 2 then
      s.scrubWord (n.val * cellarWords + word.val) i 5 i 6 (cellarSource n.val) 0
    else s)

/-- CELLAR_READY (R508): a cellar that was trained has every word at zero with valid check bits and
reads ready. -/
def execCellarReady (n : Cellar) (s : State) : Host.Outcome State Fault Refusal :=
  .next (if s.obj (cObj n.val) 1 = 1 then
      (s.zeroRange (n.val * cellarBytes) ((n.val + 1) * cellarBytes)).setObj (cObj n.val) 1 2
    else s)

end Sys2Proof.Machine
end

