-- ==== Sys2Proof/Machine/Mesh.lean ====
section
/-!
DEFINITION. The G traffic of the on-package network (R151 to R166, R269): where routers stand, what a
stroke moves from input to output, what crofts inject, what lands in an arrival store, and what green
agents hand off and receive.
-/

namespace Sys2Proof.Machine

/-! ## Places (R23, R151, R152, R155) -/

/-- Router node to which Franel port `p` attaches (R152). -/
def portNode (p : Nat) : Nat := nodeOf (p / 4 * 128 + 32 * (p % 4) + 24)

/-- The Franel port that attaches at router node `n`, if one does. -/
def portAt (n : Nat) : Option Nat :=
  let k := croftAt n
  if k % 128 % 32 = 24 then some (k / 128 * 4 + k % 128 / 32) else none

/-- The router or green end at the far side of output `o` (0 N, 1 E, 2 S, 3 W) of node `n`, and the
input it enters; green port `g` is node `1024 + g` (R151). -/
def neighbour (n o : Nat) : Option (Nat × Nat) :=
  let x := n % 32
  let y := n / 32
  match o with
  | 0 => if y = 0 then none else some (n - 32, 2)
  | 1 => if x = 31 then none else some (n + 1, 3)
  | 2 => if y = 31 then none else some (n + 32, 0)
  | 3 => if x = 0 then some (1024 + y, 0) else some (n - 1, 1)
  | _ => none

/-- Whether output `o` of node `n` is a lath link (R151, R155). -/
def isLath (n o : Nat) : Bool :=
  let x := n % 32
  let y := n / 32
  match o with
  | 0 => y % 8 == 0
  | 1 => x == 15
  | 2 => y % 8 == 7
  | _ => x == 0 || x == 16

/-- Strokes from placing a flit on output `o` of node `n` to naming it downstream (R155, R269); to the
green it is the stroke at whose end the agent receives it (R156, R162). -/
def linkDelay (level n o : Nat) : Nat :=
  let lath := if level = 2 then 2 else 3
  let hub := if level = 2 then 1 else 2
  if isLath n o then lath + (if n % 32 = 0 ∧ o = 3 then hub else 0) else 1

/-- Strokes from a green agent's hand-off to naming the quad at router (0, g) (R156, R162, R269). -/
def handOffDelay (level : Nat) : Nat := if level = 2 then 4 else 6

/-! ## Tables (R159 to R161, R188) -/

/-- Key of a table entry for stroke `t` at node `n`. -/
def tableKey (bank t n : Nat) : Nat := (bank * 1024 + t) * 1024 + n

/-- Key of a route entry of output `o`. -/
def routeKey (bank t n o : Nat) : Nat := tableKey bank t n * 8 + o

/-- A route entry that names no source (R160). -/
def routeNone : BitVec 24 := 0x1C71C7

/-- The listed entries with keys from `lo` below `hi`, with their keys counted from `lo`. -/
def Tbl.slice {α : Type} (lo hi : Nat) (t : Tbl α) : Tbl α :=
  (t.filter (fun e => decide (lo ≤ e.1) && decide (e.1 < hi))).map (fun e => (e.1 - lo, e.2))

/-! ## Flits and quads (R164) -/

/-- An input with nothing present. -/
def GFlit.none : GFlit := ⟨0, 0, 0⟩

/-- Quad `q` of a flit (R164): whether it is present, what sheet sent it, its bits. -/
def GFlit.quad (f : GFlit) (q : Nat) : Bool × Nat × Nat :=
  (f.present.getLsbD q, bits f.sheeted.toNat (2 * q) 2, bits f.quads.toNat (32 * q) 32)

/-- Set quad `q` of a flit; an absent quad carries 0 (R164). -/
def GFlit.setQuad (f : GFlit) (q : Nat) (v : Bool × Nat × Nat) : GFlit :=
  if v.1 then
    ⟨f.present ||| (1#4 <<< q), BitVec.ofNat 8 (putBits f.sheeted.toNat (2 * q) 2 v.2.1),
      BitVec.ofNat 128 (putBits f.quads.toNat (32 * q) 32 v.2.2)⟩
  else f

/-- Build a flit from the four 6-bit source fields of an entry (R160, R216): `inp` gives the flit at an
input; code 7 is NONE. -/
def buildFlit (entry : BitVec 24) (inp : Nat → GFlit) : GFlit :=
  [0, 1, 2, 3].foldl (fun f q =>
    let src := bits entry.toNat (6 * q) 6
    if src % 8 = 7 then f else f.setQuad q ((inp (src % 8)).quad (src / 8 % 4))) .none

/-- Whether an entry names a source (R164, R168). -/
def namesSource (entry : BitVec 24) : Bool :=
  [0, 1, 2, 3].any (fun q => bits entry.toNat (6 * q) 6 % 8 != 7)

/-- Key of the flit that node `n` can name at input `i` at stroke `t`. -/
def flitKey (t n i : Nat) : Nat := (t * 2048 + n) * 8 + i

/-- Bits [135:0] of a flit on its link (R164). -/
def GFlit.body (f : GFlit) : BitVec 136 := f.present ++ 0#4 ++ f.quads

/-- A flit on its link (R164): the router output that builds it computes its CRC. -/
def GFlit.word (f : GFlit) : BitVec 144 := BitVec.ofNat 8 (crc8 f.body.toNat) ++ f.body

/-- The flit that a router takes from the word on its link: none when its CRC does not match (R164, R165). What
sheet sent a quad (R100, R303) is not carried by the word. -/
def takeGFlit (sheeted : BitVec 8) (w : BitVec 144) : Option GFlit :=
  if crc8 (w.toNat % 2 ^ 136) = w.toNat / 2 ^ 136 then some ⟨w.extractLsb' 132 4, sheeted, w.extractLsb' 0 128⟩
  else none

/-- R165: flits that arrive at stroke `t` with flipped bits: where the CRC shows it, all four quads are absent, the
error is counted and reported, and the rota rings foul. -/
def State.checkErrors (s : State) (t : Nat) : List (Nat × Nat × BitVec 144) → State
  | [] => s
  | (n, i, e) :: rest =>
    (if (s.opn.flits.any (fun x => x.1 == flitKey t n i)) && decide (i < 4) && decide (n < 1024) then
      let f := Tbl.get .none s.opn.flits (flitKey t n i)
      let got := takeGFlit f.sheeted (f.word ^^^ e)
      let s1 := { s with opn := { s.opn with flits := Tbl.put (flitKey t n i) (got.getD .none) s.opn.flits } }
      if got.isSome then s1 else ((s1.bump 0x4800 1).fire (1024 + croftAt n / 128) 1).foul
    else s).checkErrors t rest

/-- The flit at input `i` of node `n` at stroke `t` (R160): a link or INJ input, or what the attached
port delivers at this stroke (R217). -/
def State.inputAt (s : State) (t n i : Nat) : GFlit :=
  if i = 5 then
    match portAt n with
    | some p => (s.port p).delivered
    | none => .none
  else Tbl.get .none s.opn.flits (flitKey t n i)

/-- R161: the nibbles of a quad written to an arrival store under an eject field. -/
def ejectQuad (c : CroftRec) (field quad : Nat) : CroftRec :=
  let base := bits field 8 8
  let xi := bitAt field 16
  (upFrom 0 8).foldl (fun c n =>
    if !bitAt field n then c
    else
      (upFrom 0 4).foldl (fun c j =>
        let i := if xi then 4 * (base + n - n % 2) + 2 * j + n % 2 else 4 * (base + n) + j
        { c with arrival := setBit c.arrival i (bitAt quad (4 * n + j)), landed := setBit c.landed i true })
        c) c

/-- R47, R161: a flit that the EJ output places lands in the croft's arrival store. -/
def CroftRec.eject (c : CroftRec) (entry : BitVec 72) (f : GFlit) : CroftRec :=
  [0, 1, 2, 3].foldl (fun c q =>
    let v := f.quad q
    if v.1 then ejectQuad c (bits entry.toNat (18 * q) 18) v.2.2 else c) c

/-- What one route entry of stroke `t` does: node `n`, output `o`. -/
def State.routeOne (s : State) (bank t n o : Nat) (entry : BitVec 24) : State :=
  if !namesSource entry then s
  else
    let f := buildFlit entry (s.inputAt t n)
    match o with
    | 4 =>
      let k := croftAt n
      s.setCroft k ((s.croft k).eject (Tbl.get 0 s.opn.ejects (tableKey bank t n)) f)
    | 5 =>
      match portAt n with
      | some p => s.setPort p { s.port p with att := f }
      | none => s
    | _ =>
      match neighbour n o with
      | some (m, i) =>
        let key := flitKey (t + linkDelay s.level n o) m i
        { s with opn := { s.opn with flits := Tbl.put key f s.opn.flits } }
      | none => s

/-- Every route entry of stroke `t`. -/
def State.routeAll (s : State) (bank t : Nat) : Tbl (BitVec 24) → State
  | [] => s
  | (key, e) :: rest => (s.routeOne bank t (key / 8) (key % 8) e).routeAll bank t rest

/-! ## Injection (R159, R100) -/

/-- R159: the quads of a croft from its lanes. -/
def injectFlit (entry : BitVec 24) (lanes : BitVec 32) (sheeted : Nat) : GFlit :=
  (upFrom 0 8).foldl (fun f n =>
    let code := bits entry.toNat (3 * n) 3
    if code < 4 then f
    else
      let q := code % 4
      let old := (f.quad q).2.2
      f.setQuad q (true, sheeted, putBits old (4 * n) 4 (bits lanes.toNat (4 * n) 4))) .none

/-- The lanes that croft `k` presents at stroke `t`, and whether its sheet stands in for it (R78,
R100, R104). -/
def State.lanesOut (s : State) (k t : Nat) : BitVec 32 × Nat :=
  let c := s.croft k
  if !c.bare s.rota then (s.sheetLanes k t, 1)
  else if c.mode = 0 then (0, 0)
  else (c.sends, 0)

/-- The injections of stroke `t`: present at INJ at stroke `t + 1` (R159). -/
def State.injectAll (s : State) (t : Nat) : Tbl (BitVec 24) → State
  | [] => s
  | (n, e) :: rest =>
    let (lanes, sh) := s.lanesOut (croftAt n) t
    let f := injectFlit e lanes sh
    (if f = .none then s
      else
        { s with opn := { s.opn with flits := Tbl.put (flitKey (t + 1) n 4) f s.opn.flits } }).injectAll
          t rest

/-- Whether a slot record of a trough is handed off (R319). -/
def handedOff (dir : Nat) (e : TSlot) : Bool := e.kind == 3 || (dir == 1 && e.kind != 0)

/-- The quads that agents hand off at stroke `t` enter at the W input of router (0, g) (R156, R162). -/
def State.agentInject (s : State) (t : Nat) : Tbl (BitVec 34) → State
  | [] => s
  | (gq, v) :: rest =>
    let key := flitKey (t + handOffDelay s.level) (gq / 4 * 32) 3
    let f := (Tbl.get .none s.opn.flits key).setQuad (gq % 4) (true, v.toNat / 2 ^ 32, v.toNat % 2 ^ 32)
    { s with opn := { s.opn with flits := Tbl.put key f s.opn.flits } }.agentInject t rest

/-- The quad that a green agent receives at the end of stroke `t` on green port `g`, position `q`. A quad
of a sheeted croft is absent there (R100); one of a sheeted region is absent at a cellar, trough or tally
(`strict`, R303). -/
def State.agentQuad (s : State) (strict : Bool) (t g q : Nat) : Option Nat :=
  let v := (Tbl.get .none s.opn.flits (flitKey t (1024 + g) 0)).quad q
  if v.1 && (v.2.1 == 0 || (!strict && v.2.1 == 2)) then some v.2.2 else none

/-- Drop the flits of stroke `t`: each can be named at one stroke only. -/
def State.dropFlits (s : State) (t : Nat) : State :=
  let keep := s.opn.flits.filter (fun e => decide (flitKey (t + 1) 0 0 ≤ e.1))
  { s with opn := { s.opn with flits := keep, agentOut := [] } }

/-! ## Cellar receive entries (R136, R137) -/

/-- The nibbles of a receive entry, from nibble `m` of the quad on; `j` is the slot nibble. -/
def takeNibbles (mask : BitVec 8) (quad bi : Nat) : Nat → Tbl (BitVec 4) → List Nat → Tbl (BitVec 4)
  | _, t, [] => t
  | j, t, m :: ms =>
    if mask.getLsbD m then
      takeNibbles mask quad bi (j + 1)
        (Tbl.set 0 t (bi * 64 + j) (BitVec.ofNat 4 (bits quad (4 * m) 4))) ms
    else takeNibbles mask quad bi j t ms

/-- The last receive stroke of a binding (R136). -/
def lastReceive (bi : Nat) : List CSlot → Nat
  | [] => 0
  | e :: t => if !e.dir && e.binding == bi then max e.stroke (lastReceive bi t) else lastReceive bi t

/-- What cellar `n` receives at the end of stroke `t`. A request is whole after the last receive stroke
of its binding. -/
def State.cellarReceive (s : State) (n t : Nat) (all : List CSlot) : List CSlot → State
  | [] => s
  | e :: es =>
    (if !e.dir && e.stroke == t then
      let c := s.cellar n
      let got := s.agentQuad true t e.gport e.pquad
      let quad := got.getD 0
      let op := got.isNone && e.first == 0 && !c.absent.contains e.binding
      let rx := takeNibbles e.mask quad e.binding e.first c.rx (upFrom 0 8)
      let done := lastReceive e.binding all == t && !c.ready.contains e.binding
      s.setCellar n { c with rx := rx, ready := if done then c.ready ++ [e.binding] else c.ready,
                             absent := if op then c.absent ++ [e.binding] else c.absent }
    else s).cellarReceive n t all es

/-- The receive entries of every cellar at stroke `t`. -/
def State.cellarsReceive (s : State) (t : Nat) : State :=
  [0, 1, 2, 3].foldl (fun st n =>
    let es := (st.cellar n).slots.filter (fun e => e.bank == st.bankNow)
    st.cellarReceive n t es es) s

end Sys2Proof.Machine
end

