-- ==== Sys2Proof/Machine/Steeple.lean ====
section
/-!
DEFINITION. Steeple network time (R383 to R395): the counter, messages, master selection, the servo,
pulse outputs and capture inputs, and the state changes of a Franel port, each of which runs master
selection again (R388).
-/

namespace Sys2Proof.Machine

/-! ## The counter (R383, R384) -/

/-- A stored 32-bit object read as two's complement. -/
def State.objInt (s : State) (i sub w : Nat) : Int := signed w (s.obj i sub)

/-- INC in units of 2^−32 ns (R383). -/
def State.steepleInc (s : State) : Int := 10 * 2 ^ 32 + s.objInt 0x2200 3 32 + s.steeple.adj

/-- WRAPS, NS and FRAC at stroke `j` of the present reference period (R384). -/
def State.valueAt (s : State) (j : Int) : Nat :=
  pattern 96 ((s.steeple.value : Int) + (j * s.steepleInc) / (s.strokeClock : Int))

/-- WRAPS, NS and FRAC at the start of the present stroke. -/
def State.nowValue (s : State) : Nat := s.valueAt s.steeple.sub

/-- NS.FRAC at the start of the present stroke: the steeple time (R384). -/
def State.now (s : State) : Nat := s.nowValue % 2 ^ 64

/-- NS at the start of the present stroke. -/
def State.nowNs (s : State) : Nat := s.now / 2 ^ 32

/-- Core cycles that the cores with a running task spend in one reference period (R333, R354): twelve, and none in a power
state that gates their clocks (R440). -/
def State.busyCycles (s : State) : State :=
  if s.obj 0x2100 1 ≠ 0 then s else
  s.cores.foldl (fun st e =>
    if e.2.task.isSome then
      st.setObj (0x5310 + e.1) 5 ((st.obj (0x5310 + e.1) 5 + 12) % 2 ^ 64)
    else st) s

/-- The present stroke, counted from the time the steeple left STANDBY. -/
def State.strokeIndex (s : State) : Nat := s.steeple.base + s.steeple.sub

/-- A store patrol is no longer shown in 0x2300.01 (R428; how long it shows is a DESIGN CHOICE, assumption log 111). -/
def State.patrolEnds (s : State) : State := if s.obj 0x2300 1 = 3 then s.setObj 0x2300 1 0 else s

/-- REFERENCE_PERIOD (R383): the value advances by INC, in every power state except STANDBY. mtime counts
the same reference (R333). Without the reference there is no period (R439). -/
def execReferencePeriod (s : State) : Host.Outcome State Fault Refusal :=
  .next (if s.obj 0x2100 1 = 4 ∨ !s.power.reference then s
    else
      let r : SteepleRec := { s.steeple with
        value := pattern 96 ((s.steeple.value : Int) + s.steepleInc), sub := 0, base := s.steeple.base + s.strokeClock }
      { s with steeple := r, mtime := s.mtime + 1 }.busyCycles.patrolEnds)

/-- The reference returns (R439): the time that the steeple counted from the held stroke PLL stands. -/
def State.keepHeldTime (s : State) : State :=
  { s with steeple := { s.steeple with value := s.nowValue, sub := 0, base := s.strokeIndex } }

/-! ## State and selection (R388, R391) -/

/-- Flags of 0x2200.04. -/
def State.steepleFlag (s : State) (b : Nat) : State :=
  s.setObj 0x2200 4 (s.obj 0x2200 4 ||| (1 <<< b))

/-- The servo starts afresh. -/
def SteepleRec.forget (r : SteepleRec) : SteepleRec :=
  { r with adj := 0, sync := none, pair := none, near := 0, far := 0 }

/-- Enter HOLDOVER (R391); a slave that loses its master reports it. -/
def State.holdover (s : State) : State :=
  let st := s.obj 0x2200 1
  let s1 := { s with steeple := s.steeple.forget }.setObj 0x2200 1 4
  if st = 2 ∨ st = 3 then (s1.steepleFlag 0).fire 1349 0 else s1

/-- A candidate of R388: its rank, STEPS and the port, 32 for the module's own set. -/
structure Candidate where
  rank : Nat
  steps : Nat
  port : Nat
  deriving DecidableEq, Repr

/-- The low 48 bits of the module's identity (R203, R388). -/
def State.ident (s : State) : Nat := s.fuse.uid % 2 ^ 48

/-- The candidate of the module's own data set. -/
def State.ownCandidate (s : State) : Option Candidate :=
  if s.obj 0x2201 2 = 255 then none
  else some ⟨(s.obj 0x2201 2 <<< 16 + s.obj 0x2201 3 <<< 8 + s.obj 0x2201 4) <<< 48 + s.ident, 0, 32⟩

/-- The candidate of an ANNOUNCE's [79:0] (R386). -/
def announceCandidate (p : Nat) (a : BitVec 80) : Option Candidate :=
  let n := a.toNat
  if bits n 72 8 = 255 then none
  else some ⟨bits n 56 24 <<< 48 + bits n 0 48, bits n 48 8, p⟩

/-- Whether port `p` carries steeple messages and is UP (R386, R388). -/
def State.steeplePort (s : State) (p : Nat) : Bool :=
  bitAt (s.obj 0x2201 6) p && s.obj (pObj p) 2 == 3

/-- The newest ANNOUNCE of port `p`, if it is enabled, UP and holds one (R388). -/
def State.portAnnounce (s : State) (p : Nat) : Option (BitVec 80) :=
  if s.steeplePort p then Tbl.get none s.steeple.announces p else none

/-- The candidate of port `p`, if it has one. -/
def State.portCandidate (s : State) (p : Nat) : Option Candidate := (s.portAnnounce p).bind (announceCandidate p)

/-- The better of two candidates (R388). -/
def Candidate.better (a b : Candidate) : Bool :=
  decide (a.rank < b.rank) ||
  (a.rank == b.rank && (decide (a.steps < b.steps) || (a.steps == b.steps && decide (a.port ≤ b.port))))

/-- The winner among candidates. -/
def bestOf : List (Option Candidate) → Option Candidate
  | [] => none
  | c :: t =>
    match c, bestOf t with
    | some a, some b => if a.better b then some a else some b
    | some a, none => some a
    | none, r => r

/-- The winner of R388. -/
def State.winner (s : State) : Option Candidate :=
  bestOf (s.ownCandidate :: (upFrom 0 32).map s.portCandidate)

/-- The role of port `p` under winner `w` (R388): own set, a slave port, or none. -/
def State.steepleRole (s : State) (w : Option Candidate) (p : Nat) : Nat :=
  if !bitAt (s.obj 0x2201 6) p then 0
  else
    match w with
    | none => 0
    | some c =>
      if c.port = p then 2
      else
        match s.portAnnounce p with
        | some a => if bits a.toNat 0 48 = c.rank % 2 ^ 48 ∧ c.steps < bits a.toNat 48 8 ∧ c.port < 32 then 3 else 1
        | none => 1

/-- The state after the winner is known (R391). -/
def State.steepleMove (s : State) (w : Option Candidate) : State :=
  let st := s.obj 0x2200 1
  match w with
  | none =>
    if st = 2 ∨ st = 3 then s.holdover.setObj 0x2200 1 0
    else if st = 4 then s.setObj 0x2200 1 0 else s
  | some c =>
    if c.port = 32 then
      let s1 := if st = 2 ∨ st = 3 then s.holdover else s
      { s1 with steeple := { s1.steeple with adj := 0 } }.setObj 0x2200 1 1
    else if (st = 2 ∨ st = 3) ∧ s.obj 0x2200 7 = c.port ∧ s.steeple.gm = c.rank % 2 ^ 48 then s
    else if st = 4 ∧ s.obj 0x2200 7 = c.port ∧ s.steeple.gm = c.rank % 2 ^ 48 then s
    else s.holdover

/-- Master selection (R388). -/
def State.steepleSelect (s : State) : State :=
  let w := s.winner
  let s1 := s.steepleMove w
  let gm := match w with | some c => c.rank % 2 ^ 48 | none => 0
  let port := match w with | some c => if c.port = 32 then 0xFF else c.port | none => 0xFF
  (upFrom 0 32).foldl (fun st p => st.setObj (0x2240 + p) 2 (s.steepleRole w p))
    ({ s1 with steeple := { s1.steeple with gm := gm } }.setObj 0x2200 7 port)

/-- Set the state of port `p` (R211); a change runs master selection (R388). -/
def State.setPortState (s : State) (p v : Nat) : State :=
  if s.obj (pObj p) 2 = v then s else (s.setObj (pObj p) 2 v).steepleSelect

/-- This module's steeple is LOCKED, or is MASTER (R390). -/
def State.steepleLocked (s : State) : Bool := s.obj 0x2200 1 == 1 || s.obj 0x2200 1 == 3

/-- Both ends of port `p` are locked to one master (R214, R390), as far as this end sees: its own steeple is, and the GMID of
the partner's ANNOUNCE, if one is held, is its own (DEDUCED, assumption log 108). -/
def State.portLocked (s : State) (p : Nat) : Bool :=
  s.steepleLocked && (match Tbl.get none s.steeple.announces p with
    | some a => a.toNat % 2 ^ 48 == s.steeple.gm
    | none => true)

/-! ## Messages (R386, R387) -/

/-- TYPE of a steeple message. -/
def msgType (m : BitVec 112) : Nat := bits m.toNat 108 4

/-- A steeple message of a type, with DOMAIN, SEQID and [79:0]. -/
def steepleMsg (type domain seq body : Nat) : BitVec 112 :=
  BitVec.ofNat 112 (type <<< 108 + domain <<< 96 + (seq % 2 ^ 16) <<< 80 + body % 2 ^ 80)

/-- NS and FRAC[31:16] of a time, as the [79:32] of a message. -/
def stampBody (t : Nat) : Nat := (t % 2 ^ 64) / 2 ^ 16 * 2 ^ 32

/-- The time in the [79:32] of a message. -/
def bodyTime (m : BitVec 112) : Nat := bits m.toNat 32 48 * 2 ^ 16

/-- Whether the receiver takes the message (R386). -/
def State.steepleTakes (s : State) (p type : Nat) (m : BitVec 112) : Bool :=
  msgType m == type && bits m.toNat 96 8 == s.obj 0x2201 1 && bitAt (s.obj 0x2201 6) p

/-- A discarded message is counted (R386). -/
def State.steepleDiscard (s : State) (p : Nat) : State := s.bump (0x2240 + p) 3

/-- Order in which waiting messages leave (R387). -/
def msgOrder (m : BitVec 112) : Nat :=
  match msgType m with
  | 9 => 0
  | 0 => 1
  | 1 => 2
  | _ => 3

/-- Put a message into the queue of a port; a SYNC replaces one that waits (R387). -/
def queueMsg (m : BitVec 112) : List (BitVec 112) → List (BitVec 112)
  | [] => [m]
  | q :: t =>
    if msgType m = 0 ∧ msgType q = 0 then m :: t
    else if msgOrder m < msgOrder q then m :: q :: t
    else q :: queueMsg m t

/-- Queue a message for sending on port `p`. -/
def State.steepleSend (s : State) (p : Nat) (m : BitVec 112) : State :=
  let r := s.port p
  s.setPort p { r with out := { r.out with steeple := queueMsg m r.out.steeple } }

/-- The role in which a port sends a type of message (R387): a slave DELAY_REQ, a master the others. -/
def senderRole (type : Nat) : Nat := if type = 1 then 2 else 1

/-- The waiting messages that port `p` may still send (R387): it is enabled and in their role. -/
def State.steepleReady (s : State) (p : Nat) : List (BitVec 112) :=
  (s.port p).out.steeple.filter (fun m =>
    bitAt (s.obj 0x2201 6) p && s.obj (0x2240 + p) 2 == senderRole (msgType m))

/-- The next SEQID of a port and type, and the state after it is taken. -/
def State.nextSeq (s : State) (p type : Nat) : State × Nat :=
  let k := p * 16 + type
  let n := Tbl.get 0 s.steeple.seqs k
  ({ s with steeple := { s.steeple with seqs := Tbl.set 0 s.steeple.seqs k ((n + 1) % 2 ^ 16) } }, n)

/-- STEEPLE_SEND_DUE (R387): a port queues the message of its role. -/
def execSteepleSendDue (p : Port) (due : SteepleDue) (s : State) : Host.Outcome State Fault Refusal :=
  let role := s.obj (0x2240 + p.val) 2
  let dom := s.obj 0x2201 1
  .next (if !bitAt (s.obj 0x2201 6) p.val then s
    else
      match due with
      | .sync =>
        if role ≠ 1 then s
        else
          let (s1, n) := s.nextSeq p.val 0
          s1.steepleSend p.val (steepleMsg 0 dom n 0)
      | .delayReq =>
        if role ≠ 2 then s
        else
          let (s1, n) := s.nextSeq p.val 1
          s1.steepleSend p.val (steepleMsg 1 dom n 0)
      | .announce =>
        match role, s.winner with
        | 1, some c =>
          let (s1, n) := s.nextSeq p.val 11
          let steps := if c.port = 32 then 0 else c.steps + 1
          s1.steepleSend p.val
            (steepleMsg 11 dom n (bits c.rank 48 24 <<< 56 + (steps % 256) <<< 48 + c.rank % 2 ^ 48))
        | _, _ => s)

/-- A message as its frame starts at this stroke: a SYNC takes the time and the RATE; the stamp t3 of a
DELAY_REQ is recorded (R387). -/
def State.steepleLeave (s : State) (m : BitVec 112) : State × BitVec 112 :=
  match msgType m with
  | 0 =>
    (s, BitVec.ofNat 112 (bits m.toNat 80 32 <<< 80 + stampBody s.now + s.obj 0x2200 3 % 2 ^ 32))
  | 1 => ({ s with steeple := { s.steeple with asked := some (bits m.toNat 80 16, some s.now) } }, m)
  | _ => (s, m)

/-! ## Servo (R389, R390) -/

/-- The signed difference of two times. -/
def timeDiff (a b : Nat) : Int := signed 64 (pattern 64 ((a : Int) - b))

/-- The largest magnitude of ADJ and RATE (R383). -/
def adjLimit : Int := 42949673

/-- Clip to the range of R383. -/
def clip (z : Int) : Int := if z < -adjLimit then -adjLimit else if adjLimit < z then adjLimit else z

/-- R390: count an offset and move between ACQUIRING and LOCKED. -/
def State.judgeOffset (s : State) (offset : Int) : State :=
  let k : Int := s.strokeClock
  let mag : Int := offset.natAbs
  let near := if 2 * mag * k < 10 * 2 ^ 32 then s.steeple.near + 1 else 0
  let far := if 10 * 2 ^ 32 ≤ mag * k then s.steeple.far + 1 else 0
  let s1 := { s with steeple := { s.steeple with near := near, far := far } }
  if s.obj 0x2200 1 = 2 ∧ 16 ≤ near then s1.setObj 0x2200 1 3
  else if s.obj 0x2200 1 = 3 ∧ 4 ≤ far then ((s1.setObj 0x2200 1 2).steepleFlag 1).fire 1349 1
  else s1

/-- A value in units of 2^−8 ns that 0x2200.`sub` holds from `lo` below 2^32 above it: R395 gives none for a value out
of that range, and it reads as a free value (assumption log 57). -/
def State.setSpan (s : State) (sub : Nat) (lo v : Int) : State :=
  if lo ≤ v ∧ v < lo + 2 ^ 32 then s.setObj 0x2200 sub (pattern 32 v)
  else (s.setObj 0x2200 sub (Config.freeBits 32 (s.freeKey 0)).toNat).freeNext

/-- A step of the value by `d` moves the present pulse with it: it keeps its WIDTH (R392). -/
def Pulse.moved (d : Int) (r : Pulse) : Pulse :=
  match r.span with
  | .time a b => { r with span := .time (pattern 96 ((a : Int) + d)) (pattern 96 ((b : Int) + d)) }
  | _ => r

/-- R389 with the last SYNC and the last completed pair. -/
def State.servo (s : State) : State :=
  match s.steeple.sync, s.steeple.pair with
  | some (t1, t2), some (t3, t4) =>
    let d1 := timeDiff t2 t1
    let d2 := timeDiff t4 t3
    let a := s.objInt (0x2240 + s.obj 0x2200 7) 1 32 * 2 ^ 24
    let delay := (d1 + d2) / 2
    let offset := (d1 - d2 - a) / 2
    let s1 := (s.setSpan 5 (-2 ^ 31) (offset / 2 ^ 24)).setSpan 6 0 (delay / 2 ^ 24)
    let frames : Int := 16 * 2 ^ bits (s.obj 0x2201 5) 0 4
    let st :=
      if s.obj 0x2200 1 = 2 ∧ (1000 * 2 ^ 32 : Int) < offset.natAbs ∧ s.dev ≠ .run then
        { s1.steeple with value := pattern 96 ((s.steeple.value : Int) - offset), adj := 0,
                          pulses := Tbl.mapVals .rest (Pulse.moved (-offset)) s1.steeple.pulses }
      else { s1.steeple with adj := clip (-offset * (s.strokeClock : Int) / frames) }
    { s1 with steeple := st }.judgeOffset offset
  | _, _ => s

/-- The first SYNC and DELAY_RESP pair ends HOLDOVER; the servo runs (R389, R391). -/
def State.servoStep (s : State) : State :=
  match s.steeple.sync, s.steeple.pair with
  | some _, some _ => (if s.obj 0x2200 1 = 4 then s.setObj 0x2200 1 2 else s).servo
  | _, _ => s

/-- A SYNC reaches port `p` at time `ready` (R383, R389): a slave takes its RATE, within the limits of RATE. -/
def State.takeSync (s : State) (p : Nat) (msg : BitVec 112) (ready : Nat) : State :=
  if !s.steepleTakes p 0 msg then s.steepleDiscard p
  else if s.obj 0x2200 7 ≠ p then s
  else
    let s1 := s.setObj 0x2200 3 (pattern 32 (clip (signed 32 (bits msg.toNat 0 32))))
    { s1 with steeple := { s1.steeple with sync := some (bodyTime msg, ready) } }.servoStep

/-- SYNC (R389). -/
def execSync (p : Port) (msg : BitVec 112) (ready : BitVec 64) (s : State) :
    Host.Outcome State Fault Refusal :=
  .next (s.takeSync p.val msg ready.toNat)

/-- A DELAY_REQ reaches port `p` at time `ready` (R387): a master port answers with that time. -/
def State.takeDelayReq (s : State) (p : Nat) (msg : BitVec 112) (ready : Nat) : State :=
  if !s.steepleTakes p 1 msg then s.steepleDiscard p
  else if s.obj (0x2240 + p) 2 ≠ 1 then s
  else s.steepleSend p (steepleMsg 9 (s.obj 0x2201 1) (bits msg.toNat 80 16) (stampBody ready))

/-- DELAY_REQ (R387). -/
def execDelayReq (p : Port) (msg : BitVec 112) (ready : BitVec 64) (s : State) :
    Host.Outcome State Fault Refusal :=
  .next (s.takeDelayReq p.val msg ready.toNat)

/-- A DELAY_RESP reaches port `p` (R386, R389): servo input when SEQID matches the last DELAY_REQ sent. -/
def State.takeDelayResp (s : State) (p : Nat) (msg : BitVec 112) : State :=
  if !s.steepleTakes p 9 msg then s.steepleDiscard p
  else
    match s.steeple.asked with
    | some (n, some t3) =>
      if n = bits msg.toNat 80 16 ∧ s.obj 0x2200 7 = p then
        let s1 := { s with steeple :=
          { s.steeple with pair := some (t3, bodyTime msg), asked := none } }
        if s.obj 0x2200 1 = 4 then s1.servoStep else s1
      else s
    | _ => s

/-- DELAY_RESP (R386, R389). -/
def execDelayResp (p : Port) (msg : BitVec 112) (s : State) : Host.Outcome State Fault Refusal :=
  .next (s.takeDelayResp p.val msg)

/-- The newest ANNOUNCE of port `p`. -/
def State.setAnnounce (s : State) (p : Nat) (a : Option (BitVec 80)) : State :=
  let t := Tbl.set none s.steeple.announces p a
  { s with steeple := { s.steeple with announces := t } }

/-- An ANNOUNCE reaches port `p` (R386, R388). -/
def State.takeAnnounce (s : State) (p : Nat) (msg : BitVec 112) : State :=
  if !s.steepleTakes p 11 msg then s.steepleDiscard p
  else (s.setAnnounce p (some (BitVec.ofNat 80 msg.toNat))).steepleSelect

/-- ANNOUNCE (R388). -/
def execAnnounce (p : Port) (msg : BitVec 112) (s : State) : Host.Outcome State Fault Refusal :=
  .next (s.takeAnnounce p.val msg)

/-- A steeple message reaches port `p` at time `ready` (R386): one of a reserved TYPE is discarded and counted. -/
def State.steepleTake (s : State) (p : Nat) (msg : BitVec 112) (ready : Nat) : State :=
  match msgType msg with
  | 0 => s.takeSync p msg ready
  | 1 => s.takeDelayReq p msg ready
  | 9 => s.takeDelayResp p msg
  | 11 => s.takeAnnounce p msg
  | _ => s.steepleDiscard p

/-- ANNOUNCE_EXPIRY (R388). -/
def execAnnounceExpiry (p : Port) (s : State) : Host.Outcome State Fault Refusal :=
  .next (s.setAnnounce p.val none).steepleSelect

/-- SYNC_TIMEOUT (R391). -/
def execSyncTimeout (s : State) : Host.Outcome State Fault Refusal :=
  .next (if s.obj 0x2200 1 = 2 ∨ s.obj 0x2200 1 = 3 then s.holdover else s)

/-- The steeple as the device leaves STANDBY (R383, R391): its time starts at 0, an armed pulse is due at START again, and
what the capture inputs stamped is kept. -/
def State.steepleStart (s : State) : State :=
  let pulses := (upFrom 0 8).foldl (fun t i =>
    if s.obj (0x2210 + i) 6 % 128 = 1 then Tbl.set .rest t i ⟨s.obj (0x2210 + i) 2, .idle⟩ else t) []
  let s1 := { s with steeple := { SteepleRec.rest with captures := s.steeple.captures, pulses := pulses } }
  ((s1.setObj 0x2200 3 0).setObj 0x2200 1 0).steepleSelect

/-! ## Commit stamps (R394) -/

/-- Stroke 0 of a rota begins: its time is kept until the rota is decided. -/
def State.stampRota (s : State) : State :=
  { s with steeple := { s.steeple with
             starts := (s.rota, s.now) :: s.steeple.starts.filter (fun e => e.1 != s.rota) } }

/-- A CLEAR verdict for rota `k` (R394). -/
def State.stampCommit (s : State) (k : Nat) : State :=
  let t := match s.steeple.starts.find? (fun e => e.1 == k) with
    | some e => e.2
    | none => 0
  let s1 := { s with steeple := { s.steeple with
                starts := s.steeple.starts.filter (fun e => decide (k < e.1)) } }
  (s1.setObj 0x2203 1 k).setObj 0x2203 2 t

/-! ## Pulse outputs (R392) -/

/-- Whether a stroke at time `now` reaches due time `d` ns (R392). -/
def reached (now d : Nat) : Bool := decide (pattern 64 ((now : Int) - d * 2 ^ 32) < 2 ^ 63)

/-- The settings of pulse `i` are in the ranges of R392. -/
def State.pulseRanges (s : State) (i : Nat) : Bool :=
  let period := s.obj (0x2210 + i) 3
  let width := s.obj (0x2210 + i) 4
  decide (20 ≤ period) && decide (period ≤ 2 ^ 31) && decide (2 ≤ width) && decide (width ≤ period - 1)

/-- The record of pulse `i`. -/
def State.pulse (s : State) (i : Nat) : Pulse := Tbl.get .rest s.steeple.pulses i

/-- Replace the record of pulse `i`. -/
def State.setPulse (s : State) (i : Nat) (r : Pulse) : State :=
  { s with steeple := { s.steeple with pulses := Tbl.set .rest s.steeple.pulses i r } }

/-- A write of 0x2210+i.05 (R392). -/
def State.writePulse (s : State) (i v : Nat) : WriteResult :=
  if v = 1 then
    if !s.pulseRanges i then .error abInvalid
    else .ok ((s.setPulse i ⟨s.obj (0x2210 + i) 2, .idle⟩).setObj (0x2210 + i) 6 1)
  else if v = 2 then .ok ((s.setPulse i .rest).setObj (0x2210 + i) 6 0)
  else .error abInvalid

/-- Whether a pulse of output `i` is under way at the present stroke (R392). -/
def State.pulseOn (s : State) (i : Nat) : Bool :=
  match (s.pulse i).span with
  | .idle => false
  | .time a b => decide (a ≤ s.nowValue) && decide (s.nowValue < b)
  | .strokes a b => decide (a ≤ s.count) && decide (s.count < b)

/-- Output `i` is armed (R392): a one-shot disarms only once its pulse has ended. -/
def State.pulseArmed (s : State) (i : Nat) : Bool := s.obj (0x2210 + i) 6 % 128 == 1 || s.pulseOn i

/-- The level that output TPULSE `i` gives its pin (R392): active high unless mode bit [4] is set. -/
def State.pulseLevel (s : State) (i : Nat) : Bool := s.pulseOn i != bitAt (s.obj (0x2210 + i) 1) 4

/-- What stands on land TPULSE `i` (R392, R488, R501). -/
def State.pulsePin (s : State) (i : Nat) : PinDrive := s.landDrive (1024 + i) (.level (s.pulseLevel i))

/-- A pulse of `span` begins at this stroke; the output is due next at `next`, with `status` in 0x2210+i.06. It is late when
an earlier stroke had reached the due time. -/
def State.pulseBegin (s : State) (i next : Nat) (span : PulseSpan) (status : Nat) (late : Bool) : State :=
  let s1 := s.setPulse i ⟨next, span⟩
  let s2 := s1.setObj (0x2210 + i) 6 (status + 128 * b2n (late || bitAt (s.obj (0x2210 + i) 6) 7))
  if late then s2.steepleFlag 2 else s2

/-- A pulse of WIDTH ns that begins at the present stroke. -/
def State.timeSpan (s : State) (i : Nat) : PulseSpan :=
  .time s.nowValue (s.nowValue + s.obj (0x2210 + i) 4 * 2 ^ 32)

/-- A pulse of WIDTH strokes that begins at the present stroke. -/
def State.strokeSpan (s : State) (i : Nat) : PulseSpan := .strokes s.count (s.count + s.obj (0x2210 + i) 4)

/-- PULSE_FIRE (R392): the output is judged at the present stroke; a pulse that began ends after its WIDTH whatever comes
after it. -/
def execPulseFire (i : Fin 8) (s : State) : Host.Outcome State Fault Refusal :=
  let r := s.pulse i.val
  let s1 := if s.pulseOn i.val then s else s.setPulse i.val { r with span := .idle }
  let armed := bits (s.obj (0x2210 + i.val) 6) 0 7 = 1
  let late := decide (s.steepleInc ≤
    (pattern 64 ((s.now : Int) - r.due * 2 ^ 32) : Int) * (s.strokeClock : Int))
  .next (if !armed then s1
    else
      match bits (s.obj (0x2210 + i.val) 1) 0 2 with
      | 1 => if reached s.now r.due then s1.pulseBegin i.val r.due (s.timeSpan i.val) 2 late else s1
      | 2 =>
        if reached s.now r.due then
          s1.pulseBegin i.val ((r.due + s.obj (0x2210 + i.val) 3) % 2 ^ 32) (s.timeSpan i.val) 1 late
        else s1
      | 3 =>
        if s.dev = .run ∧ s.phase = .rota (bits (s.obj (0x2210 + i.val) 2) 0 10) then
          s1.pulseBegin i.val r.due (s.strokeSpan i.val) 1 false
        else s1
      | _ => s1)

/-! ## Capture inputs (R393) -/

/-- The objects of capture input `i` after its FIFO became `q`; `full` stamps were dropped. -/
def State.setCapture (s : State) (i : Nat) (q : List Stamp) (dropped : Nat) : State :=
  let h := match q with
    | [] => Stamp.mk 0 0 0
    | x :: _ => x
  let lost := satAdd 27 (s.obj (0x2220 + i) 6 / 32) dropped
  let s1 := { s with steeple := { s.steeple with captures := Tbl.set [] s.steeple.captures i q } }
  (((s1.setObj (0x2220 + i) 2 h.time).setObj (0x2220 + i) 3 h.count).setObj (0x2220 + i) 4
    h.rota).setObj (0x2220 + i) 6 (q.length + 32 * lost)

/-- The rota record of R393 at the present stroke. -/
def State.rotaRecord (s : State) : Nat :=
  match s.dev, s.phase with
  | .run, .rota t => t + 1024 + 2048 * b2n s.replay + (s.rota % 2 ^ 52) * 4096
  | _, _ => (s.rota % 2 ^ 52) * 4096

/-- An edge is of the kind that the mode of input `i` selects (R393). In STANDBY, and without VSTBY, no block that the
reference clocks works (R430, R440). -/
def State.captures (s : State) (i : Nat) (rising : Bool) : Bool :=
  let mode := s.obj (0x2220 + i) 1
  s.power.vstby && s.obj 0x2100 1 != 4 && (mode == 3 || (mode == 1 && rising) || (mode == 2 && !rising))

/-- An edge that input `i` selects is stamped, unless it follows the last by fewer than 3 strokes (R393); a full FIFO drops
the stamp. -/
def State.captureEdge (s : State) (i : Nat) : State :=
  let prev := Tbl.get 0 s.steeple.edges i
  if prev ≠ 0 ∧ s.strokeIndex + 1 < prev + 3 then s
  else
    let edges := Tbl.set 0 s.steeple.edges i (s.strokeIndex + 1)
    let s1 := { s with steeple := { s.steeple with edges := edges } }
    let q := Tbl.get [] s.steeple.captures i
    if 16 ≤ q.length then s1.setCapture i q 1
    else
      let st : Stamp := ⟨s.valueAt ((s.steeple.sub : Int) - 2) % 2 ^ 64, s.count, s.rotaRecord⟩
      (s1.setCapture i (q ++ [st]) 0).fire (1350 + i) 0

/-- A write of 0x2220+i.05 (R395). -/
def State.writeCapturePop (s : State) (i v : Nat) : WriteResult :=
  if v ≠ 1 then .error abInvalid
  else .ok (s.setCapture i (Tbl.get [] s.steeple.captures i).tail 0)

end Sys2Proof.Machine
end

