-- ==== Sys2Proof/Machine/Franel.lean ====
section
/-!
DEFINITION. Franel ports (R191 to R236): frames and their scrambler, the states of lanes and ports,
control messages, the delivery of G nibbles, lane swaps, and the PRBS test and error injection.
-/

namespace Sys2Proof.Machine

/-! ## Places and states -/

/-- Object index of physical lane `l` of port `p` (R236). -/
def lObj (p l : Nat) : Nat := pObj p + 8 + l

/-- Event source of port `p` (R479). -/
def portSource (p : Nat) : Nat := 1032 + p

/-- Configured mode of port `p` (R226). -/
def State.portMode (s : State) (p : Nat) : Nat := s.obj (pObj p) 1

/-- Port state (R211, Pb.02). -/
def State.portState (s : State) (p : Nat) : Nat := s.obj (pObj p) 2

/-- UP, or SWAPPING, which sends and receives as UP does (R211). -/
def State.portUp (s : State) (p : Nat) : Bool := s.portState p == 3 || s.portState p == 4

/-- Lane state (R210, +.01). -/
def State.laneState (s : State) (p l : Nat) : Nat := s.obj (lObj p l) 1

/-- Logical role of a lane (+.02). -/
def State.laneRole (s : State) (p l : Nat) : Nat := s.obj (lObj p l) 2

/-- Set the state and role of a lane; a lane that is powered has a wander to report (R236). -/
def State.setLane (s : State) (p l st role : Nat) : State :=
  let s1 := (s.setObj (lObj p l) 1 st).setObj (lObj p l) 2 role
  if st = 0 then s1 else s1.setObj (lObj p l) 0xC 1

/-- Active logical lanes (R226). -/
def activeLanes (mode : Nat) : List Nat :=
  if mode = 1 then upFrom 0 8 else if mode = 2 then upFrom 0 7 else []

/-- The physical receive lane that is ALIGNED as logical lane `ln`. -/
def State.rxLane (s : State) (p ln : Nat) : Option Nat :=
  (upFrom 0 8).find? (fun l => s.laneState p l == 4 && s.laneRole p l == ln)

/-- The physical receive lane that is SPARE_ALIGNED and not barred (R230). -/
def State.rxSpare (s : State) (p : Nat) : Option Nat :=
  (upFrom 0 8).find? (fun l => s.laneState p l == 5 && !bitAt (s.obj (pObj p) 0xC) l)

/-- Absent lanes as a number. -/
def absentCount (b : BitVec 8) : Nat := ((upFrom 0 8).filter (fun l => b.getLsbD l)).length

/-- The mode of port `p` is not off, and its equalisation slot lets it run (R206, R209). -/
def State.portWired (s : State) (p : Nat) : Bool :=
  let r := s.port p
  match s.portMode p with
  | 1 => r.absent == 0
  | 2 => decide (absentCount r.absent ≤ 1)
  | _ => false

/-- Mode, domain and slot let the port train (R209, R211). -/
def State.portMayRun (s : State) (p : Nat) : Bool :=
  s.granted (1064 + p) && !(s.port p).takenDown && s.portWired p

/-- The checker and the generator of a lane start afresh (R232). -/
def State.freshPrbs (s : State) (p l : Nat) : State :=
  let r := s.port p
  s.setPort p { r with checkers := Tbl.del l r.checkers,
                       out := { r.out with generators := Tbl.del l r.out.generators, prbs := Tbl.del l r.out.prbs } }

/-- Put a lane in state `next` without a role. As it enters PRBS its checker seeks and its generator starts from
all ones; outside PRBS the checker is off (R232, R236). -/
def State.restLane (s : State) (p l next : Nat) : State :=
  let s1 := s.setLane p l next 0xFF
  if next = 7 ∧ s.laneState p l = 7 then s1
  else (s1.setObj (lObj p l) 4 (if next = 7 then 1 else 0)).freshPrbs p l

/-- The state in which lane `l` starts (R210, R232, R233): OFF where its port is not powered, which takes a mode that is not
off and lanes that let the port run (R209, R436), or the lane is absent; else PRBS under a test mode and CDR without one. -/
def State.laneRest (s : State) (p l mode : Nat) : Nat :=
  if !s.granted (1064 + p) ∨ !s.portWired p ∨ (s.port p).absent.getLsbD l then 0
  else if mode = 0 then 1 else 7

/-- Lanes that may run and are OFF start to acquire, or their test mode; those that may not run go OFF (R210). -/
def State.startLanes (s : State) (p : Nat) : State :=
  (upFrom 0 8).foldl (fun st l =>
    let next := st.laneRest p l (st.obj (lObj p l) 3)
    if next = 0 ∨ st.laneState p l = 0 then st.restLane p l next else st) s

/-- A port without a lane that is SPARE_ALIGNED reports so (Pb.06). -/
def State.noSpare (s : State) (p : Nat) : State :=
  if s.obj (pObj p) 6 = 1 ∧ !(upFrom 0 8).any (fun l => s.laneState p l == 5) then s.setObj (pObj p) 6 2 else s

/-- Enter TRAINING (R211). -/
def State.portTrain (s : State) (p : Nat) : State :=
  let r := s.port p
  let r1 := { r with rxUp := false, lost := [], swap := none, frames := [], goodSpare := 0 }
  let s1 := s.setPort p { r1 with out := { r.out with swap := none } }
  (((s1.setObj (pObj p) 0xA 0).startLanes p).noSpare p).setPortState p 1

/-- The port is OFF (R211): it sends nothing. Its receive lanes go on as R210 lets them. -/
def State.portOff (s : State) (p : Nat) : State :=
  let r := s.port p
  let out := { r.out with swap := none, frames := [], prbs := [], groups := [], started := false }
  let r1 := { r with rxUp := false, lost := [], swap := none, frames := [], goodSpare := 0 }
  let s1 := s.setPort p { r1 with partner := ⟨false, 0, false⟩, out := out }
  (((s1.setObj (pObj p) 0xA 0).startLanes p).noSpare p).setPortState p 0

/-! ## Equalisation (R206 to R209) -/

/-- An invalid entry (R208). -/
def eqInvalid (e : Nat) : Bool :=
  decide (63 < bits e 0 6 + bits e 6 4 + bits e 10 5) || bits e 48 16 != 0

/-- The transmit lane map of a port with absent lanes (R209): a role of an absent lane goes to the
spare. -/
def txMapFor (mode : Nat) (absent : BitVec 8) : BitVec 32 :=
  if mode = 2 then
    match (upFrom 0 7).find? (fun l => absent.getLsbD l) with
    | some l => BitVec.ofNat 32 (putBits (putBits 0xFAC688 (3 * l) 3 7) 21 3 l)
    | none => if absent.getLsbD 7 then 0x00FAC688 else 0x01FAC688
  else 0x01FAC688

/-- The undercoat gives port `p` its mode and the entries of the selected slot; `valid` says whether the
slot is marked valid (R206 to R209, R226). Barred lanes stay barred (R230), the test mode of a lane and its error injection
go on (R232, R234), and a lane that is SPARE_ALIGNED serves as it did. -/
def State.portConfigure (s : State) (p mode : Nat) (valid : Bool) (entry : Nat → Nat) : State :=
  let s1 := (upFrom 0 8).foldl (fun st l => st.setObj (lObj p l) 0xD (entry l)) (s.setObj (pObj p) 1 mode)
  let absent : BitVec 8 := (upFrom 0 8).foldl (fun b l =>
    setBit b l (!valid || eqInvalid (entry l) || bitAt (entry l) 47)) 0
  let bad := !valid || (upFrom 0 8).any (fun l => eqInvalid (entry l))
  let r := s1.port p
  let map := txMapFor mode absent
  let o := r.out
  let out := { PortTx.blank with
    map := map, generators := o.generators, prbs := o.prbs, invertNow := o.invertNow, invertNext := o.invertNext
    invertPrbs := o.invertPrbs, periodic := o.periodic }
  let s2 := s1.setPort p { r with absent := absent, takenDown := false, out := out }
  let s3 := s2.setObj (pObj p) 5 map.toNat
  let spare := if absent ≠ 0 then 3 else if (s1.rxSpare p).isSome then 1 else 2
  let s4 := s3.setObj (pObj p) 6 (if mode = 2 then spare else 0)
  if bad then s4.fire (portSource p) 5 else s4

/-- The record in force for an area of the store (R405). -/
def State.forceOf (s : State) (a : Nat) : Option Force := (s.store.force.find? (fun e => e.1 == a)).map (·.2)

/-- Bytes of the payload of a record in force, little-endian; the header takes 64 bytes (R398). -/
def Force.field (f : Force) (off n : Nat) : Nat := leNat ((f.image.drop (64 + off)).take n)

/-- Port `p` takes its mode and its entries from the records in force, under the sampled straps (R206,
R207, R226). With no table set no slot is marked invalid, and every entry is 0 (R400). -/
def State.portRecord (s : State) (p : Nat) : State :=
  let slot := s.power.brdid
  let mode := match s.forceOf 4 with
    | some f => f.field p 1
    | none => 0
  let valid := match s.forceOf 2 with
    | some f => bitAt (f.field 0 2) slot
    | none => true
  let entry := fun l : Nat => match s.forceOf 2 with
    | some f => f.field (0x10 + slot * 0x800 + (8 * p + l) * 8) 8
    | none => 0
  let s1 := s.portConfigure p mode valid entry
  { s1 with store := { s1.store with reload := s1.store.reload.filter (fun x => x != p) } }

/-- A port that leaves OFF takes a record that was applied meanwhile (R405). -/
def State.portReload (s : State) (p : Nat) : State :=
  if s.portState p = 0 ∧ s.store.reload.contains p ∧ s.granted (1064 + p) ∧ !(s.port p).takenDown then
    s.portRecord p
  else s

/-- A port that is OFF trains as soon as mode, domain and slot allow it, and one that they no longer
allow goes OFF (R211). -/
def State.portCheck (s0 : State) (p : Nat) : State :=
  let s := s0.portReload p
  if s.portMayRun p then (if s.portState p = 0 then s.portTrain p else s)
  else if s.portState p = 0 ∧ s.granted (1064 + p) then s.startLanes p else s.portOff p

/-- The equalisation entry of lane `l` inverts what it sends (`b` 18) or receives (`b` 19) (R208). -/
def State.laneInverts (s : State) (p l b : Nat) : Bool := bitAt (s.obj (lObj p l) 0xD) b

/-! ## Lane frames (R194 to R200) -/

/-- A bit string as a number, first bit lowest. -/
def natOfBits : List Bool → Nat
  | [] => 0
  | b :: t => b2n b + 2 * natOfBits t

/-- The keystream of R199 from state `s`, first bit first. -/
def keyBits : Nat → Nat → List Bool
  | 0, _ => []
  | n + 1, s =>
    let k := xor (s.testBit 30) (s.testBit 27)
    k :: keyBits n ((s * 2 + b2n k) % 2 ^ 31)

/-- The keystream over frame bits 8 to 311, at those bits (R199). -/
def keystream (ln seq : Nat) : Nat :=
  natOfBits (keyBits 304 (0x2D5A5A00 ||| (ln <<< 4) ||| seq)) <<< 8

/-- A field of frame bits sent most significant bit first (R195). -/
def frameField (x lo w : Nat) : Nat := reflect w (bits x lo w)

/-- Frame bits from the 320 UI (R194): the scrim bits are taken out. -/
def stripScrim (ui : Nat) : Nat → Nat
  | 0 => 0
  | n + 1 => stripScrim ui n + (bits ui (40 * n) 39) <<< (39 * n)

/-- The 320 UI of frame bits (R194): each block gets its scrim bit. -/
def addScrim (x : Nat) : Nat → Nat
  | 0 => 0
  | n + 1 =>
    let b := bits x (39 * n) 39
    addScrim x n + (b + (1 - b / 2 ^ 38) * 2 ^ 39) <<< (40 * n)

/-- Blocks whose scrim bit breaks R194. -/
def scrimBreaks (ui : Nat) : Nat :=
  ((upFrom 0 8).filter (fun n => bitAt ui (40 * n + 39) == bitAt ui (40 * n + 38))).length

/-- CRC of frame bits 0 to 295 (R198). -/
def frameCrc (x : Nat) : Nat := crcBits 16 0x1021 0xFFFF (lsbFirst 296 x)

/-- A lane frame as the receiver reads it (R195 to R197). -/
structure LaneView where
  type : Nat
  tag : Nat
  ctype : Nat
  cdata : Nat
  groups : Nat
  crcOk : Bool
  deriving DecidableEq, Repr

/-- Read the 320 UI of a frame of logical lane `ln` (R199). -/
def viewFrame (ln : Nat) (ui : Nat) : LaneView :=
  let raw := stripScrim ui 8
  let x := raw ^^^ keystream ln (frameField raw 4 4)
  ⟨frameField x 0 4, frameField x 8 12, frameField x 20 4, frameField x 24 16, bits x 40 256,
    frameField x 296 16 == frameCrc x⟩

/-- Group nibbles of group `f` of a lane frame, nibble `j` at `[4j+3:4j]`. -/
def laneGroup (groups f : Nat) : Nat :=
  (upFrom 0 4).foldl (fun n j => n + (frameField groups (16 * f + 4 * j) 4) <<< (4 * j)) 0

/-- Reserved TYPE codes (R196). -/
def typeReserved (t : Nat) : Bool := t != 3 && t != 5 && t != 10 && t != 12

/-- A frame that fails (R224). -/
def LaneView.fails (v : LaneView) : Bool := !v.crcOk || typeReserved v.type

/-- The 320 UI of a lane frame (R194 to R201). -/
def buildFrame (ln type tag ctype cdata groups : Nat) : BitVec 320 :=
  let seq := tag % 16
  let head := reflect 8 (type * 16 + seq)
  let cf := reflect 32 (tag <<< 20 + ctype <<< 16 + cdata)
  let body := head + cf <<< 8 + groups <<< 40
  let x := (body + (reflect 16 (frameCrc body)) <<< 296) ^^^ keystream ln seq
  BitVec.ofNat 320 (addScrim x 8)

/-! ## Receiving frames (R224, R225, R205) -/

/-- TYPEs that make a port frame good in the present port state (R211). -/
def State.typeExpected (s : State) (p t : Nat) : Bool :=
  if s.portUp p then t == 5 || t == 10 || (t == 3 && (s.port p).partner.rxUp)
  else t == 3 || t == 5 || t == 10

/-- The frame of physical lane `l` among those received, its polarity as the equalisation entry sets it (R208). -/
def State.laneUi (s : State) (p : Nat) (frames : List LaneFrame) (l : Nat) : Option Nat :=
  match frames.find? (fun f => f.lane.val == l) with
  | some f => some (if s.laneInverts p l 19 then ~~~f.ui else f.ui).toNat
  | none => none

/-- The frame of logical lane `ln`, when its lane is ALIGNED. -/
def State.viewLane (s : State) (p : Nat) (frames : List LaneFrame) (ln : Nat) : Option LaneView :=
  match s.rxLane p ln with
  | some l =>
    match s.laneUi p frames l with
    | some ui => some (viewFrame ln ui)
    | none => none
  | none => none

/-- Blocks in a row that break R194 after each block of a frame, `run` of them before it. -/
def scrimRuns (ui run : Nat) : List Nat :=
  (upFrom 0 8).foldl (fun rs n =>
    (if bitAt ui (40 * n + 39) == bitAt ui (40 * n + 38) then rs.headD run + 1 else 0) :: rs) []

/-- R227: the history of a physical lane takes a frame. A run that reached 8 in it stays at 8. -/
def State.noteHistory (s : State) (p l ui : Nat) (fails : Bool) : State :=
  let r := s.port p
  let runs := scrimRuns ui (Tbl.get 0 r.scrimRun l)
  let run := if runs.any (fun n => decide (8 ≤ n)) then 8 else runs.headD 0
  s.setPort p { r with scrimRun := Tbl.set 0 r.scrimRun l run,
                       failed := Tbl.set [] r.failed l ((fails :: Tbl.get [] r.failed l).take 256) }

/-- R227: 8 blocks in a row broke R194, or 8 of the last 256 frames failed. -/
def State.historyLost (s : State) (p l : Nat) : Bool :=
  let r := s.port p
  decide (8 ≤ Tbl.get 0 r.scrimRun l) || decide (8 ≤ ((Tbl.get [] r.failed l).filter (fun x => x)).length)

/-- R224 for one physical lane that is ALIGNED or SPARE_ALIGNED: scrim violations, CRC errors and reserved codes;
and the good SPARE frames of R230. A TYPE is judged as a reserved code (R196) where the CRC is good (DESIGN CHOICE, assumption
log 108). -/
def State.countLane (s : State) (p : Nat) (frames : List LaneFrame) (l : Nat) : State :=
  if s.laneState p l ≠ 4 ∧ s.laneState p l ≠ 5 then s
  else
    match s.laneUi p frames l with
    | none => s
    | some ui =>
      let v := viewFrame (if s.laneState p l = 5 then 7 else s.laneRole p l) ui
      let s1 := (s.bump (lObj p l) 0xB (scrimBreaks ui)).noteHistory p l ui v.fails
      let s2 := if v.fails then
          ((s1.bump (lObj p l) 0xA).bump (pObj p + 2) 2).fire (portSource p) 0 else s1
      let s3 := if v.crcOk && typeReserved v.type then s2.bump (pObj p + 2) 4 else s2
      if s.laneState p l = 5 ∧ v.crcOk ∧ v.type = 12 then
        let r := s3.port p
        s3.setPort p { r with goodSpare := r.goodSpare + 1 }
      else s3

/-- The TAG of the port frame: that of a good active lane, else the one after the last. -/
def frameTag (vs : List (Option LaneView)) (last : Nat) : Nat :=
  match vs.find? (fun v => match v with | some x => !x.fails | none => false) with
  | some (some x) => x.tag
  | _ => (last + 1) % 4096

/-- The port frame is good (R211). -/
def State.portFrameGood (s : State) (p : Nat) (vs : List (Option LaneView)) (tag : Nat) : Bool :=
  vs.all (fun v => match v with
    | some x => x.crcOk && s.typeExpected p x.type && x.tag == tag
    | none => false)

/-- The 128 nibble bits of group `f` (R196, R215, R225): a lane that is lost, or whose frame is of another TYPE than
DATA, gives 0. -/
def heldGroup (vs : List (Option LaneView)) (f : Nat) : BitVec 128 :=
  BitVec.ofNat 128 ((upFrom 0 vs.length).foldl (fun n ln =>
    match getAt none vs ln with
    | some x => if x.type != 10 then n else n + (laneGroup x.groups f) <<< (16 * ln)
    | none => n) 0)

/-- Groups of the frame are still to be delivered: its last group's delivery stroke has not passed. -/
def State.frameInTime (s : State) (p tag : Nat) : Bool :=
  let passed := pattern 16 ((s.count : Int) - s.obj (pObj p + 1) 1 - 16 * tag)
  decide (passed < 16) || decide (2 ^ 15 ≤ passed)

/-- Hold the groups of a frame for delivery (R218). -/
def State.holdFrame (s : State) (p tag : Nat) (vs : List (Option LaneView)) (ready : Nat) : State :=
  let r := s.port p
  let failed := vs.any (fun v => match v with | some x => x.fails | none => false)
  let lane0 := match getAt none vs 0 with
    | some x => x.fails
    | none => true
  let other := (vs.filter (fun v => match v with
    | some x => x.crcOk && (x.type == 3 || x.type == 5 || x.type == 12)
    | none => false)).length
  let h : HeldFrame := ⟨(upFrom 0 16).map (heldGroup vs), ready, failed, lane0, other, false, false⟩
  s.setPort p { r with frames := Tbl.put tag h r.frames }

/-! ## Delivery (R217 to R221, R225) -/

/-- A foul of port `p`, counted once for each rota (Pb+0x2.03). -/
def State.portFoul (s : State) (p : Nat) : State :=
  let r := s.port p
  if r.fouledExec = some s.requestExec then s.foul
  else ((s.setPort p { r with fouledExec := some s.requestExec }).bump (pObj p + 2) 3).foul

/-- The frame and group that the port delivers at the present count (R218): sent at count N − P. -/
def State.dueGroup (s : State) (p : Nat) : Nat × Nat :=
  let n := pattern 16 ((s.count : Int) - s.obj (pObj p + 1) 1)
  (n / 16, n % 16)

/-- The slack of a delivered group is kept when it is the lowest (R221). -/
def State.noteSlack (s : State) (p : Nat) (slack : Int) : State :=
  let z := if 0x7FFE < slack then 0x7FFE else if slack < -0x8000 then -0x8000 else slack
  if z < s.objInt (pObj p + 1) 4 16 then s.setObj (pObj p + 1) 4 (pattern 16 z) else s

/-- R221: a late group. -/
def State.lateGroup (s : State) (p : Nat) : State :=
  ((s.bump (pObj p + 1) 5).fire (portSource p) 4).portFoul p

/-- What the held frame of tag `tag` costs at the stroke that delivers a group of it (R224, R225). -/
def State.frameFouls (s : State) (p tag : Nat) (h : HeldFrame) : State :=
  let s1 := if h.notData ≠ 0 ∧ !h.reported then s.bump (pObj p + 2) 4 h.notData else s
  let foul := !h.fouled && (h.failed || h.notData != 0)
  let s2 := if foul then s1.portFoul p else s1
  let r := s2.port p
  let h1 := { h with reported := true, fouled := h.fouled || foul }
  s2.setPort p { r with frames := Tbl.put tag h1 r.frames }

/-- The receive entry of stroke `t` (R216). -/
def State.rxEntry (s : State) (p t : Nat) : Nat :=
  (Tbl.get 0 (s.port p).rx (s.bankNow * 1024 + t)).toNat % 16

/-- R217, R218, R219, R221: what port `p` delivers at stroke `t`. The group that the sender took at stroke
`t` − P of the rota is delivered whether its receive entry marks a quad or not; a quad that it does not mark is
delivered as absent. -/
def State.portDeliver (s : State) (t p : Nat) : State :=
  let entry := s.rxEntry p t
  let (tag, f) := s.dueGroup p
  let present := BitVec.ofNat 4 entry
  let zero : GFlit := ⟨present, 0, 0⟩
  let give := fun (st : State) (g : GFlit) => st.setPort p { st.port p with delivered := g }
  if s.obj (pObj p + 1) 1 = 0 ∨ !s.portUp p then give s zero
  else
    match (s.port p).frames.find? (fun e => e.1 == tag) with
    | none => if entry = 0 ∧ t < s.obj (pObj p + 1) 1 then give s zero else give (s.lateGroup p) zero
    | some (_, h) =>
      let s1 := if s.obj (pObj p + 1) 1 ≤ t then s.frameFouls p tag h else s
      if entry = 0 ∧ t < s.obj (pObj p + 1) 1 then give s1 zero
      else if s.count < h.ready + f then
        give ((s1.lateGroup p).noteSlack p ((s.count : Int) - (h.ready + f))) zero
      else
        let raw := getAt 0 h.groups f
        let g := [0, 1, 2, 3].foldl (fun fl q =>
          if bitAt entry q then fl.setQuad q (true, 0, bits raw.toNat (32 * q) 32) else fl) .none
        give (s1.noteSlack p ((s.count : Int) - (h.ready + f))) g

/-- A rota whose tables use a port that cannot serve rings foul (R225). -/
def State.portTablesFoul (s : State) (p : Nat) : State :=
  let r := s.port p
  let lo := s.bankNow * 1024
  let rx := (Tbl.slice lo (lo + 1024) r.rx).any (fun e => e.2.toNat % 16 != 0)
  let tx := (Tbl.slice lo (lo + 1024) r.tx).any (fun e => namesSource e.2)
  if (rx && (!s.portUp p || r.lost != [])) || (tx && !s.portUp p) then s.portFoul p else s

/-- Frames whose last group has been due are dropped. -/
def State.portDropFrames (s : State) (p : Nat) : State :=
  let (tag, f) := s.dueGroup p
  let r := s.port p
  if f = 15 ∧ r.frames ≠ [] then s.setPort p { r with frames := Tbl.del tag r.frames } else s

/-! ## Sending (R196, R200 to R205, R215, R216) -/

/-- The group that port `p` takes at stroke `t` (R215, R216): its transmit entry over what the router
and the other ports of its hamlet (R27) gave at stroke `t` − 1, and a bell message. -/
def State.portTake (s : State) (t p : Nat) : BitVec 128 :=
  let r := s.port p
  let entry := Tbl.get routeNone r.tx (s.bankNow * 1024 + t)
  let f := buildFlit entry (fun i =>
    if i = 0 then r.att else if i ≤ 4 then (s.port (p / 4 * 4 + (i - 1))).delivered else GFlit.none)
  let g := [0, 1, 2, 3].foldl (fun n q => n + (if (f.quad q).1 then (f.quad q).2.2 else 0) <<< (32 * q)) 0
  match s.bell.tx.find? (fun e => e.1 == p) with
  | some (_, b) => BitVec.ofNat 128 (putBits g 0 32 b.toNat)
  | none => BitVec.ofNat 128 g

/-- The LINK_STATUS that describes port `p` now (R203). -/
def State.linkStatusMsg (s : State) (p : Nat) : BitVec 112 :=
  let r := s.port p
  let (req, ln) := match r.swap with
    | some w => (1, w.lane)
    | none => (0, 0)
  BitVec.ofNat 112 (s.ident <<< 64 + p <<< 59 + s.portMode p <<< 57 + b2n r.rxUp <<< 56 + req <<< 55 +
    ln <<< 52 + s.obj (pObj p + 1) 2 <<< 44)

/-- The PACE_PROBE of a frame that starts now (R204). -/
def State.paceProbeMsg (s : State) : BitVec 112 := BitVec.ofNat 112 (s.now <<< 48)

/-- The receiver sends the SWAP_REQ of its swap for the first time (R229). -/
def State.noteAsked (s : State) (p : Nat) : State :=
  match (s.port p).swap with
  | some w => if w.asked.isSome then s else s.setPort p { s.port p with swap := some { w with asked := some s.count } }
  | none => s

/-- R205: the message of the frame that starts at this stroke. Every 16th of all frames sent may carry a PACE_PROBE; one whose
turn rules 1 or 2 take is skipped (DESIGN CHOICE, assumption log 108). -/
def State.pickMessage (s : State) (p : Nat) : State :=
  let r := s.port p
  let st := s.linkStatusMsg p
  let set := fun (x : State) (c : Nat) (m : BitVec 112) (since : Nat) =>
    let o := (x.port p).out
    x.setPort p { x.port p with out :=
      { o with ctype := c, msg := m, since := since, sent := o.sent + 1,
               status := if c = 1 then m else o.status } }
  if st ≠ r.out.status ∨ r.swap.isSome then set (s.noteAsked p) 1 st 0
  else
    match s.steepleReady p with
    | m :: rest =>
      let (s1, m1) := s.steepleLeave m
      let o := (s1.port p).out
      set (s1.setPort p { s1.port p with out := { o with steeple := rest } }) 3 m1 (r.out.since + 1)
    | [] =>
      let r := { r with out := { r.out with steeple := [] } }
      if r.out.sent % 16 = 0 ∧ (s.portState p = 2 ∨ r.measuring ≠ 0) then
        set (s.setPort p r) 2 s.paceProbeMsg (r.out.since + 1)
      else if 64 ≤ r.out.since then set (s.setPort p r) 1 st 0
      else set (s.setPort p r) 0 0 (r.out.since + 1)

/-- A frame starts (R200): a port that has counted its frames and has seen the partner's RX_UP is UP from it (R213);
its message is picked and the bits to invert move up. -/
def State.frameStart (s : State) (p : Nat) : State :=
  let up := s.portState p = 2 ∧ (s.port p).rxUp ∧ (s.port p).partner.rxUp
  let s2 := if up then s.setPortState p 3 else s
  let s1 := s2.pickMessage p
  let o := (s1.port p).out
  let step := fun (n : Nat) => if 320 < n then n - 320 else n
  s1.setPort p { s1.port p with out :=
    { o with groups := [], started := true, up := s2.portUp p, data := false, invertNow := o.invertNext, invertNext := [],
             periodic := o.periodic.map (fun e =>
               (e.1, if s.obj (lObj p e.1) 3 = 0 then step e.2 else e.2)) } }

/-- The logical lane that physical transmit lane `l` carries, or `none` for the spare. -/
def txRole (mode : Nat) (map : BitVec 32) (l : Nat) : Option Nat :=
  (activeLanes mode).find? (fun ln => bits map.toNat (3 * ln) 3 == l)

/-- The 256 group bits of a logical lane's frame (R195, R215). -/
def laneGroups (groups : Tbl (BitVec 128)) (ln : Nat) : Nat :=
  (upFrom 0 16).foldl (fun n f =>
    let g := bits (Tbl.get 0 groups f).toNat (16 * ln) 16
    n + ((upFrom 0 4).foldl (fun m j => m + (reflect 4 (bits g (4 * j) 4)) <<< (4 * j)) 0) <<< (16 * f)) 0

/-- The frame that physical lane `l` has sent, injected errors and inverted polarity included (R192, R196, R201,
R208, R234). -/
def State.laneFrameOut (s : State) (p tag l : Nat) : BitVec 320 :=
  let o := (s.port p).out
  let ui := match txRole (s.portMode p) o.map l with
    | some ln =>
      let type := if !o.up then 3 else if o.data then 10 else 5
      buildFrame ln type tag (if ln = 0 then o.ctype else 0)
        (if ln < 7 then bits o.msg.toNat (16 * ln) 16 else 0) (laneGroups o.groups ln)
    | none => buildFrame 7 12 tag 0 0 0
  let sent := ui ^^^ Tbl.get 0 o.invertNow l
  if s.laneInverts p l 18 then ~~~sent else sent

/-- A frame that was started ends: the UI of each lane that is framed and present. -/
def State.frameEnd (s : State) (p : Nat) : State :=
  let r := s.port p
  let tag := s.count / 16 % 4096
  let ls := (upFrom 0 8).filter (fun l => !r.absent.getLsbD l && s.obj (lObj p l) 3 == 0)
  let fs := ls.map (fun l => (l, s.laneFrameOut p tag l))
  s.setPort p { r with out := { r.out with frames := if r.out.started then fs else [] } }

/-- Degree and second tap of a PRBS mode (R232). -/
def prbsTaps (mode : Nat) : Nat × Nat :=
  match mode with
  | 1 => (7, 6)
  | 2 => (15, 14)
  | 3 => (23, 18)
  | _ => (31, 28)

/-- One bit of a PRBS generator (R232): the new register and the bit. -/
def prbsStep (mode reg : Nat) : Nat × Bool :=
  let (n, m) := prbsTaps mode
  let b := xor (reg.testBit (n - 1)) (reg.testBit (m - 1))
  ((reg * 2 + b2n b) % 2 ^ n, b)

/-- `k` bits of a generator, first bit lowest. -/
def prbsRun (mode : Nat) : Nat → Nat → Nat × List Bool
  | 0, reg => (reg, [])
  | k + 1, reg =>
    let (r1, b) := prbsStep mode reg
    let (r2, bs) := prbsRun mode k r1
    (r2, b :: bs)

/-- The 20 bits that a lane in a PRBS mode sends in a stroke (R192, R208, R232, R234). -/
def State.lanePrbs (s : State) (p l : Nat) : State :=
  let mode := s.obj (lObj p l) 3
  if mode = 0 ∨ s.laneState p l ≠ 7 then s
  else
    let r := s.port p
    let o := r.out
    let (reg, bs) := prbsRun mode 20 (Tbl.get (2 ^ (prbsTaps mode).1 - 1) o.generators l)
    let made := BitVec.ofNat 20 (natOfBits bs) ^^^ Tbl.get 0 o.invertPrbs l
    let v := if s.laneInverts p l 18 then ~~~made else made
    let left := Tbl.get 0 o.periodic l
    let out := { o with generators := Tbl.put l reg o.generators, prbs := Tbl.set 0 o.prbs l v,
                        invertPrbs := Tbl.del l o.invertPrbs,
                        periodic := if 20 < left then Tbl.set 0 o.periodic l (left - 20) else o.periodic }
    s.setPort p { r with out := out }

/-- The transmit side of port `p` at the present stroke; `rota` is its rota stroke, if it is one. It gives its lands
nothing while the test port controls them (R501). -/
def State.portSend (s : State) (rota : Option Nat) (p : Nat) : State :=
  if s.landControl true ≠ .own then s
  else if s.portState p = 0 then (upFrom 0 8).foldl (fun st l => st.lanePrbs p l) s
  else
    let s1 := if s.count % 16 = 0 then s.frameStart p else s
    let r := s1.port p
    let s2 := match rota with
      | some t =>
        let gs := Tbl.set 0 r.out.groups (s.count % 16) (s.portTake t p)
        s1.setPort p { r with out := { r.out with groups := gs, data := true } }
      | none => s1
    let s3 := (upFrom 0 8).foldl (fun st l => st.lanePrbs p l) s2
    if s.count % 16 = 15 then s3.frameEnd p else s3

/-! ## Bring-up (R210 to R214) -/

/-- LANE_CDR_LOCK (R210). -/
def execLaneCdrLock (p : Port) (l : Lane) (s : State) : Host.Outcome State Fault Refusal :=
  .next (if s.laneState p.val l.val = 1 then s.setLane p.val l.val 2 0xFF else s)

/-- LANE_BLOCK_LOCK (R210). -/
def execLaneBlockLock (p : Port) (l : Lane) (ok : Bool) (s : State) : Host.Outcome State Fault Refusal :=
  .next (if s.laneState p.val l.val = 2 then s.setLane p.val l.val (if ok then 3 else 1) 0xFF else s)

/-- The history of a lane begins as it aligns (R227). -/
def State.freshHistory (s : State) (p l : Nat) : State :=
  let r := s.port p
  s.setPort p { r with scrimRun := Tbl.del l r.scrimRun, failed := Tbl.del l r.failed }

/-- LANE_FRAME_ALIGN (R210): the lane takes the logical lane that it found. -/
def execLaneFrameAlign (p : Port) (l : Lane) (ok : Bool) (ln : Lane) (spare : Bool) (s : State) :
    Host.Outcome State Fault Refusal :=
  let n := p.val
  .next (if s.laneState n l.val ≠ 3 then s
    else if !ok then s.setLane n l.val 2 0xFF
    else if spare then
      let s1 := (s.setLane n l.val 5 8).freshHistory n l.val
      let s2 := s1.setPort n { s1.port n with goodSpare := 0 }
      if s.obj (pObj n) 6 = 2 ∧ !bitAt (s.obj (pObj n) 0xC) l.val then s2.setObj (pObj n) 6 1 else s2
    else (s.setLane n l.val 4 ln.val).freshHistory n l.val)

/-- Lane map of the receive side from the roles of its lanes (Pb.05). -/
def State.rxMap (s : State) (p : Nat) : Nat :=
  let base := (activeLanes (s.portMode p)).foldl (fun m ln =>
    match s.rxLane p ln with
    | some l => putBits m (3 * ln) 3 l
    | none => m) (s.obj (pObj p) 5 % 2 ^ 24)
  if s.portMode p = 2 then
    match (upFrom 0 8).find? (fun l => !(s.port p).absent.getLsbD l &&
        (activeLanes 2).all (fun ln => s.rxLane p ln != some l)) with
    | some l => putBits base 21 3 l + 2 ^ 24
    | none => base
  else base + 2 ^ 24

/-- PORT_TRAINED (R211, R212). The skew object holds 255 for a skew above it (DESIGN CHOICE, assumption log 108). -/
def execPortTrained (p : Port) (skew : Nat) (s : State) : Host.Outcome State Fault Refusal :=
  let n := p.val
  let ready := (activeLanes (s.portMode n)).all (fun ln =>
    ((upFrom 0 8).filter (fun l => s.laneState n l == 4 && s.laneRole n l == ln)).length == 1)
  let r := s.port n
  .next (if s.portState n ≠ 1 ∨ !ready then s
    else
      let s1 := s.setObj (pObj n + 2) 7 (min skew 255)
      if 8 < skew then s1.fire (portSource n) 3
      else if !r.partner.seen ∨ r.partner.mode ≠ s.portMode n then s1
      else
        let s2 := (s1.setObj (pObj n) 0xA 0).setObj (pObj n) 5 (s1.rxMap n)
        (s2.setPort n { r with worst := none }).setPortState n 2)

/-- GOOD_FRAME_COUNT (R213). -/
def execGoodFrameCount (p : Port) (s : State) : Host.Outcome State Fault Refusal :=
  let n := p.val
  .next (if s.portState n = 2 ∧ 1024 ≤ s.obj (pObj n) 0xA then
      s.setPort n { s.port n with rxUp := true }
    else s)

/-- Frame N of a lane swap whose fallow or request count is W (R228). -/
def swapFrameOf (w : Nat) : Nat := ((w + 144 + 15) / 16) % 4096

/-- The sender takes a SWAP_REQ (R228): in device state RUN frame N comes from the lane-swap fallow, and
a request that comes later than 8 strokes before it is carried out at N + 16. -/
def State.takeSwapReq (s : State) (p ln : Nat) : State :=
  let r := s.port p
  let frame :=
    if s.dev ≠ .run then some (swapFrameOf s.count)
    else
      match s.bell.swapW with
      | some w =>
        let n := swapFrameOf w
        some (if pattern 16 ((16 * n : Int) - s.count) < 2 ^ 15 ∧
            8 ≤ pattern 16 ((16 * n : Int) - s.count) then n else (n + 16) % 4096)
      | none => none
  let arm := s.setPort p { r with out := { r.out with swap := some (.of ln frame) } }
  match r.out.swap with
  | some w => if !w.done ∧ w.frame.isNone ∧ s.dev ≠ .run then arm else s
  | none => arm

/-- The swap request of the partner is over. -/
def State.endSwapReq (s : State) (p : Nat) : State :=
  let r := s.port p
  match r.out.swap with
  | some w => if w.done then s.setPort p { r with out := { r.out with swap := none } } else s
  | none => s

/-- A LINK_STATUS reaches port `n` (R203, R211, R213); one that shows RX_UP lets a port that has counted its frames
be UP from its next frame (`State.frameStart`). -/
def State.takeLinkStatus (s : State) (n : Nat) (msg : BitVec 112) : State :=
  let m := msg.toNat
  let mode := bits m 57 2
  let req := bitAt m 55
  if s.portState n = 0 then s
  else if mode = 0 ∨ mode = 3 ∨ (req ∧ bits m 52 3 = 7) then s.bump (pObj n + 2) 4
  else
    let s1 := ((s.setObj (pObj n) 7 (bits m 64 48 + bits m 59 5 <<< 48)).setObj (pObj n) 8 (bits m 44 8))
    let s2 := s1.setPort n { s1.port n with partner := ⟨true, mode, bitAt m 56⟩ }
    let s3 := if req then s2.takeSwapReq n (bits m 52 3) else s2.endSwapReq n
    if s.portState n = 3 ∧ mode ≠ s.portMode n then s3.portTrain n else s3

/-- LINK_STATUS (R203, R211, R213). -/
def execLinkStatus (p : Port) (msg : BitVec 112) (s : State) : Host.Outcome State Fault Refusal :=
  .next (s.takeLinkStatus p.val msg)

/-- PACE_PROBE (R214): the pace that this frame needed, in strokes of 10 ns / K, rounded up (DESIGN CHOICE, assumption log
108). -/
def paceNeeded (clock : Nat) (sent ready : Nat) : Int :=
  let unit : Int := 10 * 2 ^ 32
  (timeDiff ready sent * (clock : Int) + (unit - 1)) / unit - 15

/-- A PACE_PROBE reaches port `n` (R214): the greatest need of the measured frames is the measured minimum pace. A frame whose
times are not those of one master is not measured (DEDUCED, assumption log 108). -/
def State.takePaceProbe (s : State) (n : Nat) (msg : BitVec 112) (lastReady : Nat) : State :=
  let r := s.port n
  let need := (paceNeeded s.strokeClock (bits msg.toNat 48 64) lastReady).toNat
  if (s.portState n = 2 ∨ r.measuring ≠ 0) ∧ s.portLocked n then
    s.setPort n { r with worst := some (max need (r.worst.getD 0)) }
  else s

/-- PACE_PROBE (R214). -/
def execPaceProbe (p : Port) (msg : BitVec 112) (lastReady : BitVec 64) (s : State) :
    Host.Outcome State Fault Refusal :=
  .next (s.takePaceProbe p.val msg lastReady.toNat)

/-- The measured minimum pace, 0xFFFF while it is not valid (R214). -/
def State.measuredPace (s : State) (p : Nat) : Nat :=
  match (s.port p).worst with
  | some w => if s.portLocked p then min w 0xFFFE else 0xFFFF
  | none => 0xFFFF

/-! ## Lane loss and swaps (R227 to R231) -/

/-- Request a lane-swap fallow (R227, R231, R246). -/
def State.askSwap (s : State) : State :=
  match s.bell.swap with
  | some _ => s
  | none => { s with bell := { s.bell with swap := some s.requestExec } }

/-- The receiver starts a swap of logical lane `ln` onto its spare (R227, R231). -/
def State.startSwap (s : State) (p ln : Nat) : State :=
  let r := s.port p
  let s1 := s.setPort p { r with swap := some (.of ln none) }
  let s2 := if s.portState p = 3 then s1.setPortState p 4 else s1
  if s.dev = .run then s2.askSwap else s2

/-- A lane leaves ALIGNED or SPARE_ALIGNED (R210, R211, R227): `next` is its new state. -/
def State.laneDrops (s : State) (p l next : Nat) : State :=
  let st := s.laneState p l
  let ln := s.laneRole p l
  let s1 := s.setLane p l next 0xFF
  if st = 5 then (if s.obj (pObj p) 6 = 1 then s1.setObj (pObj p) 6 2 else s1)
  else
    match s.portState p with
    | 2 => s1.portTrain p
    | 3 =>
      let s2 := s1.setPort p { s1.port p with lost := ln :: (s1.port p).lost }
      if (s.rxSpare p).isSome ∧ s.obj (pObj p) 6 = 1 then s2.startSwap p ln else s2.setPortState p 5
    | 4 => (s1.setPort p { s1.port p with lost := ln :: (s1.port p).lost, swap := none }).setPortState p 5
    | _ => s1

/-- A lane that is ALIGNED or SPARE_ALIGNED is LOST and at once in CDR (R210, R227). -/
def State.loseLane (s : State) (p l : Nat) : State :=
  let st := s.laneState p l
  if st ≠ 4 ∧ st ≠ 5 then s
  else
    let s1 := s.laneDrops p l 1
    if st = 5 then s1
    else
      let s2 := (s1.bump (pObj p + 2) 5).fire (portSource p) 1
      if s.dev = .run then s2.portFoul p else s2

/-- LANE_LOST (R227): the lane's loop lost its lock, or its wander passed the limit. -/
def execLaneLost (p : Port) (l : Lane) (s : State) : Host.Outcome State Fault Refusal :=
  .next (s.loseLane p.val l.val)

/-- The sender's part of swap frame N (R228). -/
def State.swapSend (s : State) (p : Nat) (w : SwapRec) : State :=
  let r := s.port p
  let m := r.out.map.toNat
  let sp := bits m 21 3
  let old := bits m (3 * w.lane) 3
  let map := BitVec.ofNat 32 (putBits (putBits m (3 * w.lane) 3 sp) 21 3 old)
  s.setPort p { r with out := { r.out with map := map, swap := some { w with done := true } } }

/-- A physical lane is swapped out; twice bars it (R230). -/
def State.swapOut (s : State) (p l : Nat) : State :=
  let r := s.port p
  let n := Tbl.get 0 r.swapOuts l + 1
  let s1 := s.setPort p { r with swapOuts := Tbl.set 0 r.swapOuts l n }
  if n = 2 then s1.setObj (pObj p) 0xC (s1.obj (pObj p) 0xC ||| (1 <<< l)) else s1

/-- The receiver's part of swap frame N (R228, R230). -/
def State.swapReceive (s : State) (p : Nat) (w : SwapRec) : State :=
  match s.rxSpare p with
  | none => s
  | some sp =>
    let old := bits (s.obj (pObj p) 5) (3 * w.lane) 3
    let s1 := s.setLane p sp 4 w.lane
    let s2 := s1.setLane p old (if s1.laneState p old = 4 then 3 else s1.laneState p old) 0xFF
    let s3 := (s2.swapOut p old).setObj (pObj p) 6 3
    let map := putBits (putBits (s.obj (pObj p) 5) (3 * w.lane) 3 sp) 21 3 old
    let r := s3.port p
    (s3.setObj (pObj p) 5 map).setPort p
      { r with lost := r.lost.filter (fun x => x != w.lane), swap := some { w with done := true },
               goodSpare := 0 }

/-- SWAP_FRAME (R228): frame N starts. In device state RUN the receiver's is the frame whose tag follows that of the last one
received; outside RUN it is known by what comes on the spare lane (`State.swapArrives`), so the row itself then does
nothing. -/
def execSwapFrame (p : Port) (tx : Bool) (s : State) : Host.Outcome State Fault Refusal :=
  let n := p.val
  .next (if tx then
      match (s.port n).out.swap with
      | some w => if !w.done ∧ w.frame = some (s.count / 16 % 4096) then s.swapSend n w else s
      | none => s
    else
      match (s.port n).swap with
      | some w =>
        if !w.done ∧ s.dev = .run ∧ w.frame = some (((s.port n).lastTag + 1) % 4096) then s.swapReceive n w else s
      | none => s)

/-- What the frames that arrive say of frame N (R228): in RUN it is the one with its tag; outside RUN the first one on the
spare lane that passes R224, is seeded with the lost lane's ln and is no SPARE frame. -/
def State.swapArrives (s : State) (p : Nat) (frames : List LaneFrame) : State :=
  match (s.port p).swap with
  | none => s
  | some w =>
    if w.done then s
    else if s.dev = .run then
      let vs := (activeLanes (s.portMode p)).map (s.viewLane p frames)
      if w.frame = some (frameTag vs (s.port p).lastTag) then s.swapReceive p w else s
    else
      match (s.rxSpare p).bind (s.laneUi p frames) with
      | none => s
      | some ui =>
        let v := viewFrame w.lane ui
        if !v.fails && v.type != 12 then s.swapReceive p { w with frame := some v.tag } else s

/-- Whether the groups of a frame are ready by their delivery strokes (R229); outside device state RUN the two ends' counts
need not agree, and nothing is delivered. -/
def State.framePunctual (s : State) (p tag ready : Nat) : Bool :=
  s.dev != .run || decide (pattern 16 ((16 * tag + s.obj (pObj p + 1) 1 : Int) - ready) < 2 ^ 15)

/-- R229: one of frames N to N + 3 has come: whether it passes on the new lane is noted. -/
def State.swapNote (s : State) (p tag ready : Nat) (vs : List (Option LaneView)) : State :=
  match (s.port p).swap with
  | none => s
  | some w =>
    match w.frame with
    | none => s
    | some n =>
      if !w.done ∨ 4 ≤ pattern 12 ((tag : Int) - n) then s
      else
        let ok := (match getAt none vs w.lane with
          | some v => !v.fails
          | none => false) && s.framePunctual p tag ready
        let w1 := if ok then { w with passed := w.passed + 1 } else { w with failed := true }
        s.setPort p { s.port p with swap := some w1 }

/-- Whether the bound of R229 has passed: the end of the lane-swap fallow, or outside device state RUN 512 strokes after the
first SWAP_REQ. -/
def State.swapLate (s : State) (w : SwapRec) : Bool :=
  if s.dev = .run then w.frame.isSome && (match s.bell.swapW with
    | some c => decide (c + 512 ≤ s.count)
    | none => true)
  else match w.asked with
    | some c => decide (c + 512 ≤ s.count)
    | none => false

/-- Frames N to N + 3 have passed in time (R229). -/
def State.swapProven (s : State) (w : SwapRec) : Bool := w.done && w.passed == 4 && !w.failed && !s.swapLate w

/-- Both ends fix frame N when a lane-swap fallow begins (R228). -/
def State.fixSwaps (s : State) : State :=
  let n := swapFrameOf s.count
  let fix := fun (o : Option SwapRec) => match o with
    | some w => if w.done then some w else some { w with frame := some n }
    | none => none
  { s with bell := { s.bell with swapW := some s.count },
           ports := s.ports.map (fun e =>
             (e.1, { e.2 with swap := fix e.2.swap, out := { e.2.out with swap := fix e.2.out.swap } })) }

/-- SWAP_VERIFY (R229): `ok` says which judgement is made; each is made where its condition holds: that frames N to N + 3
have passed before the bound, or that one has failed or the bound has passed. -/
def execSwapVerify (p : Port) (ok : Bool) (s : State) : Host.Outcome State Fault Refusal :=
  let n := p.val
  .next (match (s.port n).swap with
    | none => s
    | some w =>
      let s1 := s.setPort n { s.port n with swap := none }
      if ok then
        if s.swapProven w then
          let s2 := (s1.bump (pObj n) 0xB).fire (portSource n) 2
          if s.portState n = 4 then s2.setPortState n 3 else s2
        else s
      else if w.failed || s.swapLate w then (if s.portState n = 4 then s1.setPortState n 5 else s1)
      else s)

/-- SPARE_REGAINED (R230). -/
def execSpareRegained (p : Port) (s : State) : Host.Outcome State Fault Refusal :=
  let n := p.val
  .next (if s.obj (pObj n) 6 = 3 ∧ (s.rxSpare n).isSome ∧ 1024 ≤ (s.port n).goodSpare then
      s.setObj (pObj n) 6 1
    else s)

/-! ## The whole frame (R202, R224) -/

/-- A control message of CTYPE 0x1 to 0x3 acts at port `p`; group 0 of its frame became ready at count `ready`
(R202, R214, R386, R387). A reserved CTYPE is discarded and counted. -/
def State.takeMessage (s : State) (p ctype : Nat) (msg : BitVec 112) (ready : Nat) : State :=
  let time := fun (n : Int) => s.valueAt ((s.steeple.sub : Int) + (ready + n - s.count)) % 2 ^ 64
  match ctype with
  | 0 => s
  | 1 => s.takeLinkStatus p msg
  | 2 => s.takePaceProbe p msg (time 15)
  | 3 => s.steepleTake p msg (time 0)
  | _ => s.bump (pObj p + 2) 4

/-- The message of the frame (R202, R205): put together from the CDATA of logical lanes 0 to 6; one with a damaged
part is discarded. A message given by a row of its own has no frame (DESIGN CHOICE, assumption log 97). -/
def State.frameMessage (s : State) (p : Nat) (vs : List (Option LaneView)) (ready : Nat) : State :=
  let ctype := match getAt none vs 0 with
    | some x => x.ctype
    | none => 0
  let part := fun (v : Option LaneView) => match v with
    | some x => x.cdata
    | none => 0
  let msg := (upFrom 0 7).foldl (fun m ln => m + (part (getAt none vs ln)) <<< (16 * ln)) 0
  if ctype = 0 then s
  else if (vs.take 7).any (fun v => match v with | some x => !x.crcOk | none => true) then
    s.bump (pObj p + 2) 6
  else s.takeMessage p ctype (BitVec.ofNat 112 msg) ready

/-- Every lane that is ALIGNED or SPARE_ALIGNED checks its blocks and its frame (R210, R224). -/
def State.checkLanes (s : State) (p : Nat) (frames : List LaneFrame) : State :=
  (upFrom 0 8).foldl (fun st l => st.countLane p frames l) s

/-- Lanes whose blocks or frames fail too often are lost (R227). -/
def State.dropLanes (s : State) (p : Nat) : State :=
  (upFrom 0 8).foldl (fun st l => if st.historyLost p l then st.loseLane p l else st) s

/-- FRAME_RECEIVE (R224): one port frame after deskew, presented before the stroke of its first delivery. Its message
acts, and a lane whose blocks or frames fail too often is lost (R227); the lanes of a port that is OFF do the same where they
are aligned (R210). -/
def execFrameReceive (p : Port) (lanes : List LaneFrame) (ready : Nat) (s : State) :
    Host.Outcome State Fault Refusal :=
  let n := p.val
  let act := activeLanes (s.portMode n)
  .next (if s.portState n = 0 ∨ s.portMode n = 0 then (s.checkLanes n lanes).dropLanes n
    else
      let s0 := s.swapArrives n lanes
      let vs := act.map (s0.viewLane n lanes)
      let tag := frameTag vs (s0.port n).lastTag
      let good := s0.portFrameGood n vs tag
      let train := vs.any (fun v => match v with | some x => x.crcOk && x.type == 3 | none => false)
      let s1 := if act.any (fun ln => (s0.rxLane n ln).isSome) then s0.bump (pObj n + 2) 1 else s0
      let s2 := (s1.checkLanes n lanes).swapNote n tag ready vs
      let s3 := if good then s2.bump (pObj n) 0xA else s2.setObj (pObj n) 0xA 0
      let s4 := s3.frameMessage n vs ready
      let r := s4.port n
      let s5 := s4.setPort n { r with lastTag := tag, measuring := r.measuring - 1 }
      let s6 := if s5.portState n = 3 ∧ train ∧ !r.partner.rxUp then s5.portTrain n
        else if s5.portUp n ∧ s5.obj (pObj n + 1) 1 ≠ 0 ∧ s5.frameInTime n tag then
          s5.holdFrame n tag vs ready
        else s5
      s6.dropLanes n)

/-! ## Commands (R211, R214, R230 to R234) -/

/-- Port command 1 (R211). -/
def State.portRetrain (s : State) (p : Nat) : State :=
  let s1 := (s.setPort p { s.port p with takenDown := false }).portReload p
  if s1.portMayRun p then s1.portTrain p else s1.portOff p

/-- Port command 2 (R211). -/
def State.portTakeDown (s : State) (p : Nat) : State :=
  (s.setPort p { s.port p with takenDown := true }).portOff p

/-- A write of Pb.03 (R211, R230, R231, R235). -/
def State.writePortCommand (s : State) (p v : Nat) : WriteResult :=
  match v with
  | 1 => .ok (s.portRetrain p)
  | 2 => .ok (s.portTakeDown p)
  | 3 =>
    if s.obj (pObj p) 6 ≠ 1 ∨ s.portState p = 4 then .error abState
    else .ok (s.startSwap p (s.obj (pObj p) 4))
  | 4 =>
    .ok ((s.setPort p { s.port p with swapOuts := [] }).setObj (pObj p) 0xC 0)
  | _ => .error abInvalid

/-- A write of Pb+0x1.06 (R214, R235). -/
def State.writeMeasure (s : State) (p v : Nat) : WriteResult :=
  if v = 1 then .ok (s.setPort p { s.port p with measuring := 1024, worst := none })
  else .error abInvalid

/-- R233: whether the test mode of a lane of port `p` can be changed. -/
def State.testModeOpen (s : State) (p : Nat) : Bool :=
  let r := s.port p
  let lo := s.bankNow * 1024
  s.portState p == 0 || s.portState p == 1 || s.portState p == 5 || s.dev != .run ||
  (!(Tbl.slice lo (lo + 1024) r.rx).any (fun e => e.2.toNat % 16 != 0) &&
    !(Tbl.slice lo (lo + 1024) r.tx).any (fun e => namesSource e.2))

/-- A write of a lane's test mode (R232, R233). -/
def State.writeTestMode (s : State) (p l v : Nat) : WriteResult :=
  if 4 < v then .error abInvalid
  else if !s.testModeOpen p then .error abState
  else
    let old := s.obj (lObj p l) 3
    let next := s.laneRest p l v
    let s1 := (s.setObj (lObj p l) 3 v).setObj (lObj p l) 4 (if next = 7 then 1 else 0)
    let s2 := s1.freshPrbs p l
    .ok (if v = old then s
      else if s.laneState p l = 4 ∨ s.laneState p l = 5 then s2.laneDrops p l next
      else s2.setLane p l next 0xFF)

/-- One received bit at a PRBS checker (R232). -/
def Checker.bit (c : Checker) (mode : Nat) (b : Bool) : Checker × Bool × Bool :=
  let (n, _) := prbsTaps mode
  if c.loaded < n then ({ c with reg := (c.reg * 2 + b2n b) % 2 ^ n, loaded := c.loaded + 1 }, false, false)
  else
    let (reg, want) := prbsStep mode c.reg
    let wrong := want != b
    if !c.locked then
      if wrong then ({ Checker.seeking with reg := b2n b, loaded := 1 }, false, false)
      else ({ c with reg := reg, good := c.good + 1, locked := c.good + 1 == 64 }, false, false)
    else
      let recent := (wrong :: c.recent).take 64
      if 16 ≤ (recent.filter (fun x => x)).length then (.seeking, true, wrong)
      else ({ c with reg := reg, recent := recent }, true, wrong)

/-- The bits of a report, with the counts of checked bits and of errors. -/
def Checker.run (mode : Nat) : List Bool → Checker → Checker × Nat × Nat
  | [], c => (c, 0, 0)
  | b :: t, c =>
    let (c1, counted, wrong) := c.bit mode b
    let (c2, n, e) := Checker.run mode t c1
    (c2, n + b2n counted, e + b2n wrong)

/-- PRBS_CHECKER_LOCK (R208, R232): the checker takes received bits. -/
def execPrbsCheckerLock (p : Port) (l : Lane) (rx : List Bool) (s : State) :
    Host.Outcome State Fault Refusal :=
  let o := lObj p.val l.val
  let mode := s.obj o 3
  .next (if mode = 0 ∨ s.laneState p.val l.val ≠ 7 then s
    else
      let r := s.port p.val
      let taken := if s.laneInverts p.val l.val 19 then rx.map (fun b => !b) else rx
      let (c, n, e) := Checker.run mode taken (Tbl.get .seeking r.checkers l.val)
      let s1 := s.setPort p.val { r with checkers := Tbl.set .seeking r.checkers l.val c }
      ((s1.setObj o 4 (if c.locked then 2 else 1)).bump o 5 n).bump o 6 e)

/-- A write of a lane's inject command (R234). `periodic` holds one more than the UI from the start of
the frame being sent to the next inverted bit. -/
def State.writeInject (s : State) (p l v : Nat) : WriteResult :=
  let r := s.port p
  let framed := s.obj (lObj p l) 3 = 0
  let pos := s.obj (lObj p l) 9
  let put := fun (o : PortTx) => s.setPort p { r with out := o }
  match v with
  | 1 =>
    .ok (if framed then
        put { r.out with invertNext := Tbl.set 0 r.out.invertNext l
                           (Tbl.get 0 r.out.invertNext l ^^^ (1#320 <<< pos)) }
      else put { r.out with invertPrbs := Tbl.set 0 r.out.invertPrbs l
                              (Tbl.get 0 r.out.invertPrbs l ^^^ 1#20) })
  | 2 =>
    .ok (put { r.out with periodic := Tbl.set 0 r.out.periodic l (if framed then 321 + pos else 1) })
  | 3 => .ok (put { r.out with periodic := Tbl.del l r.out.periodic })
  | _ => .error abInvalid

/-- INJECT_INTERVAL_EXPIRY (R234): the next bit of a periodic injection, when it falls in the frame, or
in the PRBS bits of the stroke, that is being sent. -/
def execInjectIntervalExpiry (p : Port) (l : Lane) (s : State) : Host.Outcome State Fault Refusal :=
  let r := s.port p.val
  let o := r.out
  let left := Tbl.get 0 o.periodic l.val
  let framed := s.obj (lObj p.val l.val) 3 = 0
  let next := Tbl.set 0 o.periodic l.val (left + s.obj (lObj p.val l.val) 8)
  let flip := Tbl.set 0 o.invertNow l.val (Tbl.get 0 o.invertNow l.val ^^^ (1#320 <<< (left - 1)))
  let flipP := Tbl.set 0 o.invertPrbs l.val (Tbl.get 0 o.invertPrbs l.val ^^^ (1#20 <<< (left - 1)))
  .next (if left = 0 then s
    else if framed ∧ left ≤ 320 then
      s.setPort p.val { r with out := { o with invertNow := flip, periodic := next } }
    else if !framed ∧ left ≤ 20 then
      s.setPort p.val { r with out := { o with invertPrbs := flipP, periodic := next } }
    else s)

end Sys2Proof.Machine
end

