-- ==== Sys2Proof/Machine/Repair.lean ====
section
/-!
DEFINITION. Bank modes, repair records and the background tests (R141 to R148, R339): what a write of
their objects does, and the events of a test.
-/

namespace Sys2Proof.Machine

/-! ## Bank modes (R141, R142, R508) -/

/-- The physical croft that serves logical croft `k` (R22). -/
def State.physCroft (s : State) (k : Nat) : Nat :=
  match s.croftMap.find? (fun e => e.1 == k) with
  | some e => e.2
  | none => k % 128

/-- The logical croft that physical croft `p` of hamlet `h` serves, when it serves one (R22). -/
def State.logicalCroft (s : State) (h p : Nat) : Option Nat :=
  ((upFrom 0 128).map (fun c => h * 128 + c)).find? (fun k => s.physCroft k == p)

/-- Banks of croft `k` that are held ACTIVE (R142): from the load of the section until the croft next reaches
UP_LOADABLE. -/
def State.heldBanks (s : State) (k : Nat) : BitVec 4 :=
  let c := s.croft k
  if c.mode = 0 ∨ (c.sheet = .upLoadable ∧ !c.newSection) then 0 else c.bankMask

/-- What a change of bank mode does to the content of bank `b` (R141, R508): a bank that enters or
leaves OFF holds zero with valid check bits. -/
def State.bankChange (s : State) (k b old new : Nat) : State :=
  if (old = 0) = (new = 0) then s
  else s.zeroRange (croftBase k + b * 0x10000) (croftBase k + (b + 1) * 0x10000)

/-- R141, R142, R148: a write of the larder bank mode object of croft `k`. -/
def State.writeBankMode (s : State) (k v : Nat) : WriteResult :=
  let code := fun b => bits v (2 * b) 2
  if [0, 1, 2, 3].any (fun b => code b == 3) then .error abInvalid
  else if [0, 1, 2, 3].any (fun b => (s.heldBanks k).getLsbD b && code b != 2) then .error abState
  else
    let s1 := [0, 1, 2, 3].foldl (fun st b => st.bankChange k b (s.bankMode k b) (code b)) s
    let s2 := s1.setObj (hOff k 0x20) (cSub k) v
    .ok (s2.setCroft k { s2.croft k with woken := 0 })

/-- R142: at the load of a section the fields of the banks in its mask are set to ACTIVE. -/
def State.activateBanks (s : State) (k : Nat) (mask : BitVec 4) : State :=
  [0, 1, 2, 3].foldl (fun st b =>
    if !mask.getLsbD b then st
    else
      let i := hOff k 0x20
      (st.bankChange k b (st.bankMode k b) 2).setObj i (cSub k)
        (putBits (st.obj i (cSub k)) (2 * b) 2 2)) s

/-! ## Repair records (R143 to R145) -/

/-- Identity of the spare that a TYPE 0x1 record names: hamlet, physical croft, bank and spare. -/
def spareOf (r : BitVec 64) : Nat := bits r.toNat 47 13 * 4 + bits r.toNat 38 2

/-- Identity of the stack bank that a TYPE 0x2 record names. -/
def stackBankOf (r : BitVec 64) : Nat := bits r.toNat 46 14

/-- Type of a repair record (R143). -/
def repairType (r : BitVec 64) : Nat := bits r.toNat 60 4

/-- R143: the record's fields are in range. -/
def repairFields (r : BitVec 64) : Bool :=
  let n := r.toNat
  match repairType r with
  | 0 => true
  | 1 => decide (bits n 49 8 < 132) && decide (bits n 40 7 < 72) && bits n 0 38 == 0
  | 2 => decide (bits n 46 7 < 48) && decide (bits n 28 18 ≤ Config.cellarTopRow) && bits n 0 28 == 0
  | _ => false

/-- R144: the record is accepted beside the fuse records and the soft records in effect. -/
def repairAccepted (fuses soft : List (BitVec 64)) (r : BitVec 64) : Bool :=
  repairFields r &&
  (match repairType r with
    | 1 => !((fuses ++ soft).any (fun o => repairType o == 1 && spareOf o == spareOf r))
    | 2 => !(soft.any (fun o => repairType o == 2 && stackBankOf o == stackBankOf r))
    | _ => true)

/-- R145: the bank that a larder record names is not in use by BPs. -/
def State.bankFree (s : State) (k b : Nat) : Bool :=
  let c := s.croft k
  c.mode == 0 || c.sheet == .upLoadable || !(c.bankMask.getLsbD b)

/-- R145: whether the record can take effect now. -/
def State.repairNow (s : State) (r : BitVec 64) : Bool :=
  let n := r.toNat
  match repairType r with
  | 1 =>
    match s.logicalCroft (bits n 57 3) (bits n 49 8) with
    | some k => s.bankFree k (bits n 47 2)
    | none => true
  | 2 => s.dev == .prep || s.dev == .set || s.dev == .halt
  | _ => true

/-- R122, R123, R145: the words that `moved` names are copied through their check bits, by `copy`; a word with no
error pattern is the same after it. -/
def State.copyWords (s : State) (moved : Nat → Bool) (copy : State → Nat → State) : State :=
  s.errs.foldl (fun st e => if moved e.1 then copy st e.1 else st) s

/-- Whether the cellar word at word address `w` lies in the row that a TYPE 0x2 record names (R124, R143). -/
def inRow (r : BitVec 64) (w : Nat) : Bool :=
  let n := r.toNat
  decide (w / cellarWords = bits n 58 2) && bits w 2 5 == bits n 53 5 && Config.cellarRow w == bits n 28 25

/-- A record that takes effect (R145): the bank, or the row, is copied through its check bits (R122), and its
content survives. -/
def State.applyRepair (s : State) (r : BitVec 64) : State :=
  let n := r.toNat
  let s1 := { s with softRepairs := s.softRepairs ++ [r] }
  match repairType r with
  | 1 =>
    match s.logicalCroft (bits n 57 3) (bits n 49 8) with
    | some k =>
      let lo := croftBase k / 8 + bits n 47 2 * 8192
      s1.copyWords (fun w => decide (lo ≤ w) && decide (w < lo + 8192))
        (fun st w => st.larderScrub k (w - croftBase k / 8))
    | none => s1
  | 2 =>
    let i := cObj (bits n 58 2)
    s1.copyWords (inRow r) (fun st w => st.scrubWord w i 5 i 6 (cellarSource (bits n 58 2)) 0)
  | _ => s

/-- Row repairs in effect at cellar `n` (R143, R149). -/
def State.rowRepairs (s : State) (n : Nat) : Nat :=
  (s.softRepairs.filter (fun r => repairType r == 2 && bits r.toNat 58 2 == n)).length

/-- A write of 0x3880.01 (R144, R145, R149). -/
def State.writeRepair (s : State) (v : Nat) : WriteResult :=
  let r := BitVec.ofNat 64 v
  if !repairAccepted s.fuse.repairs s.softRepairs r then .error abInvalid
  else if !s.repairNow r then .error abState
  else .ok (s.applyRepair r)

/-- R144: a record at power-up; a rejected one is skipped and the repair-record event is raised. -/
def State.powerUpRepair (s : State) (r : BitVec 64) : State :=
  if repairAccepted s.fuse.repairs s.softRepairs r then s.applyRepair r else s.fire 1358 2

/-! ## Background tests (R146 to R148, R339, R354) -/

/-- Key of a test engine: its hamlet, or 8 for the scratchpad. -/
def testKey : TestUnit → Nat
  | .larder h => h.val
  | .scratchpad => 8

/-- The record of test engine `u`. -/
def State.test (s : State) (u : Nat) : TestEng := Tbl.get .rest s.tests u

/-- Replace the record of test engine `u`. -/
def State.setTest (s : State) (u : Nat) (t : TestEng) : State :=
  { s with tests := Tbl.set .rest s.tests u t }

/-- Objects of a test engine: status and result. -/
def testStatusObj (u : Nat) : Nat × Nat := if u = 8 then (0x5320, 6) else (hObj u + 0x27, 3)
def testResultObj (u : Nat) : Nat × Nat := if u = 8 then (0x5320, 7) else (hObj u + 0x27, 4)

/-- Test blocks of a bank: 64 words each. -/
def blocksPerBank (u : Nat) : Nat := if u = 8 then 1024 else 128

/-- Byte offset of bank word `w` of scratchpad bank `b` (R338). -/
def scratchOffset (b w : Nat) : Nat := ((w / 8) * 16 + b) * 64 + (w % 8) * 8

/-- Word address of word `i` of block `blk` under test by engine `u`. -/
def testWord (u : Nat) (t : TestEng) (i : Nat) : Nat :=
  if u = 8 then (scratchBase + scratchOffset t.unit (t.block * 64 + i)) / 8
  else (croftBase (u * 128 + t.unit / 4)) / 8 + (t.unit % 4) * 8192 + t.block * 64 + i

/-- The words of the block under test by engine `u`. -/
def State.testWords (s : State) (u : Nat) : List Nat := (upFrom 0 64).map (testWord u (s.test u))

/-- A read of word `w` by the test of engine `u` is counted like any other (R122, R123, R339). -/
def State.testCount (s : State) (u w : Nat) : State :=
  let k := u * 128 + (s.test u).unit / 4
  match s.readEcc w with
  | .clean _ => s
  | .corrected _ => if u = 8 then s.bump 0x5320 1 else s.bump (hOff k 0x23) (cSub k)
  | .bad => if u = 8 then (s.bump 0x5320 2).fire 1348 0 else (s.bump (hOff k 0x24) (cSub k)).fire k 3

/-- What the save buffer keeps of a word: its data, and the error pattern of a word that is uncorrectable and so
stays as it is (R123, R146). -/
def State.savedWord (s : State) (w : Nat) : Nat × BitVec 72 :=
  match s.readEcc w with
  | .bad => (s.word w, s.err w)
  | d => (d.data, 0)

/-- R146: the 64 words of the block are copied into the save buffer. -/
def State.testSave (s : State) (u : Nat) : State :=
  let ws := s.testWords u
  let s1 := ws.foldl (fun st w => st.testCount u w) s
  s1.setTest u { s1.test u with saved := ws.map s.savedWord }

/-- R146: the saved words are written back. -/
def State.testRestore (s : State) (u : Nat) : State :=
  ((s.testWords u).zip (s.test u).saved).foldl (fun st e => (st.writeWord e.1 e.2.1).setErr e.1 e.2.2) s

/-- A running test of engine `u` ends where it is: its block is written back and the accesses that it holds are
performed (R147). -/
def State.testEnd (s : State) (u : Nat) : State :=
  let t := s.test u
  if !t.running then s
  else t.held.foldl (fun st e => st.larderArrive e.1 e.2) ((if t.yielded then s else s.testRestore u).setTest u .rest)

/-- R146: a larder test starts on an ACTIVE bank that BPs do not use; a scratchpad test on any bank. A start while
a test of the same engine runs ends that one and begins anew (DESIGN CHOICE, assumption log 87). -/
def State.testStart (s : State) (u : Nat) : WriteResult :=
  let target := if u = 8 then bits (s.obj 0x5320 4) 0 4 else
    bits (s.obj (hObj u + 0x27) 1) 0 7 * 4 + bits (s.obj (hObj u + 0x27) 1) 7 2
  let k := u * 128 + target / 4
  if u ≠ 8 ∧ !(s.bankModeNow k (target % 4) = 2 ∧ s.bankFree k (target % 4)) then .error abState
  else
    let o := testStatusObj u
    .ok ((((s.testEnd u).setTest u { TestEng.rest with running := true, unit := target }).testSave u).setObj o.1 o.2 1)

/-- R148: the test stops after the current block is restored. -/
def State.testStop (s : State) (u : Nat) : WriteResult :=
  .ok (if (s.test u).running then s.setTest u { s.test u with stopping := true } else s)

/-- A write of a test command object (R148, R354). -/
def State.writeTest (s : State) (u v : Nat) : WriteResult :=
  if v = 1 then s.testStart u else if v = 2 then s.testStop u else .error abInvalid

/-- The status with which a pass ends (R148): failed, blocks skipped, or passed; a pass with a mismatch and skipped
blocks reads failed, and one that a stop ended reads idle (DESIGN CHOICE, assumption log 87). -/
def TestEng.verdict (t : TestEng) : Nat := if t.failed then 3 else if t.skipped ≠ 0 then 4 else 2

/-- The test goes on to its next block, or ends. -/
def State.testAdvance (s : State) (u : Nat) : State :=
  let t := s.test u
  let o := testStatusObj u
  if t.stopping then (s.setTest u .rest).setObj o.1 o.2 0
  else if t.block + 1 < blocksPerBank u then
    (s.setTest u { t with block := t.block + 1, yields := 0, yielded := false }).testSave u
  else (s.setTest u .rest).setObj o.1 o.2 t.verdict

/-- The result record of a mismatch (R148, R354). -/
def State.testRecord (s : State) (u : Nat) (m : Mismatch) : Nat :=
  let t := s.test u
  let w := t.block * 64 + m.word.val
  if u = 8 then t.unit + w <<< 4 + m.column.val <<< 20
  else s.physCroft (u * 128 + t.unit / 4) + (t.unit % 4) <<< 8 + w <<< 10 + m.column.val <<< 23

/-- R146: each mismatch is recorded and raises the test-failure event. -/
def State.testMismatches (s : State) (u : Nat) : List Mismatch → State
  | [] => s
  | m :: ms =>
    let o := testResultObj u
    let s1 := s.setObj o.1 o.2 (s.testRecord u m)
    let s2 := if u = 8 then s1.fire 1348 1 else s1.fire (1024 + u) 3
    (s2.setTest u { s2.test u with failed := true }).testMismatches u ms

/-- TEST_BLOCK_DONE (R146): the patterns of a block have run; the saved words are written back. -/
def execTestBlockDone (u : TestUnit) (found : List Mismatch) (s : State) :
    Host.Outcome State Fault Refusal :=
  let k := testKey u
  .next (if (s.test k).running ∧ !(s.test k).yielded ∧ (s.test k).held = [] then
      ((s.testMismatches k found).testRestore k).testAdvance k
    else s)

/-- TEST_BLOCK_RESUME (R147): 1,024 cycles without another access have passed. -/
def execTestBlockResume (u : TestUnit) (s : State) : Host.Outcome State Fault Refusal :=
  let k := testKey u
  let t := s.test k
  .next (if t.running ∧ t.yielded then (s.setTest k { t with yielded := false }).testSave k else s)

/-- R147: the block gives way; at the fourth interruption it is skipped for the rest of the pass. -/
def State.testYield (s : State) (u : Nat) : State :=
  let t := s.test u
  let s1 := (s.testRestore u).setTest u { t with held := [], yielded := true, yields := t.yields + 1 }
  if t.yields + 1 = 4 then
    (s1.setTest u { s1.test u with skipped := t.skipped + 1 }).testAdvance u
  else s1

end Sys2Proof.Machine
end

