-- ==== Sys2Proof/Machine/Opn.lean ====
section
/-!
DEFINITION. The packet side of the on-package network (R167 to R190): response buffers, check errors
and timeouts, T reservations, shutters, slot-table swaps, the table objects and the statistics.
-/

namespace Sys2Proof.Machine

/-! ## Targets and response buffers (R176, R177) -/

/-- Number of a target of packets. -/
def targetKey : Target → Nat
  | .croft h c => h.val * 128 + c.val
  | .cellar n => 1024 + n.val
  | .scratchpad => 1028
  | .troughs => 1029
  | .tallies => 1030
  | .verger => 1031
  | .hedgerow => 1032
  | .dictionary => 1033
  | .config => 1034
  | .watch u => 1040 + u.val

/-- Response buffers of a target, and how many of them are reserved for M (R177). Watch unit 8 stands on
the green. -/
def targetPool (t : Nat) : Nat × Nat :=
  if t < 1024 then (16, 4)
  else if t < 1028 then (256, 16)
  else if 1040 ≤ t ∧ t < 1048 then (8, 4)
  else (64, 8)

/-- Buffers of the two pools of target `t` that initiators hold. -/
def State.poolsHeld (s : State) (t : Nat) : Nat × Nat :=
  s.opn.rsvs.foldl (fun a e => if e.1 / 2048 = t then (a.1 + e.2.heldM, a.2 + e.2.heldTB) else a) (0, 0)

/-- Initiators inject no new B packet from the draining of a swap to stroke 0 of its rota (R188). -/
def State.classHeld (s : State) (cls : Nat) : Bool := cls == 2 && (s.obj 0x4801 2 == 2 || s.opn.bHeld)

/-- The shutter state of an endpoint (R186): 0 OPEN. -/
def State.shutState (s : State) (e : Nat) : Nat :=
  match s.opn.shuts.find? (fun x => x.endpoint == e) with
  | some x => x.state
  | none => 0

/-- Code of an endpoint in 0x4804.01. -/
def endpointCode : Endpoint → Nat
  | .croft h c => h.val * 128 + c.val
  | .routers h => 4096 + h.val
  | .franel p => 8192 + p.val
  | .watch h => 12288 + h.val

/-- Whether new requests to target `t` are answered SHUTTERED (R181, R186, R187): its endpoint, or its hamlet's routers,
are not OPEN, or it is a cellar that a safety shutdown has cut off. -/
def State.targetShut (s : State) (t : Nat) : Bool :=
  if t < 1024 then s.shutState t != 0 || s.shutState (4096 + t / 128) != 0
  else if 1040 ≤ t ∧ t < 1048 then
    s.shutState (12288 + (t - 1040)) != 0 || s.shutState (4096 + (t - 1040)) != 0
  else decide (1024 ≤ t) && decide (t < 1028) && s.power.cut.contains (8 + (t - 1024))

/-- Whether entry `a` is granted before entry `b` (R177): by class, then the oldest. -/
def Rsv.before (a b : Rsv) : Bool :=
  decide (a.cls < b.cls) || (a.cls == b.cls && decide (a.order ≤ b.order))

/-- Allocate a waiting entry's buffers from a pool that its class may use; `none` when none has them
free. An M entry takes the pool for M first (log 20). -/
def Rsv.allocate (r : Rsv) (pool reserved heldM heldTB : Nat) : Option Rsv :=
  if r.cls = 0 ∧ heldM + r.want ≤ reserved then
    some { r with heldM := r.heldM + r.want, want := 0 }
  else if heldTB + r.want ≤ pool - reserved then
    some { r with heldTB := r.heldTB + r.want, want := 0 }
  else none

/-- Whether the entry of `init` at target `t` is the first that waits there, in grant order (R177). -/
def State.firstWaiting (s : State) (t init : Nat) : Bool :=
  s.opn.rsvs.all (fun e =>
    e.1 / 2048 != t || e.2.want == 0 || e.1 % 2048 == init || (s.rsv t init).before e.2)

/-- The entry of `init` at target `t` once the buffers that it asks for are allocated (R176, R177). -/
def State.granted? (s : State) (t init : Nat) : Option Rsv :=
  let (pool, reserved) := targetPool t
  let (hm, ht) := s.poolsHeld t
  if s.firstWaiting t init then (s.rsv t init).allocate pool reserved hm ht else none

/-- R177: an RSV of `n` buffers under a tag is recorded, or discarded and counted. -/
def State.reserve (s : State) (t init cls n tag : Nat) (net : Bool) : State :=
  let r := s.rsv t init
  if !packetInit init ∨ r.want ≠ 0 ∨ 4 < r.heldM + r.heldTB + n then s.discardCode
  else s.askBuffers t init cls n tag net

/-- Return `n` unused buffers (R176, R177). -/
def State.release (s : State) (t init n : Nat) : State :=
  let r := s.rsv t init
  if !packetInit init ∨ r.heldM + r.heldTB - r.busy < n then s.discardCode
  else
    let back := min n r.heldTB
    s.setRsv t init { r with heldTB := r.heldTB - back, heldM := r.heldM - (n - back) }

/-! ## Flits (R169 to R174, R179) -/

/-- What a target does with a request flit before it acts on it (R169, R173): none when the flit is taken as the
OP of this row; a flit with another row's OP is that row's (DEDUCED, assumption log 99). -/
def State.takeRequest (s : State) (f : ReqFlit) (op : Nat) : Option State :=
  if !reqGood f then some (s.flitError (finder f.dest))
  else if f.cls = 0 ∨ f.op = 0 ∨ 5 ≤ f.op.toNat then some s.discardCode
  else if f.op.toNat ≠ op then some s
  else none

/-- DEST of a flit for a target (R153). -/
def targetDest (tgt : Target) : BitVec 11 := BitVec.ofNat 11 (targetNode (targetKey tgt))

/-! ## Transactions (R173, R175) -/

/-- The answer of transaction `tag` of `init` will not arrive (R173). -/
def State.spoilTrans (s : State) (init tag : Nat) : State :=
  { s with opn := { s.opn with
             trans := s.opn.trans.map (fun o =>
               if o.init == init && o.tag == tag then { o with spoiled := true } else o) } }

/-- PACKET_CHECK_ERROR (R173): the flit is discarded, and the transaction waits for an answer. -/
def execPacketCheckError (h : Hamlet) (net : PacketNet) (tgt : Target) (init : Initiator)
    (tag : BitVec 8) (s : State) : Host.Outcome State Fault Refusal :=
  let s1 := (s.flitError h.val).openTrans ⟨init.val, tag.toNat, targetKey tgt, 0, false, false, .access 0 2 false⟩
  .next (if net = .response then s1.spoilTrans init.val tag.toNat else s1)

/-- A transaction that waits has waited for the timeout (0x4800.04). -/
def State.timedOut (s : State) (waited : Nat) : Bool := decide (s.obj 0x4800 4 ≤ waited)

/-- The user of an access that its initiator gave up is told that it failed (R175). -/
def State.failAccess (s : State) (who : Asker) : State := { s with answer := ⟨who, 0xF, []⟩ }.deliver who 0xF []

/-- The oldest access that waits at `init` for a buffer at target `t` fails with its RSV (R175); the next one sends its
own. -/
def State.failParked (s : State) (t init : Nat) : State :=
  let mine := fun p : Parked => p.asker.home == t + 1 && p.asker.init == init
  match s.opn.parked.find? mine with
  | none => s.failAccess (Asker.plain init)
  | some p =>
    let s1 := { s with opn := { s.opn with parked := s.opn.parked.erase p } }.failAccess p.asker
    match s1.opn.parked.find? mine with
    | none => s1
    | some q =>
      let tag := s1.freshTag init
      (s1.reserve t init q.asker.cls 1 tag false).openTrans (.ask init tag t)

/-- TRANSACTION_TIMEOUT (R175): the transaction, a READ, WRITE or RSV, ends as failed, which its user is told, its tag
rests, and RELEASE(1) follows. -/
def execTransactionTimeout (init : Initiator) (tag : BitVec 8) (s : State) :
    Host.Outcome State Fault Refusal :=
  .next (match s.opn.trans.find? (fun o => o.init == init.val && o.tag == tag.toNat && s.timedOut o.waited) with
    | none => s
    | some o =>
      let s1 := (s.setReadPart init.val tag.toNat []).endTrans init.val tag.toNat
      let s2 := { s1 with opn := { s1.opn with retired := s1.opn.retired ++ [{ o with waited := 0 }] } }
      let s3 := s2.bumpStat init.val 7
      (if o.kind = .rsv then s3.failParked o.tgt init.val
        else s3.failAccess { Asker.plain init.val with tag := tag.toNat, user := o.user }).release o.tgt init.val 1)

/-- UNMATCHED_WRITE_TIMEOUT (R175): the target discards the waiting half, and frees the buffer that its request
uses. -/
def execUnmatchedWriteTimeout (tgt : Target) (init : Initiator) (s : State) :
    Host.Outcome State Fault Refusal :=
  let mine := fun x : Half => x.src == init.val && s.timedOut x.waited && (match x.req with
    | some r => r.2.home == targetKey tgt + 1
    | none => nodeId x.dest == targetNode (targetKey tgt))
  .next (match s.opn.halves.find? mine with
    | none => s
    | some x =>
      let s1 := { s with opn := { s.opn with halves := s.opn.halves.erase x } }
      match x.req with
      | some r => s1.freeBuffer r.2
      | none => s1)

/-- Open transactions, resting tags and writes in part grow older by a stroke (R175). -/
def State.ageTransactions (s : State) : State :=
  let older := fun o : Trans => { o with waited := o.waited + 1 }
  let rest := s.opn.retired.map older
  { s with opn := { s.opn with
             trans := s.opn.trans.map older,
             halves := s.opn.halves.map (fun x => { x with waited := x.waited + 1 }),
             retired := rest.filter (fun o => decide (o.waited < s.obj 0x4800 4)) } }

/-- The initiator does not reuse a tag that rests (R175). -/
def State.tagRests (s : State) (init tag : Nat) : Bool :=
  s.opn.retired.any (fun o => o.init == init && o.tag == tag)

/-! ## T reservations (R182, R183) -/

/-- Links of a row from column `x` towards column `tx`, and the column moves. -/
def rowLinks (y : Nat) : Nat → Nat → Nat → List (Nat × Nat)
  | 0, _, _ => []
  | f + 1, x, tx =>
    if x < tx then (y * 32 + x, 1) :: rowLinks y f (x + 1) tx
    else if tx < x then (y * 32 + x, 3) :: rowLinks y f (x - 1) tx
    else []

/-- Links of a column from row `y` towards row `ty`. -/
def columnLinks (x : Nat) : Nat → Nat → Nat → List (Nat × Nat)
  | 0, _, _ => []
  | f + 1, y, ty =>
    if y < ty then (y * 32 + x, 2) :: columnLinks x f (y + 1) ty
    else if ty < y then (y * 32 + x, 0) :: columnLinks x f (y - 1) ty
    else []

/-- The output links of the dimension-ordered path of a packet (R157), as (router, output); the hub's output to
green port `y` stands as (1024 + y, 1). -/
def packetPath (src dst : Nat) : List (Nat × Nat) :=
  let d := dst % 1024
  if isGreen dst then
    if isGreen src then []
    else rowLinks (src / 32) 32 (src % 32) 0 ++ [(src / 32 * 32, 3)]
  else
    let sy := if isGreen src then d / 32 else src / 32
    let sx := if isGreen src then 0 else src % 32
    (if isGreen src then [(1024 + sy, 1)] else []) ++
      rowLinks sy 32 sx (d % 32) ++ columnLinks (d % 32) 32 sy (d / 32) ++ [(d, 4)]

/-- A hamlet's croft `k` is in use of itself (R436): its mode, a bank that is not OFF, or an aging measurement. -/
def State.croftUsed (s : State) (k : Nat) : Bool :=
  (s.croft k).mode != 0 || s.obj (hOff k 0x20) (cSub k) != 0

/-- A through-switch path through hamlet `h` is configured (R32, R216): a transmit entry of either bank names a port of the
hamlet (that the shadow bank counts is a DESIGN CHOICE, assumption log 102). -/
def State.throughPath (s : State) (h : Nat) : Bool :=
  [0, 1, 2, 3].any (fun j => (s.port (4 * h + j)).tx.any (fun e =>
    [0, 1, 2, 3].any (fun q => let i := bits e.2.toNat (6 * q) 6 % 8; decide (1 ≤ i) && decide (i ≤ 4))))

/-- The uncore of hamlet `h` is in use (R32); otherwise its mesh routers pass no traffic. A watch unit is enabled
while it is not IDLE (DEDUCED, assumption log 60). -/
def State.uncoreUsed (s : State) (h : Nat) : Bool :=
  (upFrom 0 128).any (fun c => s.croftUsed (h * 128 + c)) ||
    (upFrom 0 4).any (fun j => s.portUp (4 * h + j)) || s.throughPath h || s.obj (wObj h) 2 != 0

/-- The hamlets that the output links of a path stand in. -/
def pathHamlets (path : List (Nat × Nat)) : List Nat :=
  (path.filterMap (fun l => if l.1 < 1024 then some (croftAt l.1 / 128) else none)).eraseDups

/-- Whether a packet from node `src` meets routers, on its way to node `dst`, that pass no traffic (R32, R186). -/
def State.wayShut (s : State) (src dst : Nat) : Bool :=
  (pathHamlets (packetPath src dst)).any (fun h => s.shutState (4096 + h) != 0 || !s.uncoreUsed h)

/-- Whether the path of a packet from `init` to target `t` crosses routers that are not OPEN or have no power, where
the last powered router answers SHUTTERED (R32, R186). -/
def State.pathShut (s : State) (init t : Nat) : Bool := s.wayShut (initNode init) (targetNode t)

/-- What a target's side of the network does with an RSV (R177, R186). One that came through the networks has its way behind
it, and is answered there. -/
def State.rsvArrives (s : State) (t : Nat) (f : ReqFlit) (via : Option Nat) : State :=
  let i := f.src.toNat
  if s.targetShut t || (via.isNone && s.pathShut i t) then
    let who : Asker := { Asker.plain i with tag := f.tag.toNat, cls := flitClass f.cls, via := via }
    match via with
    | some node => (s.bump 0x4800 5).sendResponse node who opShuttered
    | none => (s.endTrans i f.tag.toNat).refuseRsv who
  else if 4 ≤ f.size.toNat then s.discardCode
  else s.reserve t i (flitClass f.cls) (f.size.toNat + 1) f.tag.toNat via.isSome

/-- RSV (R176, R177): the initiator waits for its GRANT from now on (R175). One that its initiator does not send, since B
packets are held back or the tag rests, does not arrive. -/
def execRsv (tgt : Target) (src : BitVec 11) (tag : BitVec 8) (ask : ReqAsk) (s : State) :
    Host.Outcome State Fault Refusal :=
  let f := requestFlit src tag (targetDest tgt) ask
  let t := targetKey tgt
  let i := f.src.toNat
  .next (match s.takeRequest f 1 with
    | some u => u
    | none =>
      if s.classHeld (flitClass f.cls) || s.tagRests i f.tag.toNat then s
      else (if packetInit i then s.openTrans (.ask i f.tag.toNat t) else s).rsvArrives t f none)

/-- What a target's side of the network does with a RELEASE (R176, R177), `shut` when routers do not pass it on; one that
is not passed on is answered SHUTTERED (R186), which no initiator awaits. -/
def State.releaseArrives (s : State) (t : Nat) (f : ReqFlit) (shut : Bool) : State :=
  if s.targetShut t || shut then s.bump 0x4800 5
  else if 4 ≤ f.size.toNat then s.discardCode
  else s.release t f.src.toNat (f.size.toNat + 1)

/-- RELEASE (R176, R177); a B packet is not injected while B packets are held back (R188). -/
def execRelease (tgt : Target) (who : BitVec 11 × BitVec 8) (ask : ReqAsk) (s : State) :
    Host.Outcome State Fault Refusal :=
  let f := requestFlit who.1 who.2 (targetDest tgt) ask
  .next (match s.takeRequest f 2 with
    | some t => t
    | none => if s.classHeld (flitClass f.cls) then s else s.releaseArrives (targetKey tgt) f (s.pathShut f.src.toNat (targetKey tgt)))

/-- Whether stroke `t` of a rota is open on a link: no route entry and no floor stroke (R167, R168). -/
def State.openStroke (s : State) (bank n o t : Nat) : Bool :=
  !(t % 64 == 63 || t + 1 == s.rotaLen) && !namesSource (Tbl.get routeNone s.opn.routes (routeKey bank t n o))

/-- The fewest open strokes among windows of 64, given the open strokes of a cycle: the sum of the first
window slides on. -/
def fewest : List Nat → List Nat → Nat → Nat → Nat
  | a :: as, b :: bs, sum, best => fewest as bs (sum + b - a) (min best (sum + b - a))
  | _, _, _, best => best

/-- Whether a green agent's hand-off crosses the hub's output to green port `y` at stroke `t` (R156, R162). -/
def State.hubUses (s : State) (bank y t : Nat) : Bool :=
  let out := handOffDelay s.level - (if s.level = 2 then 2 else 3)
  [0, 1, 2, 3].any (fun n => (s.cellar n).slots.any (fun e =>
    e.bank == bank && e.dir && e.gport == y && e.stroke + out == t)) ||
  s.hedge.inits.any (fun x => x.2.slots.any (fun e =>
    e.bank == bank && !e.dir && e.gport == y && e.stroke + out == t)) ||
  s.troughs.any (fun x => x.2.slots.any (fun e =>
    handedOff (s.obj (0x5100 + x.1) 1) e && e.gport == y && e.stroke + out == t))

/-- R182: the fewest open strokes of a link in any 64 consecutive rota strokes, counted cyclically. With
no stencil loaded a link has its 63 strokes that are not floor. -/
def State.fewestOpen (s : State) (bank n o : Nat) : Nat :=
  let len := s.rotaLen
  if len = 0 then 63
  else
    let isOpen := fun t =>
      if 1024 ≤ n then !(t % 64 == 63 || t + 1 == len) && !s.hubUses bank (n - 1024) t else s.openStroke bank n o t
    let xs := (upFrom 0 len).map (fun t => b2n (isOpen t))
    let first := ((upFrom 0 64).map (fun t => b2n (isOpen (t % len)))).foldl (fun a b => a + b) 0
    fewest xs ((upFrom 64 len).map (fun t => b2n (isOpen (t % len)))) first first

/-- T budget that crosses a link (R182). -/
def State.linkBudget (s : State) (l : Nat × Nat) : Nat :=
  s.opn.treservations.foldl (fun a r =>
    if (packetPath (initNode r.init) r.node).contains l then a + r.budget else a) 0

/-- A revocation record (R183). -/
def State.revocation (s : State) (cls cause link node init : Nat) : State :=
  let v := (s.rota % 2 ^ 35) <<< 29 + cls <<< 28 + cause <<< 25 + link <<< 22 + node <<< 11 + init
  (((s.bump 0x4800 6).bump 0x4802 1).pushLog 0x4802 2 v 15).fire 1346 0

/-- Revoke a T reservation for a cause at a link (R181, R183); the hub's output to green port `y` is the W link of
router (0, y). -/
def State.revokeT (s : State) (r : TRsv) (cause : Nat) (l : Nat × Nat) : State :=
  let at' := if 1024 ≤ l.1 then ((l.1 - 1024) * 32, 3) else l
  { s with opn := { s.opn with
             treservations := s.opn.treservations.erase r,
             revoked := r :: s.opn.revoked } }.revocation 0 cause at'.2 at'.1 r.init

/-- The reservation with the highest initiator number that crosses a link. -/
def State.highestT (s : State) (l : Nat × Nat) : Option TRsv :=
  (s.opn.treservations.filter (fun r => (packetPath (initNode r.init) r.node).contains l)).foldl
    (fun b r => match b with
      | some x => if x.init < r.init then some r else some x
      | none => some r) none

/-- R181: revoke reservations that cross a link until its budget fits. -/
def State.fitLink (s : State) (bank : Nat) (l : Nat × Nat) : Nat → State
  | 0 => s
  | f + 1 =>
    if s.linkBudget l ≤ s.fewestOpen bank l.1 l.2 then s
    else
      match s.highestT l with
      | some r => (s.revokeT r 1 l).fitLink bank l f
      | none => s

/-- R181: the check of T budgets against a bank at a swap. -/
def State.checkBudgets (s : State) (bank : Nat) : State :=
  let links := s.opn.treservations.flatMap (fun r => packetPath (initNode r.init) r.node)
  links.foldl (fun st l => st.fitLink bank l 128) s

/-- R181: reservations whose target or path meets one of `nodes` are revoked. -/
def State.revokeAt (s : State) (cause : Nat) (hit : Nat × Nat → Bool) : State :=
  s.opn.treservations.foldl (fun st r =>
    match (packetPath (initNode r.init) r.node).find? hit with
    | some l => st.revokeT r cause l
    | none => st) s

/-- T command 1 (R182). While 0x4803.01 still holds its default 0, it takes 0 as any other initiator number, whose packets
would come from the green (DESIGN CHOICE, assumption log 103). -/
def State.tApply (s : State) : State :=
  let r : TRsv := ⟨s.obj 0x4803 1, s.obj 0x4803 2, s.obj 0x4803 3⟩
  let others := s.opn.treservations.filter (fun x => !(x.init == r.init && x.node == r.node))
  let base := { s with opn := { s.opn with treservations := others } }
  let bad := (packetPath (initNode r.init) r.node).any (fun l =>
    decide (base.fewestOpen s.bankNow l.1 l.2 < base.linkBudget l + r.budget))
  if bad then s.setObj 0x4803 5 2
  else
    { base with opn := { base.opn with
                  treservations := others ++ [r],
                  revoked := s.opn.revoked.filter (fun x => !(x.init == r.init && x.node == r.node)) }
    }.setObj 0x4803 5 0

/-- T command 2 (R189). -/
def State.tRemove (s : State) : State :=
  let keep := fun x : TRsv => !(x.init == s.obj 0x4803 1 && x.node == s.obj 0x4803 2)
  { s with opn := { s.opn with
             treservations := s.opn.treservations.filter keep,
             revoked := s.opn.revoked.filter keep } }.setObj 0x4803 5 0

/-- A write of 0x4803.04. -/
def State.writeTCommand (s : State) (v : Nat) : WriteResult :=
  if v = 1 then .ok s.tApply else if v = 2 then .ok s.tRemove else .error abInvalid

/-- T status (R182): refused where the last command was; else that of the initiator and node that 0x4803.01 and
.02 name: in force, revoked, or none. -/
def State.tStatus (s : State) : Nat :=
  let hit := fun x : TRsv => x.init == s.obj 0x4803 1 && x.node == s.obj 0x4803 2
  if s.obj 0x4803 5 = 2 then 2
  else if s.opn.treservations.any hit then 1
  else if s.opn.revoked.any hit then 3
  else s.obj 0x4803 5

/-! ## Shutters (R185 to R187) -/

/-- The banks that a running table can come from: the active one, and the protected old one. -/
def State.liveBanks (s : State) : List Nat :=
  if s.obj 0x4801 2 = 3 then [0, 1] else [s.opn.active]

/-- Whether an entry names input `i` (R160). -/
def namesInput (entry : BitVec 24) (i : Nat) : Bool :=
  [0, 1, 2, 3].any (fun q => bits entry.toNat (6 * q) 6 % 8 == i)

/-- Whether a route entry of the banks names input `i` of node `n` or gives its output `i` a source. -/
def State.routeUses (s : State) (banks : List Nat) (n i : Nat) : Bool :=
  s.opn.routes.any (fun e =>
    banks.contains (e.1 / 8 / 1024 / 1024) && e.1 / 8 % 1024 == n &&
      (namesInput e.2 i || (e.1 % 8 == i && namesSource e.2)))

/-- A background test of hamlet `h` runs. -/
def State.testRuns (s : State) (h : Nat) : Bool := (s.test h).running

/-- Watch unit `u` is disabled: IDLE or DONE, where it samples nothing (DEDUCED, assumption log 60). -/
def State.watchIdle (s : State) (u : Nat) : Bool := s.obj (wObj u) 2 == 0 || s.obj (wObj u) 2 == 4

/-- Whether router node `n` stands in hamlet `h`. -/
def inHamlet (h n : Nat) : Bool := croftAt n / 128 == h

/-- Whether input `i` of node `n` is the end of a link that comes into hamlet `h` from outside it. -/
def linkInto (h n i : Nat) : Bool :=
  inHamlet h n && (match neighbour n i with
    | some (m, _) => decide (1024 ≤ m) || !inHamlet h m
    | none => false)

/-- Whether a route entry of either bank names a link into hamlet `h` (R185): as the output of a router outside that leads
there, or as the input of a router inside at which it ends. -/
def State.routeInto (s : State) (h : Nat) : Bool :=
  s.opn.routes.any (fun e =>
    let n := e.1 / 8 % 1024
    [0, 1, 2, 3].any (fun i => linkInto h n i && namesInput e.2 i) ||
    match neighbour n (e.1 % 8) with
    | some (m, i) => namesSource e.2 && decide (m < 1024) && linkInto h m i
    | none => false)

/-- R185: the condition for shuttering an endpoint code. -/
def State.mayShutter (s : State) (e : Nat) : Bool :=
  let n := e % 4096
  match e / 4096 with
  | 0 => (s.croft n).mode == 0 && !s.routeUses s.liveBanks (nodeOf n) 4
  | 1 =>
    (upFrom 0 128).all (fun c => s.shutState (n * 128 + c) == 2) &&
      (upFrom 0 4).all (fun j => s.shutState (8192 + 4 * n + j) == 2) &&
      s.shutState (12288 + n) == 2 && !s.routeInto n && !s.throughPath n
  | 2 => !s.routeUses [0, 1] (portNode n) 5
  | _ => s.watchIdle n && !s.testRuns n

/-- Whether an endpoint code names an endpoint. -/
def endpointExists (e : Nat) : Bool :=
  let n := e % 4096
  match e / 4096 with
  | 0 => decide (n < 1024)
  | 1 => decide (n < 8)
  | 2 => decide (n < 32)
  | 3 => decide (n < 8)
  | _ => false

/-- Set the shutter record of an endpoint. -/
def State.setShut (s : State) (e st : Nat) : State :=
  { s with opn := { s.opn with
             shuts := ⟨e, st, 0⟩ :: s.opn.shuts.filter (fun x => x.endpoint != e) } }

/-- Whether a shuttered endpoint takes link `l` away from the T paths of target node `node` (R181): the router of a
watch attachment is the router of croft 72 of its hamlet, which is the target of reservations to it. -/
def shutLink (e : Nat) (l : Nat × Nat) : Bool :=
  let n := e % 4096
  match e / 4096 with
  | 0 => l == (nodeOf n, 4)
  | 1 => decide (l.1 < 1024) && inHamlet n l.1
  | 3 => l == (nodeOf (n * 128 + 72), 4)
  | _ => false

/-- Reservations at a target are cleared (R186). -/
def State.clearRsvs (s : State) (t : Nat) : State :=
  { s with opn := { s.opn with rsvs := s.opn.rsvs.filter (fun e => e.1 / 2048 != t) } }

/-- The target that an endpoint code covers, if it is one of packets. -/
def endpointTarget (e : Nat) : Option Nat :=
  if e < 1024 then some e else if e / 4096 = 3 then some (1040 + e % 4096) else none

/-- Reservations at target `t` are cleared (R186), and the RSVs that waited there are answered SHUTTERED, with the accesses
that waited for their GRANT. -/
def State.clearTarget (s : State) (t : Nat) : State :=
  let (mine, rest) := s.opn.parked.partition (fun p => p.asker.home == t + 1)
  let (asks, open') := s.opn.trans.partition (fun o => o.kind == .rsv && o.tgt == t)
  let s1 := s.clearRsvs t
  let s2 := { s1 with opn := { s1.opn with parked := rest, trans := open' } }
  let lone := asks.filter (fun (o : Trans) => !mine.any (fun p => p.asker.init == o.init))
  (lone.map (fun (o : Trans) => { Asker.plain o.init with tag := o.tag }) ++ mine.map (fun (p : Parked) => p.asker)).foldl
    (fun st who => st.refuseRsv who) s2

/-- Reservations at an endpoint are cleared (R186). -/
def State.clearEndpoint (s : State) (e : Nat) : State :=
  match endpointTarget e with
  | none => s
  | some t => s.clearTarget t

/-- The state becomes DRAINING (R186), and T reservations to or through the endpoint are revoked
(R181). -/
def State.shutter (s : State) (e : Nat) : State :=
  if s.shutState e ≠ 0 then s else (s.setShut e 1).revokeAt 2 (shutLink e)

/-- The endpoint moves to OPENING (R187). -/
def State.unshutter (s : State) (e : Nat) : State :=
  if s.shutState e = 1 ∨ s.shutState e = 2 then (s.clearEndpoint e).setShut e 3 else s

/-- The endpoints and routers of hamlet `h`, its routers last. -/
def hamletEnds (h : Nat) : List Nat :=
  (upFrom 0 128).map (fun c => h * 128 + c) ++ (upFrom 0 4).map (fun j => 8192 + 4 * h + j) ++ [12288 + h, 4096 + h]

/-- A write of 0x4804.02 (R185 to R187). A shutter command for an endpoint that is not OPEN, and an unshutter
command for one that is OPEN, are accepted and change nothing (DESIGN CHOICE, assumption log 90). -/
def State.writeShutter (s : State) (v : Nat) : WriteResult :=
  let e := s.obj 0x4804 1
  if v = 1 then
    if endpointExists e && s.mayShutter e then .ok (s.shutter e) else .error abState
  else if v = 2 then
    .ok (s.unshutter e)
  else .error abInvalid

/-- The crofts that an endpoint code covers. -/
def shutCrofts (e : Nat) : List Nat := if e < 1024 then [e] else []

/-- The writes whose request target `t` has accepted and whose data have not all come (R174). -/
def State.halvesAt (s : State) (t : Nat) : List Asker :=
  s.opn.halves.filterMap (fun x => match x.req with
    | some r => if r.2.home = t + 1 then some r.2 else none
    | none => none)

/-- The target of an endpoint holds no write in part any more. -/
def State.dropHalvesAt (s : State) (t : Nat) : State :=
  { s with opn := { s.opn with halves := s.opn.halves.filter (fun x => match x.req with
      | some r => r.2.home != t + 1
      | none => true) } }

/-- The requests outstanding at an endpoint: writes whose data have not all come, and what waits for a bank, for its wake,
for a test, or for INV_ACK. -/
def State.outstanding (s : State) (e : Nat) : List Asker :=
  ((endpointTarget e).map s.halvesAt).getD [] ++ (shutCrofts e).flatMap (fun k =>
    let ws := (s.croft k).waiters ++ (s.croft k).held.map (fun x => x.2) ++
      ((s.test (k / 128)).held.filter (fun x => x.1 == k)).map (fun x => x.2)
    (ws.filter (fun w => !w.scrub)).map (fun w => w.asker) ++
      (s.heldWrites.filter (fun h => h.home == k)).map (fun h => h.asker))

/-- No request is outstanding at croft `k` any more. -/
def State.dropWaiting (s : State) (k : Nat) : State :=
  let s1 := s.setCroft k { s.croft k with waiters := [], held := [] }
  let t := s1.test (k / 128)
  { s1.setTest (k / 128) { t with held := t.held.filter (fun x => x.1 != k) } with
    heldWrites := s1.heldWrites.filter (fun h => h.home != k) }

/-- No request is outstanding at an endpoint any more. -/
def State.dropOutstanding (s : State) (e : Nat) : State :=
  (shutCrofts e).foldl (fun st k => st.dropWaiting k) (((endpointTarget e).map s.dropHalvesAt).getD s)

/-- SHUTTER_DRAIN_END (R186): the requests still outstanding are answered SHUTTERED. -/
def State.drainEnd (s : State) (e : Nat) : State :=
  let ws := s.outstanding e
  let s1 := s.dropOutstanding e
  let s2 := ws.foldl (fun st w => (st.reply w opShuttered []).bump 0x4804 4) s1
  (s2.clearEndpoint e).setShut e 2

/-- SHUTTER_DRAIN_END (R186): at completion, or 2,048 strokes after the command. -/
def execShutterDrainEnd (e : Endpoint) (s : State) : Host.Outcome State Fault Refusal :=
  let code := endpointCode e
  .next (match s.opn.shuts.find? (fun x => x.endpoint == code) with
    | some x => if x.state = 1 ∧ (s.outstanding code = [] ∨ 2048 ≤ x.strokes) then s.drainEnd code else s
    | none => s)

/-- Whether the power of the domain of an endpoint is good (R187, R434). -/
def State.endpointGood (s : State) (e : Nat) : Bool :=
  let n := e % 4096
  match e / 4096 with
  | 0 => s.granted (n / 128 * 132 + s.physCroft n)
  | 1 => s.granted (1056 + n)
  | 2 => s.granted (1064 + n)
  | _ => s.granted (1056 + n)

/-- UNSHUTTER_OPEN (R187): the domain's power is good. -/
def execUnshutterOpen (e : Endpoint) (s : State) : Host.Outcome State Fault Refusal :=
  let code := endpointCode e
  .next (if s.shutState code = 3 ∧ s.endpointGood code then
      { s with opn := { s.opn with shuts := s.opn.shuts.filter (fun x => x.endpoint != code) } }
    else s)

/-- A stroke passes at the draining endpoints. -/
def State.ageShuts (s : State) : State :=
  { s with opn := { s.opn with
             shuts := s.opn.shuts.map (fun x => if x.state = 1 then { x with strokes := x.strokes + 1 } else x) } }

/-! ## Slot-table swaps (R188) -/

/-- A write of 0x4801.05 (R188). -/
def State.writeSwap (s : State) (v : Nat) : WriteResult :=
  let idle := s.obj 0x4801 2 == 0 && s.opn.shadowOk
  match v with
  | 1 =>
    if !idle then .error abState
    else if s.dev = .prep ∨ s.dev = .set ∨ s.dev = .hold then
      .ok ({ s with opn := { s.opn with active := 1 - s.opn.active, shadowOk := false } }.checkBudgets
        (1 - s.opn.active))
    else if s.obj 0x4801 3 < s.rota + 2 then .error abState
    else
      .ok ({ s with opn := { s.opn with
               swapRota := s.obj 0x4801 3, swapArmed := true, swapLower := false } }.setObj 0x4801 2 1)
  | 2 =>
    if !idle then .error abState
    else .ok ({ s with opn := { s.opn with swapArmed := true, swapLower := true } }.setObj 0x4801 2 1)
  | 3 =>
    if s.obj 0x4801 2 ≠ 1 then .error abState
    else .ok ({ s with opn := { s.opn with swapArmed := false, swapLower := false } }.setObj 0x4801 2 0)
  | _ => .error abInvalid

/-- SWAP_DRAIN_START (R188): the start of rota r − 1. -/
def execSwapDrainStart (s : State) : Host.Outcome State Fault Refusal :=
  .next (if s.obj 0x4801 2 = 1 ∧ !s.opn.swapLower ∧ s.phase = .rota 0 ∧ s.rota + 1 = s.opn.swapRota then
      { s with opn := { s.opn with swapArmed := false } }.setObj 0x4801 2 2
    else s)

/-- R188 at the boundary that ends rota `n`: DRAINING becomes OLD_PROTECTED at boundary r − 1. -/
def State.swapBoundary (s : State) (n : Nat) : State :=
  if s.obj 0x4801 2 = 2 ∧ n + 1 = s.opn.swapRota then
    let bank := 1 - s.opn.active
    let s1 := { s with opn := { s.opn with active := bank, shadowOk := false, bHeld := true } }
    ((s1.setObj 0x4801 2 3).setObj 0x4801 6 n).checkBudgets bank
  else s

/-- B injection resumes at stroke 0 of the swap rota (R188): accesses that were held back send their RSV. -/
def State.resumeB (s : State) : State :=
  if !s.opn.bHeld ∨ s.rota < s.opn.swapRota then s
  else
    let s1 := { s with opn := { s.opn with bHeld := false } }
    s1.opn.parked.foldl (fun st p =>
      if (st.rsv (p.asker.home - 1) p.asker.init).want ≠ 0 then st
      else st.sendRsv (p.asker.home - 1) p.asker.init p.asker.cls) s1

/-- R188 at the commit of rota `k`: OLD_PROTECTED becomes IDLE. -/
def State.swapCommit (s : State) (k : Nat) : State :=
  if s.obj 0x4801 2 = 3 ∧ s.opn.swapRota ≤ k + 1 then (s.setObj 0x4801 2 0).setObj 0x4801 6 0 else s

/-! ## Table objects (R189, R223) -/

/-- The bank that 0 active or 1 shadow selects. -/
def State.selectBank (s : State) (sel : Nat) : Nat := if sel = 0 then s.bankNow else 1 - s.bankNow

/-- The entry that 0x4805.01 to .04 select. -/
def State.tableEntry (s : State) : Nat :=
  let n := s.obj 0x4805 1 % 1024
  let t := s.obj 0x4805 4 % 1024
  let b := s.selectBank (s.obj 0x4805 3)
  match s.obj 0x4805 2 with
  | 6 => (Tbl.get 0 s.opn.injects (tableKey b t n)).toNat
  | 7 => (Tbl.get 0 s.opn.ejects (tableKey b t n)).toNat
  | o => (Tbl.get routeNone s.opn.routes (routeKey b t n o)).toNat

/-- The bits of a route or transmit entry, of an eject entry, and of a receive entry that are not reserved (R160, R161,
R216). -/
def routeMask : BitVec 24 := 0x7DF7DF
def ejectMask : BitVec 72 := 0x7fffdffff7fffdffff
def receiveMask : BitVec 8 := 0x0F

/-- Store an entry of table `sel` (R189); reserved bits are ignored (R8). -/
def State.storeEntry (s : State) (b t n sel v : Nat) : State :=
  let o := s.opn
  match sel with
  | 6 => { s with opn := { o with injects := Tbl.set 0 o.injects (tableKey b t n) (BitVec.ofNat 24 v) } }
  | 7 => { s with opn := { o with
             ejects := Tbl.set 0 o.ejects (tableKey b t n) (BitVec.ofNat 72 v &&& ejectMask) } }
  | _ =>
    { s with opn := { o with
               routes := Tbl.set routeNone o.routes (routeKey b t n sel) (BitVec.ofNat 24 v &&& routeMask) } }

/-- Whether the table objects accept a write (R189). -/
def State.shadowOpen (s : State) (sel : Nat) : Bool := sel == 1 && s.obj 0x4801 2 == 0

/-- A write of 0x4805.05, or of .06 when `high` (R189). -/
def State.writeTable (s : State) (high : Bool) (v : Nat) : WriteResult :=
  if !s.shadowOpen (s.obj 0x4805 3) then .error abAccess
  else
    let old := s.tableEntry
    let new := if high then putBits old 64 8 v else putBits old 0 64 v
    let sel := s.obj 0x4805 2
    .ok (if high ∧ sel ≠ 7 then s
      else s.storeEntry (s.selectBank 1) (s.obj 0x4805 4 % 1024) (s.obj 0x4805 1 % 1024) sel new)

/-- The entry that a port's table objects select (R223, R235). -/
def State.portTable (s : State) (p : Nat) : Nat :=
  let k := s.selectBank (s.obj (pObj p + 3) 2) * 1024 + s.obj (pObj p + 3) 3 % 1024
  if s.obj (pObj p + 3) 1 = 0 then (Tbl.get routeNone (s.port p).tx k).toNat
  else (Tbl.get 0 (s.port p).rx k).toNat

/-- A write of Pb+0x3.04 (R223). -/
def State.writePortTable (s : State) (p v : Nat) : WriteResult :=
  if !s.shadowOpen (s.obj (pObj p + 3) 2) then .error abAccess
  else
    let k := s.selectBank 1 * 1024 + s.obj (pObj p + 3) 3 % 1024
    let r := s.port p
    .ok (if s.obj (pObj p + 3) 1 = 0 then
        s.setPort p { r with tx := Tbl.set routeNone r.tx k (BitVec.ofNat 24 v &&& routeMask) }
      else s.setPort p { r with rx := Tbl.set 0 r.rx k (BitVec.ofNat 8 v &&& receiveMask) })

/-! ## Statistics (R184) -/

/-- Every counter of initiator `i` is cleared. -/
def State.clearStats (s : State) (i : Nat) : State :=
  let s1 := { s with opn := { s.opn with samples := s.opn.samples.filter (fun e => e.1 != i) } }
  (upFrom 1 23).foldl (fun st sub => st.setObj (statObj i) sub (objDefault (statObj i) sub)) s1

/-- The free values that stand for latencies of initiator `i`, or for its grant waits (assumption log 41). -/
def State.sampled (s : State) (i : Nat) (grant : Bool) : List Nat :=
  (s.opn.samples.filter (fun e => e.1 == i && e.2.1 == grant)).map (fun e => (Config.freeBits 24 e.2.2).toNat)

/-- A statistics counter of initiator `i` (R184, R190): what commands gave, with the free latencies. -/
def State.viewStat (s : State) (i sub : Nat) : Nat :=
  let v := s.obj (statObj i) sub
  let ls := s.sampled i false
  if sub = 3 then ls.foldl min v
  else if sub = 4 then ls.foldl max v
  else if sub = 5 then ls.foldl (satAdd 64) v
  else if sub = 6 then (s.sampled i true).foldl (satAdd 64) v
  else if 8 ≤ sub ∧ sub < 0x18 then (ls.filter (fun l => latencyBin l == sub - 8)).foldl (fun a _ => satAdd 32 a 1) v
  else v

/-- A write of +.18 (R184). -/
def State.writeStatControl (s : State) (i v : Nat) : WriteResult :=
  if v = 1 then .ok (s.clearStats i) else .error abInvalid

end Sys2Proof.Machine
end

