-- ==== Sys2Proof/Machine/Hedgerow.lean ====
section
/-!
DEFINITION. The hedgerow and its I/O banks (R283 to R306): the signals of the fabric, the capture edge
of a clock line, the rota port, the banks, the region sheets and the checks of a region's frames.
-/

namespace Sys2Proof.Machine

/-! ## Records and frames (R284, R300, R304) -/

/-- Region `r`. -/
def State.region (s : State) (r : Nat) : RegionRec := Tbl.get .blank s.hedge.regions r

/-- Replace region `r`. -/
def State.setRegion (s : State) (r : Nat) (x : RegionRec) : State :=
  { s with hedge := { s.hedge with regions := Tbl.set .blank s.hedge.regions r x } }

/-- Hedgerow initiator `i`. -/
def State.hinit (s : State) (i : Nat) : HInit := Tbl.get .blank s.hedge.inits i

/-- Replace hedgerow initiator `i`. -/
def State.setHinit (s : State) (i : Nat) (x : HInit) : State :=
  { s with hedge := { s.hedge with inits := Tbl.set .blank s.hedge.inits i x } }

/-- 64-bit word `w` of region `r` as the fabric sees it: the stored bits, upsets included (R425). -/
def State.hedgeWord (s : State) (r w : Nat) : Nat :=
  let wa := hedgeBase r / 8 + w
  s.word wa ^^^ (s.err wa).toNat % 2 ^ 64

/-- The region configuration words, as a function of the word number (R304). -/
abbrev Frames := Nat → Nat

/-- Field of a region's frames: bit `lo` of frame `f`, `w` ≤ 64 bits within one word. -/
def frameBits (g : Frames) (f lo w : Nat) : Nat := bits (g (16 * f + lo / 64)) (lo % 64) w

/-- Cell record `n` (R284, R304), 256 bits. -/
def cellRec (g : Frames) (n : Nat) : Nat :=
  g (4 * n) + g (4 * n + 1) <<< 64 + g (4 * n + 2) <<< 128 + g (4 * n + 3) <<< 192

/-- Pin record `n` (R300, R304). -/
def pinRec (g : Frames) (n : Nat) : Nat := g (16 * (4096 + n / 16) + n % 16)

/-- Source of clock line `l` (R288, R304). -/
def clockSource (g : Frames) (l : Nat) : Nat := frameBits g 4099 (8 * l) 8

/-- Slot `m` (R304): the owned initiator, if it is owned. -/
def slotOwner (g : Frames) (m : Nat) : Option Nat :=
  let b := frameBits g 4099 (64 + 8 * m) 8
  if bitAt b 7 then some (b % 64) else none

/-- Declared VIO (R304). -/
def declaredVio (g : Frames) : Nat := frameBits g 4099 128 16

/-- Receive mode of slot `m` (R297, R304): COMMITTED. -/
def slotCommitted (g : Frames) (m : Nat) : Bool := frameBits g 4099 (144 + m) 1 == 1

/-- Port input selector `j` of slot `m` (R304). -/
def portInput (g : Frames) (m j : Nat) : Nat :=
  let k := 48 * m + j
  frameBits g (4108 + k / 64) (16 * (k % 64)) 14

/-- Hold mode of global line `l` (R303, R304). -/
def lineHold (g : Frames) (l : Nat) : Nat := frameBits g (4100 + l / 512) (2 * (l % 512)) 2

/-- Hold mode of bit `i` of quad `q` of slot `m` (R303, R304). -/
def quadHold (g : Frames) (m q i : Nat) : Nat :=
  let b := 2 * (32 * q + i)
  frameBits g (4114 + 4 * m + b / 1024) (b % 1024) 2

/-- The frames of region `r`, as the fabric sees them. -/
def State.frames (s : State) (r : Nat) : Frames := s.hedgeWord r

/-- The region and slot that own initiator `i`. -/
def State.ownerOf (s : State) (i : Nat) : Option (Nat × Nat) :=
  let ps := (upFrom 0 12).flatMap (fun r => (upFrom 0 8).map (fun m => (r, m)))
  ps.find? (fun (r, m) => (s.region r).configured && slotOwner (s.frames r) m == some i)

/-- Cell numbers whose record is not all zero, in rising order; `keys` are the listed byte offsets of
the region's frames. -/
def cellsOf : Option Nat → List Nat → List Nat
  | _, [] => []
  | last, a :: t =>
    if a / 32 < 16384 ∧ last ≠ some (a / 32) then a / 32 :: cellsOf (some (a / 32)) t else cellsOf last t

/-- The programmed cells of region `r`: every other cell's outputs and flip-flops are 0. -/
def State.cells (s : State) (r : Nat) : List Nat :=
  let lo := hedgeBase r
  let listed := (Tbl.slice lo (lo + 524288) s.mem).map (fun e => e.1)
  let upset := (Tbl.slice (lo / 8) (lo / 8 + 65536) s.errs).map (fun e => 8 * e.1)
  cellsOf none (listed.foldl (fun t a => Tbl.put a () t) (upset.map (fun a => (a, ())))
    |>.map (fun e => e.1))

/-! ## Signals (R285 to R290) -/

/-- WIDE code, and whether cell `n` is the base of its set (R286). -/
def wideSet (c : Nat) : Nat :=
  match bits c 65 2 with
  | 0 => 1
  | 1 => 2
  | 2 => 4
  | _ => 8

/-- The index of a cell's table from its inputs I0 to I4 or I5 (R285). -/
def tableIndex (ev : Nat → Bool) (c k : Nat) : Nat :=
  (upFrom 0 k).foldl (fun n i => n + (b2n (ev (bits c (96 + 14 * i) 14))) <<< i) 0

/-- OX and OY of a cell record without its wide multiplexer (R285). -/
def tableOut (ev : Nat → Bool) (c : Nat) (y : Bool) : Bool :=
  if bitAt c 64 then bitAt c (tableIndex ev c 5 + if y then 32 else 0)
  else bitAt c (tableIndex ev c 6)

/-- Flip-flop `d` of cell `n` of region `r`. -/
def State.ffAt (s : State) (r n d : Nat) : Bool :=
  Tbl.get false s.hedge.ff ((r * 16384 + n) * 2 + d)

/-- Output `o` of cell `n` of region `r` (R285, R286); `ev` evaluates a selector of a cell. -/
def State.cellOut (s : State) (ev : Nat → Nat → Bool) (r n o : Nat) : Bool :=
  let g := s.frames r
  let c := cellRec g n
  match o with
  | 0 =>
    let k := wideSet c
    if k = 1 ∨ n % k ≠ 0 then tableOut (ev n) c false
    else
      let m := n + (upFrom 0 (Nat.log2 k)).foldl (fun a i =>
        a + (b2n (ev (n + i) (bits (cellRec g (n + i)) 208 14))) <<< i) 0
      tableOut (ev m) (cellRec g m) false
  | 1 => tableOut (ev n) c true
  | 2 => s.ffAt r n 0
  | _ => s.ffAt r n 1

/-- The signal that a driver source code names: `none` when it is off (R284). -/
def driverOut (code : Nat) (out : Nat → Bool) : Option Bool :=
  if code = 0 then none else if code ≤ 4 then some (out (code - 1)) else none

/-- The cells of all regions that are configured to drive global line `l` (R290). -/
def State.lineDrivers (s : State) (l : Nat) : List (Nat × Nat) :=
  (upFrom 0 12).flatMap (fun r =>
    if !(s.region r).configured then []
    else ((s.cells r).filter (fun n =>
      let c := cellRec (s.frames r) n
      bits c 228 3 != 0 && bits c 231 12 == l)).map (fun n => (r, n)))

/-- Whether region `r` is held by its sheet (R303). -/
def RegionRec.isHeld (x : RegionRec) : Bool :=
  !x.running && (x.sheet == .upHeld || x.sheet == .upLoadable || x.sheet == .lowering)

/-- A bit that a hold mode gives over its LAST value (R99). -/
def holdBit (mode : Nat) (last : Bool) : Bool :=
  match mode with
  | 0 => last
  | 2 => true
  | _ => false

/-- How the pins of bank `b` act: as its state says (R301), but as those of an ACTIVE bank once a LOWERING region
runs, where the holds are removed (R302, R303; assumption log 78). -/
def State.pinMode (s : State) (b : Nat) : Nat :=
  let st := s.obj (0x5020 + b) 1
  if st = 3 ∧ (s.region b).running then 2 else st

/-- A bank whose inputs the fabric sees (R301). -/
def State.bankActive (s : State) (b : Nat) : Bool := s.pinMode b == 2

/-- Input of pin `n` of region `r` as the fabric sees it (R300, R301). -/
def State.pinInput (s : State) (r n : Nat) : Bool :=
  if !s.bankActive r then false
  else if bitAt (pinRec (s.frames r) n) 12 then (s.region r).pinIn.getLsbD n
  else (s.region r).pins.getLsbD n

/-- Output `j` of the rota port of a slot (R293). -/
def HInit.output (h : HInit) (j : Nat) : Bool :=
  if j < 32 then h.rxd.getLsbD j
  else if j < 39 then h.run && bitAt h.tick (j - 32)
  else if j = 39 then h.run
  else if j = 40 then h.replay
  else if j = 41 then h.pulse == 1
  else if j = 42 then h.pulse == 2
  else h.rota.getLsbD (j - 43)

/-- Whether the drivers of global line `l` are disabled (R291). -/
def State.lineOff (s : State) (l : Nat) : Bool := s.hedge.offLines.any (fun e => e.1 == l)

/-- What a held region gives line `l`, if one held it at its boundary r (R303). -/
def State.lineHeld (s : State) (l : Nat) : Option Bool :=
  ((upFrom 0 12).findSome? (fun r =>
    let x := s.region r
    if x.isHeld then x.lines.find? (fun e => e.1 == l) else none)).map (fun e => e.2)

/-- The cells of running regions that drive line `l` (R290). -/
def State.activeDrivers (s : State) (l : Nat) : List (Nat × Nat) :=
  (s.lineDrivers l).filter (fun e => (s.region e.1).running)

/-- Value of global line `l` (R290, R291, R303): a held region's, its one driver's, or the keeper's. -/
def State.lineValue (s : State) (ev : Nat → Nat → Nat → Bool) (l : Nat) : Bool :=
  let kept := Tbl.get false s.hedge.keepers l
  if s.lineOff l then kept
  else
    match s.lineHeld l, s.activeDrivers l with
    | some v, _ => v
    | none, [(r, n)] => (driverOut (bits (cellRec (s.frames r) n) 228 3) (s.cellOut (ev r) r n)).getD kept
    | none, _ => kept

/-- The signal that selector `sel` of cell `n` of region `r` names (R287). A selector with more
combinational steps than `fuel` lies in a loop, and its value is free (log 21). -/
def State.signal (s : State) : Nat → Nat → Nat → Nat → Bool
  | 0, r, n, sel => Config.freeBool (s.freeKey ((r * 16384 + n) * 16384 + sel))
  | f + 1, r, n, sel =>
    match sel / 4096 % 4 with
    | 0 => s.cellOut (fun m => s.signal f r m) r (n / 8 * 8 + sel % 32 / 4) (sel % 4)
    | 1 =>
      let m := n / 128 * 128 + sel % 256 / 2
      let code := bits (cellRec (s.frames r) m) (222 + 3 * (sel % 2)) 3
      (driverOut code (s.cellOut (fun i => s.signal f r i) r m)).getD false
    | 2 => s.lineValue (fun q m => s.signal f q m) (sel % 4096)
    | _ =>
      let i := sel % 4096
      if i = 1 then true
      else if 0x400 ≤ i ∧ i < 0x428 then s.pinInput r (i - 0x400)
      else if 0x800 ≤ i ∧ i < 0xA00 then
        match slotOwner (s.frames r) ((i - 0x800) / 64) with
        | some k => (s.hinit k).output (i % 64)
        | none => false
      else false

/-- Steps that no loop-free path exceeds: each programmed cell, line and cluster line once. -/
def State.depth (s : State) : Nat :=
  2 * (upFrom 0 12).foldl (fun n r => n + (s.cells r).length) 0 + 4

/-- The signal of a selector of a cell. -/
def State.sig (s : State) (r n sel : Nat) : Bool := s.signal s.depth r n sel

/-! ## Clock edges (R285, R300) -/

/-- The level of a cell's set/reset input. -/
def State.srOf (s : State) (r n c : Nat) : Bool := bitAt c 79 && s.sig r n (bits c 194 14)

/-- The next value of flip-flop `d` of a cell at its capture edge (R285). -/
def State.ffNext (s : State) (r n c d : Nat) : Bool :=
  let direct := bitAt c (67 + d)
  let input := if direct then s.sig r n (bits c 166 14) else s.cellOut (s.sig r) r n d
  if s.srOf r n c then bitAt c (76 + d)
  else if bitAt c 78 && !s.sig r n (bits c 180 14) then s.ffAt r n d
  else input

/-- Store a flip-flop. -/
def State.setFf (s : State) (r n d : Nat) (v : Bool) : State :=
  { s with hedge := { s.hedge with ff := Tbl.set false s.hedge.ff ((r * 16384 + n) * 2 + d) v } }

/-- Whether region `r` is held in reset (R285): it does not run, and is not the UP_HELD one whose clocks alone stand still
(R302). -/
def RegionRec.inReset (x : RegionRec) : Bool := !x.running && x.sheet != .upHeld

/-- The cells that an asynchronous set/reset changes now (R285). -/
def State.asyncChanges (s : State) : List (Nat × Nat × Nat) :=
  (upFrom 0 12).flatMap (fun r =>
    if (s.region r).inReset then []
    else ((s.cells r).map (fun n => (r, n, cellRec (s.frames r) n))).filter (fun (r, n, c) =>
      bitAt c 75 && s.srOf r n c && (s.ffAt r n 0 != bitAt c 76 || s.ffAt r n 1 != bitAt c 77)))

/-- R285: asynchronous set and reset act at once, until they change nothing more. -/
def State.settleAsync (s : State) : Nat → State
  | 0 => s
  | f + 1 =>
    match s.asyncChanges with
    | [] => s
    | l =>
      (l.foldl (fun st (r, n, c) => (st.setFf r n 0 (bitAt c 76)).setFf r n 1 (bitAt c 77)) s).settleAsync f

/-- The keepers follow the lines that are driven or held (R290, R303); a line with two drivers keeps its value
(R291). -/
def State.keepLines (s : State) : State :=
  let lines := (upFrom 0 12).flatMap (fun r =>
    let x := s.region r
    if x.isHeld then x.lines.map (fun e => e.1)
    else if !x.running then []
    else ((s.cells r).filter (fun n => bits (cellRec (s.frames r) n) 228 3 != 0)).map
      (fun n => bits (cellRec (s.frames r) n) 231 12))
  let vals := lines.map (fun l => (l, s.lineValue s.sig l))
  { s with hedge := { s.hedge with
             keepers := vals.foldl (fun t (l, v) => Tbl.set false t l v) s.hedge.keepers } }

/-- After a change of the fabric's inputs: asynchronous resets, then the keepers. -/
def State.fabricSettle (s : State) : State := (s.settleAsync (s.depth + 1)).keepLines

/-- Whether an edge of a kind is a capture edge of a record with that clock bit. -/
def edgeTakes (rising inverted : Bool) : Bool := rising != inverted

/-- What pin `n` of bank `r` is to put out when it drives (R300): its peephole channel, or its output selector. -/
def State.pinSource (s : State) (r n : Nat) : Bool :=
  let p := pinRec (s.frames r) n
  s.sig r 0 (if bitAt p 45 then s.obj (0x5040 + r) (bits p 46 6 + 1) % 2 ^ 14 else bits p 16 14)

/-- The pin registers `x` of region `r` after an edge of a clock line, in the state `s` of before it (R300): a DDR pin
captures on both edges. -/
def State.pinEdge (s : State) (r line : Nat) (rising : Bool) (x : RegionRec) : RegionRec :=
  (upFrom 0 40).foldl (fun x n =>
    let p := pinRec (s.frames r) n
    if bitAt p 12 && bits p 13 3 == line && (rising || bitAt p 11) then
      { x with pinIn := setBit x.pinIn n (s.bankActive r && (s.region r).pins.getLsbD n),
               pinOut := setBit x.pinOut n (s.pinSource r n) }
    else x) x

/-- An edge of clock line `line` of region `r`, taken by the flip-flops and pin registers of `st`; their inputs are
those of `s`, before the edge (R285, R300). -/
def State.takeEdge (s st : State) (r line : Nat) (rising : Bool) : State :=
  let cs := (s.cells r).map (fun c => (c, cellRec (s.frames r) c))
  let mine := cs.filter (fun (_, c) => bits c 69 3 == line && edgeTakes rising (bitAt c 72))
  let vals := mine.map (fun (k, c) => (k, s.ffNext r k c 0, s.ffNext r k c 1))
  let s1 := st.setRegion r (s.pinEdge r line rising (st.region r))
  vals.foldl (fun x (k, v, w) => (x.setFf r k 0 v).setFf r k 1 w) s1

/-- Whether source `src`, a byte of the control frame, gives this edge (R288): the rising edges of the rota clock come with
its ticks, a fabric PLL gives edges while it is locked, and a clock pin while the fabric sees the pins of its bank (R301). -/
def State.sourceEdge (s : State) (src : Nat) (rising : Bool) : Bool :=
  match src % 16 with
  | 0 => false
  | 1 => !rising
  | n => if n < 6 then bitAt (s.obj 0x5001 5) (n - 2) else decide (n < 8) && s.bankActive (src / 16)

/-- HEDGEROW_CLOCK_EDGE (R285, R300): `pins` are the levels at the pins of region `r`'s bank at an edge of its clock
line `line`. -/
def execHedgerowClockEdge (r : Region) (line : Fin 8) (rising : Bool) (pins : BitVec 40) (s : State) :
    Host.Outcome State Fault Refusal :=
  let n := r.val
  let s0 := s.setRegion n { s.region n with pins := pins }
  .next (if !(s.region n).running ∨ !s.sourceEdge (clockSource (s.frames n) line.val) rising then
      s0.fabricSettle
    else (s0.takeEdge s0 n line.val rising).fabricSettle.freeNext)

/-- Every flip-flop of region `r` holds its INIT value (R285). -/
def State.initRegion (s : State) (r : Nat) : State :=
  let lo := r * 32768
  let s1 := { s with hedge := { s.hedge with ff := Tbl.clearRange lo (lo + 32768) s.hedge.ff } }
  let s2 := s1.setRegion r { s1.region r with pinIn := 0, pinOut := 0 }
  (s2.cells r).foldl (fun st n =>
    let c := cellRec (s2.frames r) n
    (st.setFf r n 0 (bitAt c 73)).setFf r n 1 (bitAt c 74)) s2

/-- After a change of a region's frames: a region held in reset takes INIT values as they now give them (R285). -/
def State.frameChanged (s : State) (r : Nat) : State :=
  (if (s.region r).inReset then s.initRegion r else s).fabricSettle

/-- Release a region from INIT and start its clock lines (R302, R420). -/
def State.startRegion (s : State) (r : Nat) : State :=
  let s1 := s.initRegion r
  (s1.setRegion r { s1.region r with running := true }).fabricSettle

/-! ## Pins (R300, R301, R303) -/

/-- A differential standard (R299). -/
def stdPair (std : Nat) : Bool := std == 10 || std == 11 || std == 12

/-- What pin `n` of an ACTIVE bank `r` puts on its pad, as one leg (R299, R300). -/
def State.pinLeg (s : State) (r n : Nat) : PinDrive :=
  let p := pinRec (s.frames r) n
  if bits p 0 6 ≠ 0 ∧ (bitAt p 45 ∨ s.sig r 0 (bits p 30 14)) then
    .level (if bitAt p 12 then (s.region r).pinOut.getLsbD n else s.pinSource r n)
  else .pull (bits p 6 2)

/-- What bank `r` gives the pad of pin `n` (R299 to R301, R303): the odd leg of a pair is the complement of the even
one, which is the true leg; a leg that does not drive has the pull of its own record. -/
def State.pinOwn (s : State) (r n : Nat) : PinDrive :=
  let rest := PinDrive.pull (getAt 2 s.power.pulls r)
  match s.pinMode r with
  | 0 => .pull 0
  | 1 => rest
  | 2 =>
    if stdPair (bits (pinRec (s.frames r) n) 0 6) ∧ n % 2 = 1 then
      match s.pinLeg r (n - 1) with
      | .level b => .level (!b)
      | _ => .pull (bits (pinRec (s.frames r) n) 6 2)
    else s.pinLeg r n
  | _ =>
    match getAt .bankPull (s.region r).pinHolds n with
    | .bankPull => rest
    | x => x

/-- What stands on the pad of pin `n` of bank `r`: what the bank gives it, but while the test port controls it (R501). -/
def State.pinDrive (s : State) (r n : Nat) : PinDrive := s.landDrive (r * 40 + n) (s.pinOwn r n)

/-! ## Banks (R301) -/

/-- VIO within ±5 % of the declared voltage. -/
def vioGood (mv declared : Nat) : Bool := decide (95 * declared ≤ 100 * mv) && decide (100 * mv ≤ 105 * declared)

/-- The state that R301 gives bank `b`: HELD for every sheet state that its table names. -/
def State.bankState (s : State) (b : Nat) : Nat :=
  let x := s.region b
  let mv := s.obj (0x5020 + b) 2
  if mv < 900 then 0
  else if !x.configured || s.dev == .fault || !s.allset.seen ||
      !vioGood mv (declaredVio (s.frames b)) then 1
  else if x.sheet == .upHeld || x.sheet == .upLoadable || x.sheet == .lowering then 3
  else 2

/-- The declared VIO of bank `b` (R306): 0 when its region is unconfigured. -/
def State.declared (s : State) (b : Nat) : Nat := if (s.region b).configured then declaredVio (s.frames b) else 0

/-- Bring the state of bank `b` up to date; `vio` says that VIO changed (R301). -/
def State.bankUpdate (s : State) (vio : Bool) (b : Nat) : State :=
  let i := 0x5020 + b
  let old := s.obj i 1
  let new := s.bankState b
  let decl := s.declared b
  let s0 := s.setObj i 1 new
  let s1 := if new = old then s0 else s0.fabricSettle
  let s2 := if vio ∧ old = 2 ∧ new < 2 then (s1.bump i 5).fire (1333 + b) 0 else s1
  if vio ∧ new = 1 ∧ (s.region b).configured ∧ !vioGood (s.obj i 2) decl then s2.fire (1333 + b) 1 else s2

/-- Every bank. -/
def State.banksUpdate (s : State) : State := (upFrom 0 12).foldl (fun st b => st.bankUpdate false b) s

/-- BANK_SUPPLY_SAMPLE (R301). -/
def execBankSupplySample (b : Region) (mv : Nat) (s : State) : Host.Outcome State Fault Refusal :=
  .next (if !s.power.vstby then s else (s.setObj (0x5020 + b.val) 2 (min mv 0xFFFF)).bankUpdate true b.val)

/-! ## Contention (R291) -/

/-- GLOBAL_CONTENTION (R291). -/
def execGlobalContention (line : Fin 4096) (a b : Region × Fin 16384) (s : State) :
    Host.Outcome State Fault Refusal :=
  let l := line.val
  let off := (l, [a.1.val, b.1.val]) :: s.hedge.offLines
  let s1 := { s with hedge := { s.hedge with offLines := off } }
  .next (((s1.bump 0x5000 1).setObj 0x5000 2 (l + a.1.val <<< 12 + a.2.val <<< 16)).fire 1345 0)

/-- A write of 0x5000.03 (R291). -/
def State.writeReEnable (s : State) (l : Nat) : WriteResult :=
  if 4096 ≤ l then .error abInvalid
  else if 2 ≤ (s.lineDrivers l).length then .error abState
  else
    let offLines := s.hedge.offLines.filter (fun x => x.1 != l)
    .ok { s with hedge := { s.hedge with offLines := offLines } }.fabricSettle

/-- Region `r` is reloaded: the lines that a disabled driver of it holds off, and those that its new frames drive,
are driven again (R291). -/
def State.reloadLines (s : State) (r : Nat) : State :=
  let lines := ((s.cells r).filter (fun n => bits (cellRec (s.frames r) n) 228 3 != 0)).map
    (fun n => bits (cellRec (s.frames r) n) 231 12)
  { s with hedge := { s.hedge with
             offLines := s.hedge.offLines.filter (fun x => !x.2.contains r && !lines.contains x.1) } }

/-! ## Checks of selectors and frames (R284 to R305) -/

/-- Whether R287 accepts a selector; `owned` says whether a slot is owned. -/
def selectorOk (owned : Nat → Bool) (sel : Nat) : Bool :=
  let i := sel % 4096
  match sel / 4096 % 4 with
  | 0 => decide (i < 32)
  | 1 => decide (i < 256)
  | 2 => true
  | _ =>
    i == 0 || i == 1 || (decide (0x400 ≤ i) && decide (i < 0x428)) ||
      (decide (0x800 ≤ i) && decide (i < 0xA00) && decide (i % 64 < 59) && owned ((i - 0x800) / 64))

/-- Whether slot `m` of these frames is owned. -/
def slotOwned (g : Frames) (m : Nat) : Bool := (slotOwner g m).isSome

/-- A check failure: the code of R305 and the byte offset in the section. -/
abbrev FrameFail := Option (Nat × Nat)

/-- The first failure of a list of checks. -/
def firstFail : List (Bool × Nat × Nat) → FrameFail
  | [] => none
  | (bad, code, off) :: t => if bad then some (code, off) else firstFail t

/-- The checks of cell `n` (R284, R286, R287, R305): every selector is checked, used or not. -/
def cellFail (g : Frames) (n : Nat) : FrameFail :=
  let c := cellRec g n
  let off := 32 * n
  let k := wideSet c
  let base := n / k * k
  let setBad := k != 1 && (bitAt c 64 || (upFrom 0 k).any (fun j => bits (cellRec g (base + j)) 65 2 != bits c 65 2))
  let sels := (upFrom 0 9).map (fun i => 96 + 14 * i)
  firstFail ([(setBad, 0x0B03, off + 8), (bits c 80 16 != 0, 0x0B01, off + 10)] ++
    sels.map (fun lo => (!selectorOk (slotOwned g) (bits c lo 14), 0x0B02, off + lo / 8)) ++
    [(decide (4 < bits c 222 3) || decide (4 < bits c 225 3) || decide (4 < bits c 228 3), 0x0B01, off + 27),
     (bits c 243 13 != 0, 0x0B01, off + 30)])

/-- Declared VIO that a pin standard needs (R299), in mV; 0 for any. -/
def stdVio (std : Nat) : Option Nat :=
  match std with
  | 0 => some 0
  | 1 => some 3300
  | 2 => some 2500
  | 3 => some 1800
  | 4 => some 1500
  | 5 => some 1200
  | 6 => some 1800
  | 7 => some 1500
  | 8 => some 1800
  | 9 => some 1500
  | 10 => some 2500
  | 11 => some 1800
  | 12 => some 1200
  | _ => none

/-- The checks of pin `n` (R299, R300, R287). -/
def pinFail (g : Frames) (n : Nat) : FrameFail :=
  let p := pinRec g n
  let off := 128 * (4096 + n / 16) + 8 * (n % 16)
  let std := bits p 0 6
  let mate := bits (pinRec g (if n % 2 = 0 then n + 1 else n - 1)) 0 6
  let vioBad := match stdVio std with
    | none => true
    | some v => v != 0 && v != declaredVio g
  let pairBad := (stdPair std || stdPair mate) && std != mate
  let lvcmos := decide (1 ≤ std) && decide (std ≤ 5)
  firstFail [
    (vioBad || pairBad || (!lvcmos && bits p 8 2 != 0) || (bitAt p 44 && !stdPair std), 0x0B06, off),
    (!selectorOk (slotOwned g) (bits p 16 14), 0x0B02, off + 2),
    (!selectorOk (slotOwned g) (bits p 30 14), 0x0B02, off + 3),
    (bits p 54 10 != 0, 0x0B06, off + 6)]

/-- The checks of the control frame (R288, R293, R304). Bits [7:4] of a clock line's source code, of which R288 says
nothing for the codes 0x0 to 0x5, must be zero there (DESIGN CHOICE, assumption log 93). -/
def controlFail (g : Frames) : FrameFail :=
  let off := 128 * 4099
  let lineBad := fun l =>
    let b := clockSource g l
    decide (8 ≤ b % 16) || ((b % 16 == 6 || b % 16 == 7) && decide (12 ≤ b / 16)) ||
      (decide (b % 16 < 6) && b / 16 != 0)
  let slotBad := fun m =>
    let b := frameBits g 4099 (64 + 8 * m) 8
    bitAt b 6 || (bitAt b 7 && (upFrom 0 m).any (fun j => slotOwner g j == some (b % 64)))
  firstFail ((upFrom 0 8).map (fun l => (lineBad l, 0x0B05, off + l)) ++
    (upFrom 0 8).map (fun m => (slotBad m, 0x0B07, off + 8 + m)) ++
    [(frameBits g 4099 152 40 != 0, 0x0B0A, off + 19)] ++
    (upFrom 3 13).map (fun w => (g (16 * 4099 + w) != 0, 0x0B0A, off + 8 * w)))

/-- Whether a 64-bit word of 2-bit hold codes holds the code 0b11. -/
def holdBad (w : Nat) : Bool := (upFrom 0 32).any (fun i => bits w (2 * i) 2 == 3)

/-- The checks of the frames above the control frame (R304, R305). -/
def tailFail (g : Frames) : FrameFail :=
  firstFail ((upFrom (16 * 4100) 128).map (fun w => (holdBad (g w), 0x0B08, 8 * w)) ++
    (upFrom 0 384).map (fun k =>
      let f := frameBits g (4108 + k / 64) (16 * (k % 64)) 16
      let off := 128 * (4108 + k / 64) + 2 * (k % 64)
      (if k % 48 = 47 then (f != 0, 0x0B0A, off)
        else if decide (2 ^ 14 ≤ f) then (true, 0x0B0A, off)
        else (!selectorOk (slotOwned g) f, 0x0B02, off))) ++
    (upFrom (16 * 4114) 512).map (fun w => (holdBad (g w), 0x0B08, 8 * w)) ++
    (upFrom (16 * 4146) 224).map (fun w => (g w != 0, 0x0B0A, 8 * w)))

/-- The first of two failures, in this order. -/
def orFail (a : FrameFail) (b : FrameFail) : FrameFail :=
  match a with
  | some x => some x
  | none => b

/-- The first failing item of a list. -/
def failOf (f : Nat → FrameFail) : List Nat → FrameFail
  | [] => none
  | n :: t => orFail (f n) (failOf f t)

/-- Stage 4 checks of a region's frames (R284 to R305); `cells` are the programmed cells. -/
def framesFail (g : Frames) (cells : List Nat) : FrameFail :=
  orFail (failOf (cellFail g) cells) (orFail (failOf (pinFail g) (upFrom 0 40))
    (orFail (firstFail ((upFrom (16 * 4098 + 8) 8).map (fun w => (g w != 0, 0x0B0A, 8 * w))))
      (orFail (controlFail g) (tailFail g))))

/-- The lines that a region's cells drive, with the cell (R290). -/
def drivenLines (g : Frames) (cells : List Nat) : List (Nat × Nat) :=
  (cells.filter (fun n => bits (cellRec g n) 228 3 != 0)).map (fun n => (bits (cellRec g n) 231 12, n))

/-- R290: a line driven twice, within the new frames or against other lines. -/
def driversFail (g : Frames) (others : List Nat) : List Nat → List Nat → FrameFail
  | _, [] => none
  | seen, n :: t =>
    let c := cellRec g n
    if bits c 228 3 = 0 then driversFail g others seen t
    else
      let l := bits c 231 12
      if seen.contains l || others.contains l then some (0x0B04, 32 * n + 28)
      else driversFail g others (l :: seen) t

/-- R293: an initiator that another region owns. -/
def ownersFail (g : Frames) (others : List Nat) : FrameFail :=
  firstFail ((upFrom 0 8).map (fun m =>
    ((match slotOwner g m with | some i => others.contains i | none => false), 0x0B07, 128 * 4099 + 8 + m)))

/-- The lines that the configured regions besides `r` drive, and the initiators that they own. -/
def State.othersOf (s : State) (r : Nat) : List Nat × List Nat :=
  let rs := (upFrom 0 12).filter (fun q => q != r && (s.region q).configured)
  (rs.flatMap (fun q => (drivenLines (s.frames q) (s.cells q)).map (fun e => e.1)),
    rs.flatMap (fun q => (upFrom 0 8).filterMap (slotOwner (s.frames q))))

/-- The checks of stages 4 and 5 on the frames that stand in region `r` (R302). -/
def State.regionFail (s : State) (r : Nat) : FrameFail :=
  let g := s.frames r
  let (lines, owned) := s.othersOf r
  orFail (framesFail g (s.cells r)) (orFail (driversFail g lines [] (s.cells r)) (ownersFail g owned))

/-! ## Region sheets (R302, R303) -/

/-- A raise (R302). -/
def State.raiseRegion (s : State) (r : Nat) : WriteResult :=
  let x := s.region r
  if s.dev ≠ .run ∨ x.sheet ≠ .down then .error abState
  else .ok (s.setRegion r { x with sheet := .raising, sheetRota := s.rota + 1 })

/-- A lower (R302): frames that fail their checks refuse it, and 0x2380.02 reports the code. What its cellar requests
return lands from its first rota on (R129). -/
def State.lowerRegion (s : State) (r : Nat) : WriteResult :=
  let x := s.region r
  if s.dev ≠ .run ∨ x.sheet ≠ .upLoadable ∨ (s.regionFail r).isSome then .error abState
  else
    let s1 := (s.reloadLines r).setRegion r { x with sheet := .lowering, sheetRota := s.rota, configured := true }
    let mine := (upFrom 0 8).filterMap (slotOwner (s.frames r))
    .ok ((mine.foldl (fun st i => st.setHinit i { st.hinit i with firstRota := s.rota + 1 }) s1).bankUpdate false
      r).fabricSettle

/-- A lower command of region `r` that its frames refuse: 0x2380.02 reports the code (R302). -/
def State.noteLower (s : State) (r : Nat) : State :=
  if s.dev = .run ∧ (s.region r).sheet = .upLoadable then
    match s.regionFail r with
    | some f => s.setObj 0x2380 2 f.1
    | none => s
  else s

/-- A write of 0x5010+r.02 (R302). -/
def State.writeRegionSheet (s : State) (r v : Nat) : WriteResult :=
  if v = 1 then s.raiseRegion r else if v = 2 then s.lowerRegion r else .error abInvalid

/-- What pin `n` of region `r` puts out by its HOLD field from boundary r on (R303). -/
def State.pinHold (s : State) (r n : Nat) : PinDrive :=
  match bits (pinRec (s.frames r) n) 52 2 with
  | 0 => s.pinOwn r n
  | 1 => .level false
  | 2 => .level true
  | _ => .bankPull

/-- What stands for a region's lines and pins from boundary r on, by the frames of that boundary (R303). -/
def State.snapshotRegion (s : State) (r : Nat) : RegionRec :=
  let g := s.frames r
  let ls := (drivenLines g (s.cells r)).map (fun e => e.1)
  { s.region r with
    lines := ls.foldl (fun t l => Tbl.put l (holdBit (lineHold g l) (s.lineValue s.sig l)) t) [],
    pinHolds := (upFrom 0 40).map (s.pinHold r) }

/-- The hold codes of slot `m` (R304): 64 bits for each quad, 2 bits a bit. -/
def slotHolds (g : Frames) (m : Nat) : Tbl Nat :=
  (upFrom 0 64).foldl (fun t q => Tbl.set 0 t q (g (16 * (4114 + 4 * m) + q))) []

/-- Boundary r of a region that is RAISING (R302): its clocks stop and its holds begin. -/
def State.holdRegion (s : State) (r : Nat) : State :=
  let x := s.snapshotRegion r
  let g := s.frames r
  let s1 := s.setRegion r { x with sheet := .upHeld, running := false }
  (((upFrom 0 8).foldl (fun st m =>
    match slotOwner g m with
    | some i =>
      let h := st.hinit i
      st.setHinit i { h with last := Tbl.get [] h.txLogs x.sheetRota, holds := some (r, slotHolds g m) }
    | none => st) s1).bankUpdate false r).fabricSettle

/-- The region sheets at a boundary that ends rota `n` with a verdict (R302). -/
def State.regionBoundary (s : State) (n : Nat) (v : Verdict) (r : Nat) : State :=
  let x := s.region r
  match x.sheet with
  | .raising => if x.sheetRota = n then s.holdRegion r else s
  | .upHeld =>
    if v = .clear x.sheetRota then (s.setRegion r { x with sheet := .upLoadable }).initRegion r else s
  | .lowering =>
    if v = .clear x.sheetRota then (s.setRegion r { x with sheet := .down, sheetRota := 0 }).bankUpdate false r else s
  | _ => s

/-- The holds of region `r` end (R303). -/
def State.dropHolds (s : State) (r : Nat) : State :=
  let free := fun (h : HInit) => match h.holds with
    | some (q, _) => if q = r then { h with holds := none } else h
    | none => h
  { s with hedge := { s.hedge with inits := Tbl.mapVals .blank free s.hedge.inits } }

/-- Stroke 0 of rota q + 1: a lowered region starts, and its holds end (R302). -/
def State.regionStart (s : State) (r : Nat) : State :=
  let x := s.region r
  if x.sheet = .lowering ∧ !x.running ∧ x.sheetRota < s.rota then (s.dropHolds r).startRegion r else s

/-! ## The rota port (R293 to R298) -/

/-- A number from input selectors `lo` to `lo + w - 1` of a slot. -/
def State.portField (s : State) (r m lo w : Nat) : Nat :=
  (upFrom 0 w).foldl (fun n i => n + (b2n (s.sig r 0 (portInput (s.frames r) m (lo + i)))) <<< i) 0

/-- Result register word `k` (R298). -/
def HInit.result (h : HInit) (k : Nat) : BitVec 32 :=
  match k with
  | 0 => BitVec.ofNat 32 (b2n h.busy + 2 * b2n h.done + 4 * h.code.toNat)
  | 1 => BitVec.ofNat 32 h.data.toNat
  | 2 => BitVec.ofNat 32 (h.data.toNat / 2 ^ 32)
  | _ => 0

/-- A write of the port at the end of a tick (R293, R298). -/
def State.portWrite (s : State) (i a d : Nat) : State :=
  let h := s.hinit i
  if a < 64 then s.setHinit i { h with tx := Tbl.set 0 h.tx a (BitVec.ofNat 32 d) }
  else
    let w := a % 8
    if w < 4 then s.setHinit i { h with packet := Tbl.set 0 h.packet w (BitVec.ofNat 32 d) }
    else if w = 4 then
      if h.busy then s.bump (0x5080 + i) 5 else s.setHinit i { h with start := true, busy := true, done := false }
    else s

/-- The tick that starts now: its number and whether it lies in a rota of RUN (R288, R293). -/
def State.tickNow (s : State) : Nat × Bool :=
  match s.dev, s.phase with
  | .run, .rota t => (t / 8, true)
  | _, _ => (0, false)

/-- What RXD shows for the RXA sampled at the last tick end (R293, R297, R298). -/
def HInit.shown (h : HInit) (committed : Bool) : BitVec 32 :=
  if h.rxa < 64 then Tbl.get 0 (if committed then h.copy else h.rx) h.rxa else h.result (h.rxa % 8)

/-- What a slot samples at the end of a tick, and its outputs in the next one (R293). -/
def State.portTick (s : State) (r m i : Nat) : State :=
  let w := s.sig r 0 (portInput (s.frames r) m 39)
  let txa := s.portField r m 0 7
  let txd := s.portField r m 7 32
  let s1 := if w then s.portWrite i txa txd else s
  let h := { s1.hinit i with rxa := s.portField r m 40 7 }
  let (tick, run) := s.tickNow
  s1.setHinit i { h with rxd := h.shown (slotCommitted (s.frames r) m), tick := tick, run := run,
                         replay := run && s.replay, pulse := 0, rota := BitVec.ofNat 16 s.rota }

/-- The owned slots of the regions that run, as (region, slot, initiator). -/
def State.ownedSlots (s : State) : List (Nat × Nat × Nat) :=
  (upFrom 0 12).flatMap (fun r =>
    if !(s.region r).running then []
    else (upFrom 0 8).filterMap (fun m => (slotOwner (s.frames r) m).map (fun i => (r, m, i))))

/-- Whether a tick of the rota clock can end before the present stroke (R288): 8 strokes apart from stroke 0 of the
rota on, through the fallow, but not 1 to 7 strokes before the end of a fallow. Before the last strokes of a rota of
which fewer than 8 are left, the tick ends if a fallow follows, which its sender knows; outside RUN the rota clock has
no phase (DESIGN CHOICE, assumption log 94). -/
def State.tickEnds (s : State) : Bool :=
  match s.phase with
  | .rota t => t % 8 == 0
  | .fallow i f => (s.rotaLen + i) % 8 == 0 && (decide (i + 8 ≤ f) || decide (f ≤ i))
  | .boundary => false
  | .idle => true

/-- The clock lines of running regions that the rota clock feeds, as (region, line) (R288). -/
def State.rotaLines (s : State) : List (Nat × Nat) :=
  (upFrom 0 12).flatMap (fun r =>
    if !(s.region r).running then []
    else ((upFrom 0 8).filter (fun l => clockSource (s.frames r) l % 16 == 1)).map (fun l => (r, l)))

/-- ROTA_CLOCK_TICK (R288, R293): the end of a tick of the rota clock, which rises with the next one. Every slot, and
every flip-flop on the rota clock, samples the fabric as it stands before anything changes. -/
def execRotaClockTick (s : State) : Host.Outcome State Fault Refusal :=
  let slots := s.ownedSlots
  let ignored := fun (st : State) (e : Nat × Nat × Nat) =>
    let w := s.sig e.1 0 (portInput (s.frames e.1) e.2.1 39)
    let a := s.portField e.1 e.2.1 0 7
    if w && a % 8 == 4 && decide (64 ≤ a) && (s.hinit e.2.2).busy then st.bump (0x5080 + e.2.2) 5 else st
  let tick := fun (st : State) (e : Nat × Nat × Nat) =>
    st.setHinit e.2.2 ((s.portTick e.1 e.2.1 e.2.2).hinit e.2.2)
  let s1 := slots.foldl tick (slots.foldl ignored s)
  .next (if s.tickEnds then
      (s.rotaLines.foldl (fun st (r, l) => s.takeEdge st r l true) s1).fabricSettle.freeNext
    else s)

/-- Whether initiator `i` is in receive mode COMMITTED (R297). -/
def State.committedInit (s : State) (i : Nat) : Bool :=
  match s.ownerOf i with
  | some (r, m) => slotCommitted (s.frames r) m
  | none => false

/-- The decided rota `k` at the receive logs of every initiator (R297): with CLEAR the committed copies take what it
delivered, and its log and those before it are freed. -/
def State.commitReceives (s : State) (clear : Bool) (k : Nat) : State :=
  if !clear then s
  else
    s.hedge.inits.foldl (fun st (i, h) =>
      let got := Tbl.get [] h.rxLogs k
      let copy := if s.committedInit i then got.foldl (fun t e => Tbl.set 0 t e.1 e.2) h.copy else h.copy
      st.setHinit i { h with copy := copy, rxLogs := h.rxLogs.filter (fun e => decide (k < e.1)) }) s

/-- COMMIT_PULSE (R297): the first tick that starts at or after a boundary with a verdict. The data of rota `k` is
visible from that tick on. -/
def execCommitPulse (s : State) : Host.Outcome State Fault Refusal :=
  .next (match s.hedge.decided with
    | none => s
    | some (clear, k) =>
      let s1 := { s with hedge := { s.hedge with decided := none } }.commitReceives clear k
      (s.ownedSlots.foldl (fun st (_, _, i) =>
        let h := st.hinit i
        let rxd := if s.committedInit i then h.shown true else h.rxd
        st.setHinit i { h with pulse := if clear then 1 else 2, rota := BitVec.ofNat 16 k, rxd := rxd })
        s1).fabricSettle.freeNext)

/-- The quad that a held slot hands off (R303): its hold codes over the quad of the raise rota. -/
def heldQuad (codes : Nat) (last : BitVec 32) : BitVec 32 :=
  (upFrom 0 32).foldl (fun b i => setBit b i (holdBit (bits codes (2 * i) 2) (last.getLsbD i))) 0

/-- What initiator `i` hands off by one entry at stroke `t` (R294 to R296, R303). -/
def State.hedgeHandOff (s : State) (i t : Nat) (e : ASlot) : State :=
  let h := s.hinit i
  let key := t * 64 + e.quad
  let (kind, fresh) := match h.holds with
    | some (_, codes) => (2, heldQuad (Tbl.get 0 codes e.quad) (BitVec.ofNat 32 (Tbl.get 0 h.last key).toNat))
    | none => (0, Tbl.get 0 h.tx e.quad)
  let log := Tbl.get [] h.txLogs s.rota
  match s.replay, log.find? (fun x => x.1 == key) with
  | true, some (_, v) =>
    (s.bump (0x5080 + i) 3).handOff e.gport e.pquad v
  | _, _ =>
    let v := BitVec.ofNat 34 (fresh.toNat + kind <<< 32)
    let logs := Tbl.put s.rota (Tbl.put key v log) h.txLogs
    (s.setHinit i { h with txLogs := logs }).handOff e.gport e.pquad v

/-- What initiator `i` receives by one entry at the end of stroke `t` (R295, R297, R303). -/
def State.hedgeReceive (s : State) (i t : Nat) (e : ASlot) : State :=
  match s.agentQuad false t e.gport e.pquad with
  | none => s
  | some v =>
    if (s.hinit i).holds.isSome then s.bump (0x5080 + i) 4
    else
      let h := s.hinit i
      let logs := Tbl.put s.rota (Tbl.put e.quad (BitVec.ofNat 32 v) (Tbl.get [] h.rxLogs s.rota)) h.rxLogs
      s.setHinit i { h with rxNew := Tbl.put e.quad (BitVec.ofNat 32 v) h.rxNew, rxLogs := logs }

/-- Quads received in an earlier stroke become visible (R295). -/
def HInit.showNew (h : HInit) : HInit :=
  { h with rx := h.rxNew.foldl (fun t e => Tbl.set 0 t e.1 e.2) h.rx, rxNew := [] }

/-- Quads received in the stroke before become visible (R295). -/
def State.showQuads (s : State) : State :=
  s.hedge.inits.foldl (fun st (i, h) => if h.rxNew = [] then st else st.setHinit i h.showNew) s

/-- The hedgerow's part of stroke `t`: quads of the stroke before become visible, then hand-offs, or
(`rx`) receptions. -/
def State.hedgeStroke (s : State) (t : Nat) (rx : Bool) : State :=
  s.hedge.inits.foldl (fun st (i, h) =>
    let es := h.slots.filter (fun e => e.bank == st.bankNow && e.stroke == t && e.dir == rx)
    if rx then es.foldl (fun x e => x.hedgeReceive i t e) (st.setHinit i (st.hinit i).showNew)
    else es.foldl (fun x e => x.hedgeHandOff i t e) st) s

/-- A verdict at the hedgerow (R296, R297): logs of a committed rota are freed, and the pulse of the
decided rota waits for its tick. -/
def State.hedgeVerdict (s : State) (v : Verdict) : State :=
  let note := fun (x : State) (c : Bool) (k : Nat) =>
    { x with hedge := { x.hedge with decided := some (c, k) } }
  match v with
  | .none => s
  | .foul k => note s false k
  | .clear k =>
    note (s.hedge.inits.foldl (fun st (i, _) =>
      let h := st.hinit i
      st.setHinit i { h with txLogs := h.txLogs.filter (fun e => decide (k < e.1)) }) s) true k

/-- Entry to RUN from SET clears the logs (R296). -/
def State.hedgeFresh (s : State) : State :=
  s.hedge.inits.foldl (fun st (i, _) =>
    st.setHinit i { st.hinit i with txLogs := [], rxLogs := [], firstRota := 0 }) s

/-! ## Window, peepholes and PLLs (R292, R304, R306) -/

/-- Whether a region's frames take window writes (R304). -/
def State.regionLoadable (s : State) (r : Nat) : Bool :=
  s.dev == .prep || s.dev == .set || (s.region r).sheet == .upLoadable

/-- The bits of word `w` of a region's frames that are no reserved field (R284, R300, R304): the others are ignored on
write and read as zero (R8). -/
def frameMask (w : Nat) : Nat :=
  let f := w / 16
  let i := w % 16
  let all := 2 ^ 64 - 1
  if f < 4096 then (if w % 4 = 1 then all - 0xFFFF <<< 16 else if w % 4 = 3 then 2 ^ 51 - 1 else all)
  else if f < 4099 then (if f = 4098 ∧ 8 ≤ i then 0 else 2 ^ 54 - 1)
  else if f = 4099 then (if i < 2 then all else if i = 2 then 2 ^ 24 - 1 else 0)
  else if f < 4108 then all
  else if f < 4114 then
    [0, 1, 2, 3].foldl (fun m q => if ((f - 4108) * 64 + 4 * i + q) % 48 = 47 then m else m + 0x3FFF <<< (16 * q)) 0
  else if f < 4146 then all else 0

/-- The bytes of a write at frame byte `off` without reserved bits. -/
def maskFrames (off : Nat) : List (Byte × Bool) → List (Byte × Bool)
  | [] => []
  | (b, e) :: t => (b &&& BitVec.ofNat 8 (frameMask (off / 8) >>> (8 * (off % 8))), e) :: maskFrames (off + 1) t

/-- A write of region frames (R304): a region held in reset takes INIT values as its frames give them (R285). -/
def State.regionWrite (s : State) (r off : Nat) (data : List (Byte × Bool)) : State × Nat :=
  if 532480 < off + data.length then (s, opDecode)
  else if s.regionLoadable r then
    let s1 := (s.eccWriteBytes (hedgeBase r + off) (maskFrames off data)).banksUpdate
    (s1.frameChanged r, opAck)
  else (s, opAck)

/-- The signal of peephole channel `k` of region `r` (R292). -/
def State.peephole (s : State) (r k : Nat) : Bool := s.sig r 0 (s.obj (0x5040 + r) (k + 1) % 2 ^ 14)

/-- A write of a peephole channel (R292). -/
def State.writePeephole (s : State) (r k v : Nat) : WriteResult :=
  let owned := fun m => (s.region r).configured && slotOwned (s.frames r) m
  if !selectorOk owned (v % 2 ^ 14) then .error abInvalid
  else .ok (s.setObj (0x5040 + r) (k + 1) (v % 2 ^ 14))

/-- Whether a clock line of a region that is neither UP_LOADABLE nor unconfigured uses PLL `j`. -/
def State.pllUsed (s : State) (j : Nat) : Bool :=
  (upFrom 0 12).any (fun r =>
    (s.region r).configured && (s.region r).sheet != .upLoadable &&
      (upFrom 0 8).any (fun l => clockSource (s.frames r) l % 16 == j + 2))

/-- A write of the settings of fabric PLL `j` (R306): the 3 bits of N, 1 to 8, are zero for 8. -/
def State.writePll (s : State) (j v : Nat) : WriteResult :=
  let m := bits v 0 7
  let n := if bits v 7 3 = 0 then 8 else bits v 7 3
  let o := bits v 10 6
  if m < 8 ∨ 120 < m ∨ o = 0 ∨ 100 * m < 800 * n ∨ 1600 * n < 100 * m ∨
      100 * m < 10 * n * o ∨ 500 * n * o < 100 * m then .error abInvalid
  else if s.pllUsed j then .error abState
  else
    .ok ((s.setObj 0x5001 (j + 1) (v % 2 ^ 17)).setObj 0x5001 5
      (s.obj 0x5001 5 &&& (15 ^^^ (1 <<< j))))

/-! ## Scrub (R425) -/

/-- Whether frame `f` of region `r` is cared (R276, R425). -/
def State.frameCared (s : State) (r f : Nat) : Bool :=
  (s.region r).base || Tbl.get false s.hedge.care (r * 4160 + f)

/-- R425 for one word of a frame. -/
def State.scrubFrameWord (s : State) (r f w : Nat) : State :=
  let wa := hedgeBase r / 8 + 16 * f + w
  let cared := s.frameCared r f
  let place := 1 + r <<< 2 + f <<< 6 + w <<< 19
  match s.readEcc wa with
  | .clean _ => s
  | .corrected d =>
    let s1 := s.writeWord wa d
    if cared then ((s1.bump 0x2306 3).setObj 0x2306 6 place).fire 1358 3 else s1
  | .bad =>
    if cared then ((s.bump 0x2306 4).setObj 0x2306 6 (place + 2)).fire 1358 4
    else (s.writeWord wa 0).bump 0x2306 5

/-- Whether word `w` of frame `f` of region `r` decodes with no error. -/
def State.frameClean (s : State) (r f w : Nat) : Bool :=
  match s.readEcc (hedgeBase r / 8 + 16 * f + w) with
  | .clean _ => true
  | _ => false

/-- HEDGEROW_SCRUB (R425): the visit of one frame; a rewrite acts on the fabric at once, and a period of 0
disables it (0x2306.02). -/
def execHedgerowScrub (r : Region) (f : Fin 4160) (s : State) : Host.Outcome State Fault Refusal :=
  let x := s.region r.val
  .next (if x.configured ∧ (x.sheet = .down ∨ x.sheet = .raising) ∧ s.obj 0x2306 2 ≠ 0 ∧
        !(upFrom 0 16).all (s.frameClean r.val f.val) then
      (((upFrom 0 16).foldl (fun st w => st.scrubFrameWord r.val f.val w) s).frameChanged r.val).freeNext
    else s)

end Sys2Proof.Machine
end

