-- ==== Sys2Proof/Machine/Bell.lean ====
section
/-!
DEFINITION. The bell unit (R237 to R256): local messages, the messages of the tree, the two verdict
copies, requests, the fallow length, a lost bell, and alignment.
-/

namespace Sys2Proof.Machine

/-! ## The tree (R239, R256) -/

/-- Bell role of port `p`: 0 none, 1 parent, 2 child. -/
def State.bellRole (s : State) (p : Nat) : Nat := s.obj (0x2420 + p) 1

/-- Up stroke of port `p` (R256). -/
def State.bellUp (s : State) (p : Nat) : Nat := s.obj (0x2420 + p) 2

/-- Down stroke of port `p`, of copy 1 or of copy 2, 16 strokes later (R242, R256). -/
def State.bellDown (s : State) (p : Nat) (second : Bool) : Nat :=
  s.obj (0x2420 + p) 3 + (if second then 16 else 0)

/-- The parent port, if there is one. -/
def State.bellParent (s : State) : Option Nat := (upFrom 0 32).find? (fun p => s.bellRole p == 1)

/-- The child ports. -/
def State.bellChildren (s : State) : List Nat := (upFrom 0 32).filter (fun p => s.bellRole p == 2)

/-- Formation stroke F of the root (R241). -/
def State.bellForm (s : State) : Nat :=
  s.bellChildren.foldl (fun f p => max f (s.bellUp p + 3)) (s.obj 0x2401 1)

/-- R237: a valid message has VALID set and bit [7] clear. -/
def bellValid (b : BitVec 8) : Bool := bits b.toNat 6 2 == 1

/-- A message that counts as 0x41 when it is invalid or missing (R239). -/
def bellOr41 (o : Option (BitVec 8)) : BitVec 8 :=
  match o with
  | some b => if bellValid b then b else 0x41
  | none => 0x41

/-! ## Windows (R238) -/

/-- Change the window whose next stroke is `w`. -/
def mapWindow (w : Nat) (f : Window → Window) : List Window → List Window
  | [] => []
  | x :: t => if x.elapsed = w then f x :: t else x :: mapWindow w f t

/-- The window whose next stroke is `w`. -/
def State.windowAt (s : State) (w : Nat) : Option Window :=
  s.bell.windows.find? (fun x => x.elapsed == w)

/-- Replace the windows of the bell unit. -/
def State.setWindows (s : State) (ws : List Window) : State :=
  { s with bell := { s.bell with windows := ws } }

/-- Whether a standing request is set in the message of execution `e` (R246). -/
def asked (o : Option Nat) (e : Nat) : Bool :=
  match o with
  | some since => decide (since ≤ e)
  | none => false

/-- The PAUSE request that the message of execution `e` carries (R246). -/
def takePause (e : Nat) : List Pause → Bool × List Pause
  | [] => (false, [])
  | p :: t =>
    if p.since ≤ e ∧ p.carried = none then (true, { p with carried := some e } :: t)
    else
      let (b, r) := takePause e t
      (b, p :: r)

/-- The local message of execution `e` (R239), PAUSE apart. -/
def State.localByte (s : State) (e : Nat) : Nat :=
  64 + b2n (s.bell.fouls.contains e) + 2 * b2n (asked s.bell.stop e) + 4 * b2n (asked s.bell.refresh e) +
    8 * b2n (asked s.bell.swap e) + 16 * b2n (asked s.bell.thermal e)

/-- BELL_LOCAL_MESSAGE (R239): at window stroke Q. -/
def execBellLocalMessage (s : State) : Host.Outcome State Fault Refusal :=
  .next (match s.windowAt (s.obj 0x2401 1) with
    | none => s
    | some w =>
      let (pause, rest) := takePause w.exec s.bell.pauses
      let m := BitVec.ofNat 8 (s.localByte w.exec + 32 * b2n pause)
      let ws := mapWindow w.elapsed (fun x => { x with localMsg := some m }) s.bell.windows
      { s with bell := { s.bell with
                 windows := ws, pauses := rest, fouls := s.bell.fouls.filter (fun e => decide (w.exec < e)) } })

/-- The byte that port `p`'s group for the present stroke gives the bell unit (R240). -/
def State.bellByte (s : State) (p : Nat) : Option (BitVec 8) :=
  let (tag, f) := s.dueGroup p
  if !s.portUp p || (s.rxLane p 0).isNone then none
  else
    match (s.port p).frames.find? (fun e => e.1 == tag) with
    | some (_, h) =>
      if h.lane0Failed || decide (s.count < h.ready + f) then none
      else some (BitVec.ofNat 8 (getAt 0 h.groups f).toNat)
    | none => none

/-- The window stroke at which port `p` receives: an up message of a child, or a copy of the parent. -/
def State.bellRxStroke (s : State) (p : Nat) (second : Bool) : Option Nat :=
  match s.bellRole p with
  | 1 => some (s.bellDown p second)
  | 2 => if second then none else some (s.bellUp p)
  | _ => none

/-- Note a message in its window; one that is invalid is counted (0x2401.0B). -/
def State.takeBell (s : State) (w : Window) (p : Nat) (up : Bool) : State :=
  let b := s.bellByte p
  let m : BellRx := ⟨p, w.elapsed, b⟩
  let f := fun (x : Window) =>
    if up then { x with ups := x.ups ++ [m] } else { x with copies := x.copies ++ [m] }
  let s1 := s.setWindows (mapWindow w.elapsed f s.bell.windows)
  let ok := match b with
    | some v => bellValid v
    | none => false
  if ok then s1 else s1.bump 0x2401 0xB

/-- BELL_MESSAGE_RECEIVE (R240, R241). -/
def execBellMessageReceive (p : Port) (second : Bool) (s : State) : Host.Outcome State Fault Refusal :=
  .next (match s.bellRxStroke p.val second with
    | none => s
    | some t =>
      match s.windowAt t with
      | none => s
      | some w => s.takeBell w p.val (s.bellRole p.val == 2))

/-- The messages that are in the bell unit by window stroke `by'` (R241). -/
def held (by' : Nat) (ms : List BellRx) : List BellRx := ms.filter (fun m => decide (m.stroke + 3 ≤ by'))

/-- The message of child port `p`, as it stands by window stroke `by'`. -/
def childByte (w : Window) (by' p : Nat) : BitVec 8 :=
  match (held by' w.ups).find? (fun m => m.port == p) with
  | some m => bellOr41 m.byte
  | none => 0x41

/-- R239: the OR of the local message and the child messages. -/
def State.gatherBell (s : State) (w : Window) (by' : Nat) : BitVec 8 :=
  s.bellChildren.foldl (fun b p => b ||| childByte w by' p) (bellOr41 w.localMsg)

/-- The first valid copy among received copies (R242). -/
def firstValid : List BellRx → Option (BitVec 8)
  | [] => none
  | m :: t =>
    match m.byte with
    | some b => if bellValid b then some b else firstValid t
    | none => firstValid t

/-- Put a byte on port `p` for the present stroke (R240). -/
def State.sendBell (s : State) (p : Nat) (b : BitVec 8) : State :=
  { s with bell := { s.bell with tx := Tbl.put p b s.bell.tx } }

/-- BELL_UP_SEND (R239, R241). -/
def execBellUpSend (s : State) : Host.Outcome State Fault Refusal :=
  .next (match s.bellParent with
    | none => s
    | some p =>
      match s.windowAt (s.bellUp p) with
      | none => s
      | some w => s.sendBell p (s.gatherBell w (w.elapsed - 3)))

/-- BELL_ROOT_FORM (R241). -/
def execBellRootForm (s : State) : Host.Outcome State Fault Refusal :=
  .next (match s.bellParent, s.windowAt s.bellForm with
    | none, some w =>
      s.setWindows (mapWindow w.elapsed (fun x => { x with bell := some (s.gatherBell w w.elapsed) })
        s.bell.windows)
    | _, _ => s)

/-- The verdict that the module can pass on by window stroke `by'` (R242): 0x00 when it holds none. -/
def State.copyByte (s : State) (w : Window) (by' : Nat) : BitVec 8 :=
  match s.bellParent with
  | none => w.bell.getD 0
  | some _ => (firstValid (held by' w.copies)).getD 0

/-- VERDICT_COPY_SEND (R242). -/
def execVerdictCopySend (p : Port) (second : Bool) (s : State) : Host.Outcome State Fault Refusal :=
  .next (if s.bellRole p.val ≠ 2 then s
    else
      match s.windowAt (s.bellDown p.val second) with
      | none => s
      | some w => s.sendBell p.val (s.copyByte w (w.elapsed - 3)))

/-! ## Deciding (R82, R242, R245) -/

/-- What the bell unit delivers at a boundary: no rota decided, the bell of a rota, or a lost bell. -/
inductive Decision where
  | none
  | bell (w : Window) (byte : BitVec 8)
  | lost (w : Window)
  deriving DecidableEq, Repr

/-- The bell that a window holds: the root's own, or the first valid copy (R242). -/
def State.windowBell (s : State) (w : Window) : Option (BitVec 8) :=
  match s.bellParent with
  | none => w.bell
  | some _ => firstValid w.copies

/-- R82: the oldest window decides once its C × L strokes have passed. -/
def State.judge (s : State) : Decision :=
  match s.bell.windows with
  | [] => .none
  | w :: _ =>
    if w.elapsed < s.lag * s.rotaLen then .none
    else
      match s.windowBell w with
      | some b => .bell w b
      | none => .lost w

/-- The verdict that a bell byte gives for a rota (R237). -/
def bellVerdict (rota : Nat) (b : BitVec 8) : Verdict :=
  if b.getLsbD 0 then .foul rota else .clear rota

/-- One standing PAUSE request is honoured: the one that execution `e`'s message carried, or else the
oldest that waits. -/
def honourPause (e : Nat) (ps : List Pause) : List Pause :=
  if ps.any (fun p => p.carried == some e) then ps.filter (fun p => p.carried != some e)
  else
    match ps.find? (fun p => p.carried == none) with
    | some q => ps.erase q
    | none => ps

/-- A standing request ends when an applied bell carries its bit (R246). -/
def honour (bit : Bool) (o : Option Nat) : Option Nat := if bit then none else o

/-- The bookkeeping of an applied bell (R246, R248, 0x2401.04). -/
def State.recordBell (s : State) (w : Window) (b : BitVec 8) : State :=
  let n := b.toNat
  let s1 := s.setObj 0x2401 4 (w.rota % 2 ^ 56 + n <<< 56)
  let s1' := if bitAt n 2 then s1.answerRefresh else s1
  let s2 := s1'.setObj 0x2401 7 (if bitAt n 0 then satAdd 16 (s.obj 0x2401 7) 1 else 0)
  let u := s2.bell
  { s2 with bell := { u with
              stop := honour (bitAt n 1) u.stop, refresh := honour (bitAt n 2) u.refresh,
              swap := honour (bitAt n 3) u.swap, thermal := honour (bitAt n 4) u.thermal,
              pauses := if bitAt n 5 then honourPause w.exec u.pauses else u.pauses } }

/-- Every window under way is abandoned; the requests that their messages carried stand (R246). -/
def State.abandonWindows (s : State) : State :=
  { s with bell := { s.bell with
             windows := [], fouls := [], tx := [],
             pauses := s.bell.pauses.map (fun p => { p with carried := none }) } }

/-- The fallow length that a bell selects (R245). -/
def State.fallowLength (s : State) (b : BitVec 8) : Nat :=
  let n := b.toNat
  let foul := bitAt n 0
  let refresh := bitAt n 2
  let f1 := if foul then s.obj 0x2402 1 else 0
  let f2 := if refresh then (if foul then 2 * s.obj 0x2402 2 else s.obj 0x2402 2) else 0
  let f3 := if bitAt n 3 then 512 else 0
  let f4 := if bitAt n 4 then s.obj 0x2402 3 else 0
  let f5 := if bitAt n 5 then s.obj 0x2402 4 else 0
  max (max (max f1 f2) (max f3 f4)) f5

/-- Whether a bell carries a request bit (0x2402.06). -/
def bellRequests (b : BitVec 8) : Bool := bits b.toNat 2 4 != 0

/-! ## Commands (R246, R247) -/

/-- The STOP request (R247); a host stop also charges a foul cause. -/
def State.requestStop (s : State) : State :=
  match s.bell.stop with
  | some _ => s
  | none => { s with bell := { s.bell with stop := some s.requestExec } }

/-- A write of 0x2401.05 (R247). -/
def State.writeStop (s : State) (v : Nat) : WriteResult :=
  if v ≠ 1 then .error abInvalid
  else if s.dev ≠ .run then .error abState
  else .ok ((s.chargeFoul s.requestExec).requestStop)

/-- A write of 0x2401.06 (R246). -/
def State.writePause (s : State) (v : Nat) : WriteResult :=
  if v ≠ 1 then .error abInvalid
  else if s.dev ≠ .run then .error abState
  else .ok { s with bell := { s.bell with pauses := s.bell.pauses ++ [⟨s.requestExec, none⟩] } }

/-! ## Alignment (R251, R255) -/

/-- A write of 0x2403.02 (R251, R255). -/
def State.writeAlign (s : State) (v : Nat) : WriteResult :=
  let ahead := pattern 32 ((s.obj 0x2403 1 : Int) - s.nowNs)
  if v = 2 then .ok (if s.obj 0x2403 3 = 1 then s.setObj 0x2403 3 0 else s)
  else if v ≠ 1 then .error abInvalid
  else if ahead < 1000000 ∨ 4000000000 < ahead then .error abInvalid
  else if s.dev = .run ∨ !s.steepleLocked then .error abState
  else .ok ({ s with alignSpoiled := false }.setObj 0x2403 3 1)

/-- Whether steeple time has reached T_a: an armed T_a is at most 4 s ahead, and NS counts 2^32 ns (R251). -/
def State.alignDue (s : State) : Bool :=
  decide (pattern 32 (s.nowNs - (s.obj 0x2403 1 : Int)) < 2 ^ 32 - 4000000000)

/-- ALIGNMENT_STEP (R251): at the first stroke at or after T_a. -/
def execAlignmentStep (s : State) : Host.Outcome State Fault Refusal :=
  .next (if s.obj 0x2403 3 ≠ 1 ∨ !s.alignDue then s
    else if !s.steepleLocked ∨ s.alignSpoiled then s.setObj 0x2403 3 3
    else
      (upFrom 0 32).foldl (fun st p => if st.portState p = 0 then st else st.portTrain p)
        ({ s with count := 0 }.setObj 0x2403 3 2))

/-- A write of 0x2403.05 (R252, R255). -/
def State.writeStart (s : State) (v : Nat) : WriteResult :=
  if v = 2 then .ok s.cancelStart
  else if v ≠ 1 then .error abInvalid
  else if (s.dev = .set ∨ s.dev = .hold) ∧ s.obj 0x2403 3 = 2 ∧ s.allset.input ∧
      s.count + 65536 ≤ s.obj 0x2403 4 then
    .ok (s.setObj 0x2403 6 1)
  else .error abState

end Sys2Proof.Machine
end

