-- ==== Sys2Proof/Machine/Trough.lean ====
section
/-!
DEFINITION. Troughs and tallies (R307 to R332): positions and packets, the design side with its windows
and its replay, the far side's window, and the checks.
-/

namespace Sys2Proof.Machine

/-! ## Tallies (R324 to R331) -/

/-- Width of tally `n`. -/
def State.tallyWidth (s : State) (n : Nat) : Nat := s.obj (yObj n) 1

/-- A parameter of tally `n`, masked to its width (R324). -/
def State.tallyMasked (s : State) (n sub : Nat) : Nat := s.obj (yObj n) sub % 2 ^ s.tallyWidth n

/-- Feed bytes to tally `n` (R324). -/
def State.tallyFeed (s : State) (n : Nat) (bs : List Byte) : State :=
  let w := s.tallyWidth n
  let reg := crcBits w (s.tallyMasked n 2) (s.tallyMasked n 7) (byteBits (bitAt (s.obj (yObj n) 4) 0) bs)
  (s.setObj (yObj n) 7 reg).setObj (yObj n) 0xC ((s.obj (yObj n) 0xC + bs.length) % 2 ^ 64)

/-- The result of tally `n` (R324). -/
def State.tallyResult (s : State) (n : Nat) : Nat :=
  let w := s.tallyWidth n
  let reg := s.tallyMasked n 7
  (if bitAt (s.obj (yObj n) 4) 1 then reflect w reg else reg) ^^^ s.tallyMasked n 5

/-- Restart loads the initial value (R324). -/
def State.tallyRestart (s : State) (n : Nat) : State :=
  (s.setObj (yObj n) 7 (s.tallyMasked n 3)).setObj (yObj n) 0xC 0

/-- Bytes of the alive counter of tally `n`, or 0 when it is not enabled (R328, R331). -/
def State.aliveBytes (s : State) (n : Nat) : Nat :=
  let f := s.obj (yObj n) 4
  if bitAt f 2 then 2 ^ bits f 3 2 else 0

/-- The check at the last item of a checked packet (R328, R330): the tally takes the alive counter and
its result is compared with the whole item. -/
def State.tallyCheck (s : State) (n item : Nat) : State × Bool :=
  let a := s.aliveBytes n
  let s1 := s.tallyFeed n (leBytes a (s.obj (yObj n) 9))
  if s1.tallyResult n = item then
    (if a = 0 then s1 else s1.setObj (yObj n) 9 ((s1.obj (yObj n) 9 + 1) % 2 ^ (8 * a)), true)
  else (s1.bump (yObj n) 0xB, false)

/-- Tally `n` takes the snooped bytes that wait; every access to it is held until then (R325, R326). -/
def State.tallySettle (s : State) (n : Nat) : State :=
  match Tbl.get [] s.snooped n with
  | [] => s
  | bs => ({ s with snooped := Tbl.del n s.snooped }).tallyFeed n bs

/-- Whether tally `n` serves a checked trough (R327, R330). -/
def State.tallyServes (s : State) (n : Nat) : Bool :=
  s.objs.any (fun e => decide (0x5100 ≤ e.1 / 256) && decide (e.1 / 256 < 0x5200) && e.1 % 256 == 2 &&
    bitAt e.2 1 && bits e.2 4 4 == n)

/-- Whether a source object value names a source (R326). -/
def sourceOk (v : Nat) : Bool :=
  match v % 16 with
  | 0 => true
  | 1 => decide (v / 16 < 256)
  | 2 => decide (v / 16 < 8)
  | 3 => decide (1024 ≤ v / 16) && decide (v / 16 < 1152)
  | _ => false

/-- Write `v` to object `sub` of tally `n` (R327, R331). -/
def State.writeTally (s0 : State) (n sub v : Nat) : WriteResult :=
  let s := s0.tallySettle n
  let i := yObj n
  let w := s.tallyWidth n
  let config := fun (x : Nat) => if s.tallyServes n then .error abState else .ok (s.setObj i sub x)
  match sub with
  | 1 => if v = 0 ∨ 64 < v then .error abInvalid else config v
  | 2 => config (v % 2 ^ w)
  | 4 => if bits v 3 2 = 3 then .error abInvalid else config (v % 32)
  | 6 => if sourceOk v then config v else .error abInvalid
  | 0xA => if v = 1 then .ok (s.tallyRestart n) else .error abInvalid
  | 9 => .ok (s.setObj i 9 v)
  | _ => .ok (s.setObj i sub (v % 2 ^ w))

/-- What a write in tally window `n` answers (R325, R326): the feed at 0x0000, the result, which takes no write (R10),
at 0x0010, the running register at 0x0018, restart at 0x0020. -/
def State.tallyWindowWrite (s0 : State) (n off : Nat) (data : List (Byte × Bool)) : State × Nat :=
  let s := s0.tallySettle n
  let k := data.length
  let bs := (data.filter (·.2)).map (·.1)
  let whole := data.all (·.2)
  match off with
  | 0 =>
    if (k = 1 ∨ k = 2 ∨ k = 4) ∧ s.obj (yObj n) 6 % 16 = 0 then (s.tallyFeed n bs, opAck) else (s, opDecode)
  | 0x18 =>
    if k = 8 ∧ whole then (s.setObj (yObj n) 7 (leNat bs % 2 ^ s.tallyWidth n), opAck) else (s, opDecode)
  | 0x10 => if k = 8 then (s, opAck) else (s, opDecode)
  | 0x20 => if k ≤ 8 then (s.tallyRestart n, opAck) else (s, opDecode)
  | _ => (s, opDecode)

/-- What a read in tally window `n` answers (R325, R326); the feed, while the tally does not snoop, and the restart read zero
(R10). -/
def State.tallyWindowRead (s0 : State) (n off size : Nat) : State × Nat × List Byte :=
  let s := s0.tallySettle n
  match off with
  | 0x10 => if size = 8 then (s, opData, leBytes 8 (s.tallyResult n)) else (s, opDecode, [])
  | 0x18 => if size = 8 then (s, opData, leBytes 8 (s.tallyMasked n 7)) else (s, opDecode, [])
  | 0 => if size ≤ 8 ∧ s.obj (yObj n) 6 % 16 = 0 then (s, opData, leBytes size 0) else (s, opDecode, [])
  | 0x20 => if size ≤ 8 then (s, opData, leBytes size 0) else (s, opDecode, [])
  | _ => (s, opDecode, [])

/-- TALLY_SNOOP_FEED (R326): the tally takes the bytes of its source. Those of a trough or of a packet
initiator were kept when they moved; those of a DMA engine come with the command. -/
def execTallySnoopFeed (n : Fin 16) (data : List Byte) (s : State) : Host.Outcome State Fault Refusal :=
  .next (if s.obj (yObj n.val) 6 % 16 = 2 then (s.tallySettle n.val).tallyFeed n.val data
    else s.tallySettle n.val)

/-! ## Positions and packets (R307 to R310) -/

/-- Object index of trough `t` (R323). -/
def tObj (t : Nat) : Nat := 0x5100 + t

/-- The record of trough `t`. -/
def State.trough (s : State) (t : Nat) : TroughRec := Tbl.get .blank s.troughs t

/-- Replace the record of trough `t`. -/
def State.setTrough (s : State) (t : Nat) (x : TroughRec) : State :=
  { s with troughs := Tbl.set .blank s.troughs t x }

/-- The next bank start after position `p` (R308). -/
def nextBank (p : Nat) : Nat := (p / 512 * 512 + 512) % 2048

/-- Strokes from position `b` up to `a`, modulo 2,048 (R307). -/
def posSub (a b : Nat) : Nat := (a + 2048 - b) % 2048

/-- Slots of the two banks that the producer has used since the bank the consumer holds (R309). -/
def usedSlots (w r : Nat) : Nat := posSub w (r / 512 * 512)

/-- R309. -/
def troughFull (w r : Nat) : Bool := usedSlots w r == 1024

/-- Whether the item at position `p` ends its packet (R308). -/
def TroughRec.endsAt (x : TroughRec) (p : Nat) : Bool := x.eop.getLsbD (p % 1024) || p % 512 == 511

/-- The position after a pass over the item at `p` (R308). -/
def TroughRec.after (x : TroughRec) (p : Nat) : Nat := if x.endsAt p then nextBank p else (p + 1) % 2048

/-- Items from position `p` that lie below `limit` in the packet of `p`: at most `fuel`. -/
def TroughRec.packetLeft (x : TroughRec) (p limit : Nat) : Nat → Nat
  | 0 => 0
  | fuel + 1 =>
    if p = limit then 0 else if x.endsAt p then 1 else 1 + x.packetLeft ((p + 1) % 2048) limit fuel

/-- Whether the packet of position `p` is complete below `limit` (R310): the producer has left its
bank. -/
def packetWhole (p limit : Nat) : Bool := p / 512 != limit / 512

/-- R310: whether the consumer at `r` can pop, the producer being at `limit`. -/
def admissible (r limit thresh : Nat) : Bool :=
  r != limit && (packetWhole r limit || (thresh != 0 && thresh != 512 && decide (thresh ≤ limit % 512)))

/-- The threshold in force: a checked trough treats every one as 0 (R310). -/
def State.thresh (s : State) (t : Nat) : Nat := if bitAt (s.obj (tObj t) 2) 1 then 0 else s.obj (tObj t) 3

/-- Items that the consumer at `r` could still pop below `limit`: those of the packet of `r` and of the
one after it (R310, R321). -/
def State.admits (s : State) (t r limit : Nat) : Nat :=
  let x := s.trough t
  let th := s.thresh t
  if !admissible r limit th then 0
  else
    x.packetLeft r limit 512 +
      (if packetWhole r limit ∧ admissible (nextBank r) limit th then x.packetLeft (nextBank r) limit 512
        else 0)

/-- Address of slot of position `p` in the bank view (R317). -/
def itemAddr (t p : Nat) : Nat := troughBase t + 0x8000 + (p % 1024) * 8

/-- The stored item at position `p`. -/
def State.itemAt (s : State) (t p : Nat) : Nat := s.leAt (itemAddr t p) 8

/-- Store an item and its mark at position `p`. -/
def State.putItem (s : State) (t p item : Nat) (eop : Bool) : State :=
  let s1 := s.setLe (itemAddr t p) 8 item
  s1.setTrough t { s1.trough t with eop := setBit (s1.trough t).eop (p % 1024) eop }

/-- R311: skip what becomes available of a dropped packet: the position and mark, and how many items. -/
def skipDropped (x : TroughRec) (limit thresh : Nat) : Nat → Nat → Bool → Nat → Nat × Bool × Nat
  | 0, r, mark, n => (r, mark, n)
  | fuel + 1, r, mark, n =>
    if mark && admissible r limit thresh then
      skipDropped x limit thresh fuel (x.after r) (!x.endsAt r) (n + 1)
    else (r, mark, n)

/-- R311: the drop command of a consumer at `r`: position, mark and items discarded. It has an effect
only inside a packet. -/
def dropPacket (x : TroughRec) (r limit : Nat) (mark : Bool) : Nat × Bool × Nat :=
  if r % 512 = 0 then (r, mark, 0)
  else if packetWhole r limit then (nextBank r, false, x.packetLeft r limit 512)
  else (limit, true, posSub limit r)

/-! ## The design side (R313 to R316, R319 to R321) -/

/-- Direction of trough `t` (R319). -/
def State.troughDir (s : State) (t : Nat) : Nat := s.obj (tObj t) 1

/-- Whether trough `t` is strict (R315). -/
def State.troughStrict (s : State) (t : Nat) : Bool := bitAt (s.obj (tObj t) 2) 0

/-- Set the design side's position and the dropped mark of an inbound trough. -/
def State.setDesign (s : State) (t p : Nat) (mark : Bool) : State :=
  (s.setObj (tObj t) 7 p).setTrough t { s.trough t with mark := mark }

/-- Skip what a design-side consumer finds of a dropped packet (R311). -/
def State.designSkip (s : State) (t : Nat) : State :=
  let x := s.trough t
  let (r, m, n) := skipDropped x x.window (s.thresh t) 1024 (s.obj (tObj t) 7) x.mark 0
  if s.troughDir t = 1 ∧ x.mark then (s.setDesign t r m).bump (tObj t) 0xC n else s

/-- Stroke 0 of an executed rota (R314, R315): the window is latched from the far side's position, or
taken from the log on a replay of a trough that is not strict. -/
def State.troughStart (s : State) (t : Nat) : State :=
  let x := s.trough t
  let w := match s.replay && !s.troughStrict t, x.windows.find? (fun e => e.1 == s.rota) with
    | true, some (_, v) => v
    | _, _ => s.obj (tObj t) 5
  (s.setTrough t { x with window := w, windows := Tbl.put s.rota w x.windows, ops := [], results := [] }
    ).designSkip t

/-- A design-side pop (R310, R312, R315, R321): the result for the slot. -/
def State.designPop (s : State) (t : Nat) : State × TResult :=
  let x := s.trough t
  let r := s.obj (tObj t) 7
  let strict := s.troughStrict t
  if admissible r x.window (s.thresh t) then
    let s1 := s.setObj (tObj t) 7 (x.after r)
    let depth := if strict then 0 else s1.admits t (x.after r) x.window
    (s1, ⟨s.itemAt t r, 1 + 2 * b2n (x.endsAt r) + 4 * b2n (r % 512 == 0) + 16 * depth⟩)
  else
    let s1 := s.bump (tObj t) 9
    (if strict then s1.foul else s1, ⟨s.obj (tObj t) 4, 8⟩)

/-- A design-side drop (R311). -/
def State.designDrop (s : State) (t : Nat) : State :=
  let x := s.trough t
  let (r, m, n) := dropPacket x (s.obj (tObj t) 7) x.window x.mark
  (s.setDesign t r m).bump (tObj t) 0xC n

/-- A design-side push (R308, R315). -/
def State.designPush (s : State) (t item : Nat) (eop : Bool) : State :=
  let w := s.obj (tObj t) 7
  if troughFull w (s.trough t).window then (s.bump (tObj t) 0xA).fire (1068 + t) 0
  else
    let s1 := s.putItem t w item eop
    s1.setObj (tObj t) 7 ((s1.trough t).after w)

/-- Keep the result of a slot. -/
def State.keepResult (s : State) (t slot : Nat) (r : TResult) : State :=
  s.setTrough t { s.trough t with results := Tbl.put slot r (s.trough t).results }

/-- The pop or push of one operation of R320. -/
def State.designMove (s : State) (t : Nat) : Nat × Nat × Nat → State
  | (slot, code, item) =>
    if s.troughDir t = 1 then
      if code = 1 ∨ code = 3 then
        let (s1, r) := s.designPop t
        s1.keepResult t slot r
      else s
    else if code = 1 ∨ code = 3 then s.designPush t item (code == 3) else s

/-- The drop of one operation of R320. -/
def State.designRest (s : State) (t : Nat) : Nat × Nat × Nat → State
  | (_, code, _) => if s.troughDir t = 1 ∧ (code = 2 ∨ code = 3) then s.designDrop t else s

/-- The operations that take effect at this stroke (R313): pops and pushes, in slot order (DESIGN CHOICE, assumption
log 96), then the drops, which apply to the packet of the item popped last. -/
def State.designOps (s : State) (t : Nat) : State :=
  let ops := (s.trough t).ops
  let ordered := (upFrom 0 64).flatMap (fun i => ops.filter (fun o => o.1 == i))
  let moved := ordered.foldl (fun st o => st.designMove t o) (s.setTrough t { s.trough t with ops := [] })
  ordered.foldl (fun st o => st.designRest t o) moved

/-- The status quad of an outbound slot at the start of a stroke (R321). -/
def State.outStatus (s : State) (t : Nat) : Nat :=
  let w := s.obj (tObj t) 7
  let r := (s.trough t).window
  (1024 - usedSlots w r) * 16 + 2 ^ 15 * b2n (troughFull w r)

/-- The quad of a hand-off record (R319, R321). -/
def State.troughQuad (s : State) (t : Nat) (e : TSlot) : Nat :=
  let res := Tbl.get ⟨s.obj (tObj t) 4, 0⟩ (s.trough t).results e.slot
  match e.kind with
  | 1 => res.item % 2 ^ 32
  | 2 => res.item / 2 ^ 32
  | _ => if s.troughDir t = 1 then res.status else s.outStatus t

/-- The hand-offs of trough `t` at stroke `u`, of the kinds for which `sel` holds. -/
def State.troughHandOffs (s : State) (t u : Nat) (sel : TSlot → Bool) : State :=
  ((s.trough t).slots.filter (fun e => e.stroke == u && handedOff (s.troughDir t) e && sel e)).foldl
    (fun st e => st.handOff e.gport e.pquad (BitVec.ofNat 34 (st.troughQuad t e))) s

/-- One quad that trough `t` receives at the end of stroke `u`; an absent one reads as 0 (R164). -/
def State.troughIn (s : State) (u : Nat) (e : TSlot) : Nat := (s.agentQuad true u e.gport e.pquad).getD 0

/-- The item that an outbound slot receives beside its control (R319). -/
def State.slotItem (s : State) (t u slot : Nat) : Nat :=
  let part := fun k =>
    match (s.trough t).slots.find? (fun e => e.slot == slot && e.kind == k && e.stroke == u) with
    | some e => s.troughIn u e
    | none => 0
  part 1 + part 2 * 2 ^ 32

/-- A control record received at the end of stroke `u` (R320). -/
def State.troughControl (s : State) (t u : Nat) (e : TSlot) : State :=
  let code := bits (s.troughIn u e) (4 * e.nibble) 4
  let inbound := s.troughDir t == 1
  let valid := code == 1 || code == 3 || (inbound && code == 2)
  if code = 0 then s
  else if !valid then s.bump (tObj t) 0xD
  else
    let item := if inbound then 0 else s.slotItem t u e.slot
    s.setTrough t { s.trough t with ops := (s.trough t).ops ++ [(e.slot, code, item)] }

/-- What trough `t` receives at the end of stroke `u`. -/
def State.troughReceive (s : State) (t u : Nat) : State :=
  ((s.trough t).slots.filter (fun e => e.stroke == u && e.kind == 0)).foldl
    (fun st e => st.troughControl t u e) s

/-- The receptions (`rx`), or the operations and hand-offs, of every trough at stroke `u`. -/
def State.troughStroke (s : State) (u : Nat) (rx : Bool) : State :=
  s.troughs.foldl (fun st e =>
    if rx then st.troughReceive e.1 u
    else
      ((st.troughHandOffs e.1 u (fun _ => st.troughDir e.1 == 2)).designOps e.1).troughHandOffs e.1 u
        (fun _ => st.troughDir e.1 == 1)) s

/-- The far side's consumer skips what has become available of a dropped packet (R311). -/
def State.farSkip (s : State) (t : Nat) : State :=
  let x := s.trough t
  let (r, m, n) := skipDropped x (s.obj (tObj t) 6) (s.thresh t) 1024 (s.obj (tObj t) 5) x.mark 0
  if s.troughDir t = 2 ∧ x.mark then
    ((s.setObj (tObj t) 5 r).setTrough t { x with mark := m }).bump (tObj t) 0xC n
  else s

/-- The design side returns to its committed position (R316). -/
def State.troughBack (s : State) (t : Nat) : State :=
  let x := s.trough t
  let s1 := s.setObj (tObj t) 7 (s.obj (tObj t) 6)
  s1.setTrough t { x with mark := if s.troughDir t = 1 then x.markKept else x.mark, ends := [], ops := [] }

/-- A boundary after rota `n` with a verdict at trough `t` (R314, R316). -/
def State.troughVerdict (s : State) (n : Nat) (v : Verdict) (t : Nat) : State :=
  let x := s.trough t
  let ends := Tbl.put n (s.obj (tObj t) 7, x.mark) x.ends
  match v with
  | .none => s.setTrough t { x with ends := ends }
  | .foul _ => s.troughBack t
  | .clear k =>
    let (p, m) := Tbl.get (s.obj (tObj t) 6, x.markKept) ends k
    let inb : Bool := s.troughDir t == 1
    ((s.setObj (tObj t) 6 p).setTrough t
      { x with ends := ends.filter (fun e => e.1 != k), windows := x.windows.filter (fun e => decide (k < e.1)),
               markKept := if inb then m else x.markKept }).farSkip t

/-- A boundary at every trough. -/
def State.troughsVerdict (s : State) (n : Nat) (v : Verdict) : State :=
  s.troughs.foldl (fun st e => st.troughVerdict n v e.1) s

/-- Stroke 0 of a rota at every trough. -/
def State.troughsStart (s : State) : State := s.troughs.foldl (fun st e => st.troughStart e.1) s

/-- Every trough discards the uncommitted rotas (R98, R316). -/
def State.troughsBack (s : State) : State := s.troughs.foldl (fun st e => st.troughBack e.1) s

/-! ## The far side (R315 to R318) -/

/-- Discard the packet at hand after a failed check (R330). -/
def State.rejectPacket (s : State) (t p : Nat) : State :=
  ((s.setObj (tObj t) 5 (p / 512 * 512)).bump (tObj t) 0xB).fire (1068 + t) 1

/-- The far side's producer passes the item at its position (R308, R326, R330), stored already. -/
def State.farPass (s : State) (t : Nat) : State :=
  let x := s.trough t
  let p := s.obj (tObj t) 5
  let item := s.itemAt t p
  let s0 := s.snoop 1 t (leBytes 8 item)
  let flags := s.obj (tObj t) 2
  if !bitAt flags 1 then s0.setObj (tObj t) 5 (x.after p)
  else
    let n := bits flags 4 4
    let s1 := if p % 512 = 0 then s0.tallyRestart n else s0
    if x.endsAt p then
      match s1.tallyCheck n item with
      | (s2, true) => s2.setObj (tObj t) 5 (nextBank p)
      | (s2, false) => s2.rejectPacket t p
    else (s1.tallyFeed n (leBytes 8 item)).setObj (tObj t) 5 (x.after p)

/-- PUSH and PUSH_EOP (R308, R317). -/
def State.farPush (s : State) (t item : Nat) (eop : Bool) : State × Nat :=
  let p := s.obj (tObj t) 5
  if s.troughDir t ≠ 1 then (s, opDecode)
  else if troughFull p (s.obj (tObj t) 6) then (s.bump (tObj t) 0xA, opBusy)
  else ((s.putItem t p item eop).farPass t, opAck)

/-- POP (R310, R312, R317): the item, and POP_STATUS latched. -/
def State.farPop (s : State) (t : Nat) : State × Nat × List Byte :=
  let x := s.trough t
  let r := s.obj (tObj t) 5
  if s.troughDir t ≠ 2 then (s, opDecode, [])
  else if admissible r (s.obj (tObj t) 6) (s.thresh t) then
    let item := s.itemAt t r
    let st := 1 + 2 * b2n (x.endsAt r) + 4 * b2n (r % 512 == 0)
    (((s.snoop 1 t (leBytes 8 item)).setObj (tObj t) 5 (x.after r)).setTrough t { x with popStatus := st },
      opData, leBytes 8 item)
  else
    ((s.bump (tObj t) 9).setTrough t { x with popStatus := 0 }, opData, leBytes 8 (s.obj (tObj t) 4))

/-- DROP (R311, R317). -/
def State.farDrop (s : State) (t : Nat) : State × Nat :=
  if s.troughDir t ≠ 2 then (s, opDecode)
  else
    let x := s.trough t
    let (r, m, n) := dropPacket x (s.obj (tObj t) 5) (s.obj (tObj t) 6) x.mark
    (((s.setObj (tObj t) 5 r).setTrough t { x with mark := m }).bump (tObj t) 0xC n, opAck)

/-- Pass `n` items of a producer, the last marked EOP when `eop` (R318). A rejected check ends it: only
the last item of a packet can fail. -/
def State.farPublishItems (s : State) (t : Nat) (eop : Bool) : Nat → State
  | 0 => s
  | k + 1 =>
    let p := s.obj (tObj t) 5
    let x := s.trough t
    ((s.setTrough t { x with eop := setBit x.eop (p % 1024) (eop && k == 0) }).farPass t
      ).farPublishItems t eop k

/-- PUBLISH (R318). -/
def State.farPublish (s : State) (t v : Nat) : State × Nat :=
  let n := bits v 0 10
  let p := s.obj (tObj t) 5
  if s.troughDir t ≠ 1 ∨ n = 0 ∨ 512 < p % 512 + n ∨ troughFull p (s.obj (tObj t) 6) then (s, opDecode)
  else (s.farPublishItems t (bitAt v 16) n, opAck)

/-- Pass `n` items of a consumer without returning them (R318). -/
def State.farReleaseItems (s : State) (t : Nat) : Nat → State
  | 0 => s
  | k + 1 =>
    let p := s.obj (tObj t) 5
    ((s.snoop 1 t (leBytes 8 (s.itemAt t p))).setObj (tObj t) 5 ((s.trough t).after p)).farReleaseItems t k

/-- RELEASE (R318). -/
def State.farRelease (s : State) (t v : Nat) : State × Nat :=
  let n := bits v 0 10
  let left := (s.trough t).packetLeft (s.obj (tObj t) 5) (s.obj (tObj t) 6) 512
  if s.troughDir t ≠ 2 ∨ n = 0 ∨ left < n then (s, opDecode) else (s.farReleaseItems t n, opAck)

/-- A write in the bank view (R318): only by a producer, from W up to the end of W's bank. -/
def State.bankViewWrite (s : State) (t off : Nat) (data : List (Byte × Bool)) : State × Nat :=
  let p := s.obj (tObj t) 5 % 1024
  let lo := off / 8
  let hi := (off + data.length - 1) / 8
  if s.troughDir t ≠ 1 ∨ data = [] ∨ lo < p ∨ p / 512 * 512 + 512 ≤ hi then (s, opDecode)
  else
    (data.foldl (fun (st : State × Nat) e =>
      (if e.2 then st.1.setByte st.2 e.1 else st.1, st.2 + 1)) (s, troughBase t + 0x8000 + off) |>.1, opAck)

/-- Value of POSITIONS (R317). -/
def State.positions (s : State) (t : Nat) : Nat :=
  let x := s.trough t
  let mark := if s.troughDir t = 1 then x.markKept else x.mark
  s.obj (tObj t) 5 % 2048 + (s.obj (tObj t) 6 % 2048) <<< 16 + b2n mark <<< 32

/-- A write at offset `off` of trough window `t` (R317, R318); one of a location that takes none is discarded (R10). -/
def State.troughWindowWrite (s : State) (t off : Nat) (data : List (Byte × Bool)) : State × Nat :=
  let v := leNat (data.map (fun e => if e.2 then e.1 else 0))
  if 0x8000 ≤ off then
    if larderSize data.length ∧ off + data.length ≤ 0xA000 then s.bankViewWrite t (off - 0x8000) data else (s, opDecode)
  else if data.length ≠ 8 ∨ data.any (fun e => !e.2) then (s, opDecode)
  else
    match off with
    | 0 => s.farPush t v false
    | 8 => s.farPush t v true
    | 0x28 => s.farDrop t
    | 0x30 => s.farPublish t v
    | 0x38 => s.farRelease t v
    | 0x10 => (s, opAck)
    | 0x18 => (s, opAck)
    | 0x20 => (s, opAck)
    | _ => (s, opDecode)

/-- A read at offset `off` of trough window `t` (R317); what only takes writes reads zero (R10). -/
def State.troughWindowRead (s : State) (t off size : Nat) : State × Nat × List Byte :=
  if 0x8000 ≤ off then
    if larderSize size ∧ off + size ≤ 0xA000 then (s, opData, s.bytes (troughBase t + off) size) else (s, opDecode, [])
  else if size ≠ 8 then (s, opDecode, [])
  else
    match off with
    | 0x10 => s.farPop t
    | 0x18 => (s, opData, leBytes 8 (s.trough t).popStatus)
    | 0x20 => (s, opData, leBytes 8 (s.positions t))
    | _ => if off % 8 = 0 ∧ off < 0x40 then (s, opData, leBytes 8 0) else (s, opDecode, [])

/-- Command 1 of R323: reset of trough `t`. -/
def State.resetTrough (s : State) (t : Nat) : State :=
  let x := s.trough t
  (((s.setObj (tObj t) 5 0).setObj (tObj t) 6 0).setObj (tObj t) 7 0).setTrough t
    { x with mark := false, markKept := false, window := 0, windows := [], ends := [], ops := [],
             results := [] }

/-- Write `v` to object `sub` of trough `t` (R323): a new threshold can let items of a dropped packet become available,
which are skipped (R311). -/
def State.writeTrough (s : State) (t sub v : Nat) : WriteResult :=
  match sub with
  | 3 => if 512 < v then .error abInvalid else .ok (((s.setObj (tObj t) 3 v).farSkip t).designSkip t)
  | 8 =>
    if v ≠ 1 then .error abInvalid
    else if s.dev = .run then .error abState
    else .ok (s.resetTrough t)
  | _ => .ok (s.setObj (tObj t) sub v)

end Sys2Proof.Machine
end

