-- ==== Sys2Proof/Machine/Verger.lean ====
section
/-!
DEFINITION. The verger (R340 to R350): task records, dependence counts, ready and delay lists, the choice
of a task for a core, and the offers by dispatch and pre-empt.
-/

namespace Sys2Proof.Machine

/-! ## Task records (R341) -/

/-- The record of task `i`. -/
def State.task (s : State) (i : Nat) : Nat := (Tbl.get 0 s.tasks i).toNat

/-- Replace the record of task `i`. -/
def State.setTask (s : State) (i r : Nat) : State :=
  { s with tasks := Tbl.set 0 s.tasks i (BitVec.ofNat 256 r) }

/-- Fields of a task record (R341). -/
def tEntry (r : Nat) : Nat := bits r 64 48
def tPrio (r : Nat) : Nat := bits r 112 4
def tAffinity (r : Nat) : Option Nat := if bitAt r 120 then some (bits r 116 4) else none
def tPreemptible (r : Nat) : Bool := bitAt r 121
def tDelayUse (r : Nat) : Bool := bitAt r 122
def tDelayList (r : Nat) : Nat := bits r 123 2
def tState (r : Nat) : Nat := bits r 125 3
def tCount (r : Nat) : Nat := bits r 128 12
def tInit (r : Nat) : Nat := bits r 140 12
def tMask (r : Nat) : Nat := bits r 152 16
def tSuccBase (r : Nat) : Nat := bits r 168 14
def tSuccCount (r : Nat) : Nat := bits r 182 8
def tResume (r : Nat) : Bool := bitAt r 190
def tWake (r : Nat) : Nat := bits r 192 64

/-- A task record with its state, count and RESUME replaced. -/
def withState (r st : Nat) : Nat := putBits r 125 3 st
def withCount (r n : Nat) : Nat := putBits r 128 12 n
def withResume (r : Nat) (b : Bool) : Nat := putBits r 190 1 (b2n b)

/-- The bits of a record that a write leaves alone: AFFINITY, AFF_VALID, STATE, COUNT and RESUME are RO,
and bit 191 is reserved (R341, R342). -/
def taskRoMask : Nat :=
  (0x1F <<< 116) ||| (0x7 <<< 125) ||| (0xFFF <<< 128) ||| (0x3 <<< 190)

/-- Task states of R341. -/
def tsIdle : Nat := 0
def tsWaiting : Nat := 1
def tsDelayed : Nat := 2
def tsReady : Nat := 3
def tsRunning : Nat := 4

/-- Tasks in a state. -/
def State.tasksIn (s : State) (st : Nat) : List Nat :=
  (s.tasks.filter (fun e => tState e.2.toNat == st)).map (·.1)

/-! ## Cores as the verger sees them (R348) -/

/-- The record of core `k`. -/
def State.core (s : State) (k : Nat) : CoreRec := Tbl.get .rest s.cores k

/-- Replace the record of core `k`. -/
def State.setCore (s : State) (k : Nat) (c : CoreRec) : State :=
  { s with cores := Tbl.set .rest s.cores k c }

/-- Set or clear a bit of a core's interrupt cause, 0x5310+k.03 (R348). -/
def State.setCause (s : State) (k b : Nat) (v : Bool) : State :=
  s.setObj (0x5310 + k) 3 (putBits (s.obj (0x5310 + k) 3) b 1 (b2n v))

/-- R348: a core is idle when it holds no task and no dispatch is pending to it; a core held in reset is
none (assumption log 22). -/
def CoreRec.idle (c : CoreRec) : Bool := !c.held && c.task.isNone && !c.dispatch

/-- The state of core `k` in 0x5310+k.01 (R354). -/
def CoreRec.code (c : CoreRec) : Nat :=
  if c.held then 0 else if c.preempt.isSome then 3 else if c.task.isSome then 2 else 1

/-- Raise dispatch on core `k` (R348). -/
def State.dispatch (s : State) (k : Nat) : State :=
  (s.setCore k { s.core k with dispatch := true }).setCause k 0 true

/-- The priority of the task that core `k` runs. -/
def State.runningPrio (s : State) (k : Nat) : Nat :=
  match (s.core k).task with
  | some t => tPrio (s.task t)
  | none => 0

/-- Whether core `k` runs a task that a task of priority `prio` can pre-empt (R348). -/
def State.canPreempt (s : State) (prio k : Nat) : Bool :=
  match (s.core k).task with
  | some t => tPreemptible (s.task t) && decide (prio < tPrio (s.task t)) && (s.core k).preempt.isNone
  | none => false

/-- The core that R348 pre-empts among `ks`, in ascending order: the greatest PRIO, then the affinity
core, then the lowest number. -/
def State.victim (s : State) (aff : Option Nat) : List Nat → Option Nat
  | [] => none
  | k :: ks =>
    match s.victim aff ks with
    | none => some k
    | some j =>
      let pk := s.runningPrio k
      let pj := s.runningPrio j
      if pk < pj ∨ (pk = pj ∧ aff = some j) then some j else some k

/-- R348: the verger offers task `t` a core, `except` left out. -/
def State.offer (s : State) (t : Nat) (except : Option Nat) : State :=
  let r := s.task t
  let cores := (upFrom 0 16).filter (fun k => bitAt (tMask r) k && except != some k)
  let aff := tAffinity r
  let idle := cores.filter (fun k => (s.core k).idle)
  match aff.filter (fun k => idle.contains k), idle with
  | some k, _ => s.dispatch k
  | none, k :: _ => s.dispatch k
  | none, [] =>
    match s.victim aff (cores.filter (fun k => s.canPreempt (tPrio r) k)) with
    | some k => (s.setCore k { s.core k with preempt := some t }).setCause k 1 true
    | none => s

/-- Withdraw a pre-empt that is pending on core `k` (R349). -/
def State.withdraw (s : State) (k : Nat) : State :=
  match (s.core k).preempt with
  | some _ => (s.setCore k { s.core k with preempt := none }).setCause k 1 false
  | none => s

/-! ## Ready lists (R343, R347, R348) -/

/-- The ready list of priority `p`, head first. -/
def State.readyList (s : State) (p : Nat) : List Nat := Tbl.get [] s.ready p

/-- Replace the ready list of priority `p`. -/
def State.setReady (s : State) (p : Nat) (l : List Nat) : State :=
  { s with ready := Tbl.set [] s.ready p l }

/-- Task `t` enters READY, at the head or the tail of its list, and is offered a core (R343, R348). -/
def State.enterReady (s : State) (t : Nat) (head : Bool) : State :=
  let r := s.task t
  let p := tPrio r
  let l := s.readyList p
  ((s.setTask t (withState r tsReady)).setReady p (if head then t :: l else l ++ [t])).offer t none

/-- Take task `t` out of its ready list. -/
def State.leaveReady (s : State) (t : Nat) : State :=
  let p := tPrio (s.task t)
  s.setReady p ((s.readyList p).filter (· != t))

/-- The task that a ready list gives core `k`: the first with affinity to it, else the first (R347). -/
def State.pickFrom (s : State) (k : Nat) (l : List Nat) : Option Nat :=
  let mine := l.filter (fun t => bitAt (tMask (s.task t)) k)
  match mine.find? (fun t => tAffinity (s.task t) == some k) with
  | some t => some t
  | none => mine.head?

/-- R347: the task chosen for core `k`. -/
def State.choose (s : State) (k : Nat) : Option Nat :=
  (upFrom 0 16).findSome? (fun p => s.pickFrom k (s.readyList p))

/-- The head of the highest-priority list that admits core `k` (R348). -/
def State.headFor (s : State) (k : Nat) : Option Nat :=
  (upFrom 0 16).findSome? (fun p => (s.readyList p).find? (fun t => bitAt (tMask (s.task t)) k))

/-- R348: core `k` has become idle. -/
def State.becameIdle (s : State) (k : Nat) : State :=
  if (s.core k).idle then
    match s.headFor k with
    | some t => s.offer t none
    | none => s
  else s

/-! ## Delay lists (R350) -/

/-- Whether a wake value is due on delay list `j` (R350). -/
def State.wakeDue (s : State) (j wake : Nat) : Bool :=
  let src := s.obj 0x5301 (j + 1)
  match src % 4 with
  | 1 => decide (wake ≤ s.obj 0x2400 4)
  | 2 => decide (wake ≤ s.count >>> (src / 4))
  | 3 => decide ((s.nowNs + 2 ^ 32 - wake % 2 ^ 32) % 2 ^ 32 < 2 ^ 31)
  | _ => false

/-- A task before another on a delay list: by WAKE, ties in ascending task number (R350). -/
def State.insertWake (s : State) (t : Nat) : List Nat → List Nat
  | [] => [t]
  | u :: us => if tWake (s.task t) < tWake (s.task u) then t :: u :: us else u :: s.insertWake t us

/-- Delay list `j` (R350): the DELAYED tasks that name it. Tasks are listed in ascending number, so that
an equal WAKE keeps that order. -/
def State.delayList (s : State) (j : Nat) : List Nat :=
  ((s.tasksIn tsDelayed).filter (fun t => tDelayList (s.task t) == j)).foldl
    (fun l t => s.insertWake t l) []

/-- WAKE of the head of delay list `j`, all ones when it is empty (R354). -/
def State.headWake (s : State) (j : Nat) : Nat :=
  match s.delayList j with
  | [] => 2 ^ 64 - 1
  | t :: _ => tWake (s.task t)

/-- Move the due tasks at the head of a delay list to READY, in list order (R350). -/
def State.moveDue (s : State) (j : Nat) : List Nat → State
  | [] => s
  | t :: ts => if s.wakeDue j (tWake (s.task t)) then (s.enterReady t false).moveDue j ts else s

/-- Task `t` has reached a count of zero (R343, R350). -/
def State.reachZero (s : State) (t : Nat) : State :=
  let r := withCount (s.task t) 0
  let s1 := s.setTask t r
  if tDelayUse r ∧ !s1.wakeDue (tDelayList r) (tWake r) then s1.setTask t (withState r tsDelayed)
  else s1.enterReady t false

/-! ## Commands (R343, R345) -/

/-- R345: a command error changes nothing, is counted and raised. -/
def State.commandError (s : State) : State := (s.bump 0x5300 5).fire 1347 1

/-- R345: whether ARM refuses the record. -/
def State.armRefused (s : State) (r : Nat) : Bool :=
  decide (16384 < tSuccBase r + tSuccCount r) || tMask r == 0 ||
    (tDelayUse r && s.obj 0x5301 (tDelayList r + 1) % 4 == 0)

/-- ARM (R343). -/
def State.armTask (s : State) (t : Nat) : State :=
  let r := s.task t
  if tState r ≠ tsIdle ∨ s.armRefused r then s.commandError
  else
    let r1 := withResume (withCount r (tInit r)) false
    if tInit r = 0 then (s.setTask t r1).reachZero t else s.setTask t (withState r1 tsWaiting)

/-- A decrement of task `t` by `n` (R343). -/
def State.decrement (s : State) (t n : Nat) : State :=
  let r := s.task t
  if tState r = tsIdle then (s.bump 0x5300 6).fire 1347 0
  else if tState r ≠ tsWaiting then s.bump 0x5300 7
  else if n < tCount r then s.setTask t (withCount r (tCount r - n))
  else (if tCount r < n then s.bump 0x5300 7 else s).reachZero t

/-- SIGNAL (R343, R345). -/
def State.signalTask (s : State) (t n : Nat) : State := if n = 0 then s.commandError else s.decrement t n

/-- CANCEL (R343). -/
def State.cancelTask (s : State) (t : Nat) : State :=
  let r := s.task t
  if tState r = tsWaiting ∨ tState r = tsDelayed then s.setTask t (withState r tsIdle)
  else if tState r = tsReady then (s.leaveReady t).setTask t (withState r tsIdle)
  else s.commandError

/-- Entry `e` of the successor table (R340). -/
def State.successor (s : State) (e : Nat) : Nat := s.leAt (vergerBase + 0x20000 + 2 * e) 2 % 4096

/-- The core of an initiator, when it is one (R154, R345). -/
def coreOf (init : Nat) : Option Nat := if 1088 ≤ init ∧ init < 1104 then some (init - 1088) else none

/-- The core that a DONE or YIELD comes from, with its running task (R345). -/
def State.runner (s : State) (init : Nat) : Option (Nat × Nat) :=
  match coreOf init with
  | some k => (s.core k).task.map (fun t => (k, t))
  | none => none

/-- DONE (R343, R348, R349): each successor is decremented by 1, in table order. -/
def State.doneTask (s : State) (init : Nat) : State :=
  match s.runner init with
  | none => s.commandError
  | some (k, t) =>
    let r := s.task t
    let s1 := (s.withdraw k).setTask t (withState r tsIdle)
    let s2 := (s1.setCore k { s1.core k with task := none }).bump (0x5310 + k) 4
    ((upFrom (tSuccBase r) (tSuccCount r)).foldl (fun st e => st.decrement (st.successor e) 1) s2
      ).becameIdle k

/-- YIELD (R343, R348). -/
def State.yieldTask (s : State) (init : Nat) : State :=
  match s.runner init with
  | none => s.commandError
  | some (k, t) =>
    let s1 := (s.withdraw k).setTask t (withResume (s.task t) true)
    ((s1.setCore k { s1.core k with task := none }).enterReady t true).becameIdle k

/-- A word written to COMMAND (R345). -/
def State.command (s : State) (init w : Nat) : State :=
  let t := bits w 4 12
  match bits w 0 4 with
  | 1 => s.armTask t
  | 2 => s.signalTask t (bits w 16 12)
  | 3 => s.cancelTask t
  | 4 => s.doneTask init
  | 5 => s.yieldTask init
  | _ => s.commandError

/-- R347: a read of TAKE by core `k`. -/
def State.take (s : State) (k : Nat) : State × Nat :=
  let value := fun (t r : Nat) => t + b2n (tResume r) <<< 12 + 1 <<< 13 + tEntry r <<< 16
  match (s.core k).task with
  | some t => (s, value t (s.task t))
  | none =>
    let s1 := (s.setCore k { s.core k with dispatch := false }).setCause k 0 false
    match s1.choose k with
    | none => (s1, 0)
    | some t =>
      let r := s1.task t
      let r1 := putBits (withState r tsRunning) 116 5 (16 + k)
      let s2 := (s1.leaveReady t).setTask t r1
      (s2.setCore k { s2.core k with task := some t }, value t r)

/-! ## The window (R340, R342) -/

/-- A write at offset `off` of the verger window, but for one to COMMAND. One of a core to its TAKE, which is RO, is
discarded (R10). -/
def State.vergerWrite (s : State) (init off : Nat) (data : List (Byte × Bool)) : State × Nat :=
  let n := data.length
  let v := leNat (data.map (·.1))
  if data.any (fun e => !e.2) ∨ n = 0 ∨ off % n ≠ 0 then (s, opDecode)
  else if 0x20000 ≤ off ∧ off + n ≤ 0x28000 then
    if n = 2 ∨ n = 4 ∨ n = 8 then
      let mask := fun (st : State) (i : Nat) =>
        st.setLe (vergerBase + off + 2 * i) 2 (bits v (16 * i) 12)
      ((upFrom 0 (n / 2)).foldl mask s, opAck)
    else (s, opDecode)
  else if n ≠ 8 then (s, opDecode)
  else if off < 0x20000 then
    let t := off / 32
    let r := s.task t
    let lo := off % 32 * 8
    if tState r ≠ tsIdle then (s, opDecode)
    else
      let w := putBits r lo 64 v
      (s.setTask t ((w &&& (2 ^ 256 - 1 - taskRoMask)) ||| (r &&& taskRoMask)), opAck)
  else if (coreOf init).any (fun k => off == 0x31000 + k * 0x10) then (s, opAck)
  else (s, opDecode)

/-- A read at offset `off` of the verger window. -/
def State.vergerRead (s : State) (init off size : Nat) : State × Nat × List Byte :=
  if size = 0 ∨ off % size ≠ 0 then (s, opDecode, [])
  else if 0x20000 ≤ off ∧ off + size ≤ 0x28000 then
    if size = 2 ∨ size = 4 ∨ size = 8 then (s, opData, s.bytes (vergerBase + off) size)
    else (s, opDecode, [])
  else if size ≠ 8 then (s, opDecode, [])
  else if off < 0x20000 then (s, opData, leBytes 8 (bits (s.task (off / 32)) (off % 32 * 8) 64))
  else if off = 0x30000 then (s, opData, leBytes 8 0)
  else
    match coreOf init with
    | some k =>
      if off = 0x31000 + k * 0x10 then
        let (s1, v) := s.take k
        (s1, opData, leBytes 8 v)
      else (s, opDecode, [])
    | none => (s, opDecode, [])

/-! ## The command queue (R344, R346) -/

/-- Parts of a verger cycle, as strokes have 12 of them: at the stroke clock of 1.6 GHz 16, at 1.3 GHz 13 (R2). -/
def State.vergerCycle (s : State) : Nat := s.strokeClock

/-- Verger cycles that a command takes (R344): a DONE takes one more for every four successors. -/
def State.commandCycles (s : State) (init w : Nat) : Nat :=
  match bits w 0 4, s.runner init with
  | 4, some (_, t) => 1 + (tSuccCount (s.task t) + 3) / 4
  | _, _ => 1

/-- Replace the queue of the verger; its highest depth is kept (0x5300.04). -/
def State.setVerger (s : State) (v : VergerRec) : State := { s with verger := v }.peak 0x5300 4 v.queue.length

/-- A withheld write enters the queue when an entry is free, and is acknowledged (R346). -/
def State.vergerAdmit (s : State) : State :=
  match s.verger.held with
  | [] => s
  | (who, w) :: rest =>
    if s.verger.queue.length < 256 then
      (s.setVerger { s.verger with queue := s.verger.queue ++ [(who.init, w)], held := rest }).reply who opAck []
    else s

/-- The verger begins the oldest command of its queue, if it is free (R344). -/
def State.vergerBegin (s : State) : State :=
  match s.verger.queue with
  | [] => s
  | (init, w) :: rest =>
    if s.verger.busy ≠ 0 then s
    else
      let cost := s.commandCycles init w * s.vergerCycle
      (s.setVerger { s.verger with queue := rest, busy := cost }).vergerAdmit.command init w

/-- A word written to COMMAND (R345, R346): it enters the queue and is acknowledged, or, while the queue holds 256
commands, its WRITE_ACK is withheld. -/
def State.commandWrite (s : State) (who : Asker) (w : Nat) : State :=
  if s.verger.queue.length < 256 ∧ s.verger.held = [] then
    ((s.setVerger { s.verger with queue := s.verger.queue ++ [(who.init, w)] }).reply who opAck []).vergerBegin
  else s.setVerger { s.verger with held := s.verger.held ++ [(who, w)] }

/-- `time` parts of a cycle pass at the verger; a command that ends lets the next one begin in it. -/
def State.vergerPass (s : State) (time : Nat) : State :=
  let b := s.verger.busy
  if time < b then s.setVerger { s.verger with busy := b - time }
  else
    let s1 := (s.setVerger { s.verger with busy := 0 }).vergerBegin
    s1.setVerger { s1.verger with busy := s1.verger.busy - (time - b) }

/-- A stroke passes at the verger (R2, R344). -/
def State.vergerStroke (s : State) : State :=
  if s.verger.busy = 0 ∧ s.verger.queue = [] then s else s.vergerPass 12

/-! ## Rows -/

/-- DELAY_LIST_DUE (R350). -/
def execDelayListDue (j : Fin 4) (s : State) : Host.Outcome State Fault Refusal :=
  .next (s.moveDue j.val (s.delayList j.val))

/-- PRE_EMPT_OVERRUN (R349). -/
def execPreEmptOverrun (k : CoreNo) (s : State) : Host.Outcome State Fault Refusal :=
  .next (match (s.core k.val).preempt with
    | none => s
    | some t =>
      let s1 := ((s.withdraw k.val).bump 0x5300 9).fire 1347 2
      if tState (s1.task t) = tsReady then s1.offer t (some k.val) else s1)

/-! ## Objects (R337, R350, R354) -/

/-- The fields of a core that reset leaves (R337): it loses its caches and registers. -/
def CoreRec.atReset (c : CoreRec) : CoreRec :=
  { c with pc := BitVec.ofNat 64 (c.entry.getD 0), regs := [], csrs := [], reservation := none, wait := none, got := [],
           icache := [], dcache := [], mtip := false, task := none, dispatch := false, preempt := none }

/-- A core goes into reset (R337): its running task returns to READY with RESUME clear. -/
def State.resetCore (s : State) (k : Nat) : State :=
  let c := s.core k
  let s1 := (((s.dropUser (1088 + k)).setCore k { c.atReset with held := true }).setCause k 0 false).setCause k 1 false
  match c.task with
  | none => s1
  | some t => (s1.setTask t (withResume (s1.task t) false)).enterReady t false

/-- A core is released at its firmware entry (R337); its domain is then in use, so it is ON (R436). -/
def State.releaseCore (s : State) (k : Nat) : State :=
  let s1 := { s with power := { s.power with off := s.power.off.filter (fun d => d != 1100 + k) } }
  (s1.setCore k { (s1.core k).atReset with held := false }).becameIdle k

/-- A cache command (R354): bit 0 the instruction cache, bit 1 the data cache. -/
def State.cacheCommand (s : State) (k v : Nat) : State :=
  let c := s.core k
  s.setCore k { c with icache := if bitAt v 0 then [] else c.icache,
                       dcache := if bitAt v 1 then [] else c.dcache }

/-- Write `v` to object 0x5310+k.`sub` (R337, R354). In FAULT, which holds every core in reset (R413), a release is refused
(DESIGN CHOICE, assumption log 111). -/
def State.writeCore (s : State) (k sub v : Nat) : WriteResult :=
  match sub with
  | 6 => if v = 0 ∨ 3 < v then .error abInvalid else .ok (s.cacheCommand k v)
  | 7 =>
    if v = 1 then .ok (s.resetCore k)
    else if v ≠ 2 then .error abInvalid
    else if (s.core k).entry.isNone ∨ s.dev = .fault then .error abState
    else .ok (if (s.core k).held then s.releaseCore k else (s.resetCore k).releaseCore k)
  | _ => .ok (s.setObj (0x5310 + k) sub v)

/-- Write `v` to object 0x5300.`sub` (R354). -/
def State.writeVerger (s : State) (sub v : Nat) : WriteResult :=
  if sub = 8 ∧ (v < 1200 ∨ 1200000 < v) then .error abInvalid else .ok (s.setObj 0x5300 sub v)

/-- Write a tick source (R350, R354). -/
def State.writeTick (s : State) (sub v : Nat) : WriteResult :=
  if 31 < v / 4 then .error abInvalid
  else if s.delayList (sub - 1) ≠ [] then .error abState
  else .ok (s.setObj 0x5301 sub v)

/-- Write `v` to object 0x5320.`sub` (R354). -/
def State.writeScratch (s : State) (sub v : Nat) : WriteResult :=
  match sub with
  | 3 => if 86400000 < v then .error abInvalid else .ok (s.setObj 0x5320 3 v)
  | 4 => .ok (s.setObj 0x5320 4 (v % 16))
  | 5 => s.writeTest 8 v
  | _ => .ok (s.setObj 0x5320 sub v)

/-! ## The scratchpad (R338, R339) -/

/-- The block of the scratchpad's test that an access meets gives way at once (R147, R339). -/
def State.scratchYield (s : State) (off n : Nat) : State :=
  let t := s.test 8
  let hit := (upFrom off n).any (fun a => (a / 64) % 16 == t.unit &&
    ((a / 1024) * 8 + (a / 8) % 8) / 64 == t.block)
  if t.running && !t.yielded && hit then s.testYield 8 else s

/-- A read of the scratchpad (R338, R339): one access for each word, each counted as what it finds. -/
def State.scratchRead (s0 : State) (off n : Nat) : State × Nat × List Byte :=
  if 0x800000 < off + n then (s0, opDecode, [])
  else
    let s := s0.scratchYield off n
    let ws := upFrom ((scratchBase + off) / 8) ((off + n - 1) / 8 + 1 - off / 8)
    let bad := (ws.filter (fun w => s.readEcc w == .bad)).length
    let fixed := (ws.filter (fun w => match s.readEcc w with
      | .corrected _ => true
      | _ => false)).length
    let s1 := s.bump 0x5320 1 fixed
    if bad ≠ 0 then ((s1.bump 0x5320 2 bad).fire 1348 0, opUncorrectable, [])
    else (s1, opData, ((ws.flatMap (fun w => leBytes 8 (s.readEcc w).data)).drop (off % 8)).take n)

/-- Every reservation on a granule that a write of another requester meets is cleared (R336). -/
def State.breakReservations (s : State) (init off n : Nat) : State :=
  s.cores.foldl (fun st e =>
    match e.2.reservation with
    | some g =>
      if coreOf init ≠ some e.1 ∧ off / 64 ≤ g ∧ g ≤ (off + n - 1) / 64 then
        st.setCore e.1 { st.core e.1 with reservation := none }
      else st
    | none => st) s

/-! ## Snoop filters (R178) -/

/-- The snoop filter of home `t`. -/
def State.filterOf (s : State) (t : Nat) : List (Nat × Nat) :=
  if t < 1024 then (s.croft t).snoop
  else if t < 1028 then (s.cellar (t - 1024)).snoop
  else s.opn.snoopScratch

/-- Replace the snoop filter of home `t`. -/
def State.setFilter (s : State) (t : Nat) (f : List (Nat × Nat)) : State :=
  if t < 1024 then s.setCroft t { s.croft t with snoop := f }
  else if t < 1028 then s.setCellar (t - 1024) { s.cellar (t - 1024) with snoop := f }
  else { s with opn := { s.opn with snoopScratch := f } }

/-- Entries of the snoop filter of home `t`. -/
def filterSize (t : Nat) : Nat := if t < 1024 then 64 else if t < 1028 then 8192 else 4096

/-- A write invalidates the lines it meets in every core but the writer at once (R178, R334). -/
def State.invalidateNow (s : State) (t off n init : Nat) : State :=
  let hs := holdersIn (s.filterOf t) off n init
  if hs = [] then s
  else (s.uncacheAll t hs).setFilter t ((s.filterOf t).filter (fun e => !hs.contains e))

end Sys2Proof.Machine
end

