-- ==== Sys2Proof/Machine/Watch.lean ====
section
/-!
DEFINITION. Watch units (R355 to R382): samples, conditions, the sequencer, records and spill, serial
decoders, the mask test, histograms and persistence maps, and the window.
-/

namespace Sys2Proof.Machine

/-! ## Records and settings -/

/-- The record of watch unit `u`. -/
def State.watch (s : State) (u : Nat) : WatchRec := Tbl.get .rest s.watches u

/-- Replace the record of watch unit `u`. -/
def State.setWatch (s : State) (u : Nat) (w : WatchRec) : State :=
  { s with watches := Tbl.set .rest s.watches u w }

/-- Unit states (R382). -/
def State.watchState (s : State) (u : Nat) : Nat := s.obj (wObj u) 2

/-- Record width W in bits (R360). -/
def State.recordWidth (s : State) (u : Nat) : Nat := 64 * 2 ^ s.obj (wObj u + 1) 1

/-- Record size in bytes (R360): a tag of 8 bytes and the data. -/
def State.recordSize (s : State) (u : Nat) : Nat := 8 + s.recordWidth u / 8

/-- Processing mode (R382). -/
def State.watchMode (s : State) (u : Nat) : Nat := s.obj (wObj u + 6) 1

/-- Bytes of capture memory (R360). -/
def State.captureBytes (s : State) (u : Nat) : Nat := if s.watchMode u = 2 then 16252928 else 16777216

/-- Whether the unit spills (R365). -/
def State.spills (s : State) (u : Nat) : Bool := s.obj (wObj u + 1) 6 != 0

/-- Offsets of the window (R378). -/
def offLog : Nat := 0x1000000
def offProbe : Nat := 0x1010000
def offSelect : Nat := 0x1012000
def offCond : Nat := 0x1014000
def offMask : Nat := 0x1018000
def offTemplate : Nat := 0x1020000

/-! ## Probes and samples (R356 to R359) -/

/-- Whether channels of croft `c` read 0 (R357). -/
def CroftRec.probeDark (c : CroftRec) : Bool :=
  c.mode == 0 || c.sheet == .upHeld || c.sheet == .upLoadable || c.sheet == .lowering

/-- The signal of a probe channel entry (R356). -/
def CroftRec.probe (c : CroftRec) (entry : Nat) : Bool :=
  let i := entry % 1024
  match bits entry 10 2 with
  | 0 => (c.bp (i % 64)).out
  | 1 => c.arrival.getLsbD i
  | 2 =>
    let ch := c.ch (i / 8 % 4)
    (if bitAt i 2 then ch.slot1 else ch.slot0).getLsbD (i % 4)
  | _ => i == 1

/-- Whether an entry is accepted (R356). -/
def probeOk (entry : Nat) : Bool :=
  let i := entry % 1024
  entry / 4096 == 0 &&
  (match bits entry 10 2 with
    | 0 => decide (i < 64)
    | 1 => true
    | 2 => decide (i < 32)
    | _ => decide (i < 2))

/-- The value of probe input `i` of unit `u` (R357). -/
def State.probeInput (s : State) (u i : Nat) : Bool :=
  if u = 8 then
    match s.taps with
    | [_, old] => old.getLsbD i
    | _ => false
  else
    let c := s.croft (u * 128 + i / 32)
    if c.probeDark then false
    else if i % 32 = 0 then c.watch
    else c.probe (s.leAt (watchBase u + offProbe + 2 * i) 2)

/-- The peephole channels of every region (R292, R357). -/
def State.tapNow (s : State) : BitVec 768 :=
  if s.hedge.regions = [] then 0
  else (upFrom 0 768).foldl (fun b i => setBit b i (s.peephole (i / 64) (i % 64))) 0

/-- The synchroniser of unit 8 takes the signals of the present stroke (R357). -/
def State.tapStroke (s : State) : State := { s with taps := (s.tapNow :: s.taps).take 2 }

/-- The 512-bit sample (R358). -/
def State.sample (s : State) (u : Nat) : BitVec 512 :=
  (upFrom 0 512).foldl (fun b j =>
    setBit b j (s.probeInput u (s.leAt (watchBase u + offSelect + 2 * j) 2 % 4096))) 0

/-- The rota stroke of the present sample, when it is a rota sample (R359). -/
def State.rotaSample (s : State) : Option Nat :=
  match s.phase with
  | .rota t => if s.dev = .run then some t else none
  | _ => none

/-- Whether the present sample is eligible (R359). -/
def State.eligible (s : State) (u : Nat) : Bool :=
  let scope := s.obj (wObj u + 1) 4
  match s.rotaSample with
  | some _ => !s.replay || bitAt scope 1
  | none => bitAt scope 0

/-! ## Serial decoders (R371 to R374) -/

/-- An item: its field and value. -/
structure Item where
  field : Nat
  value : Nat
  deriving DecidableEq, Repr

/-- Start of a decoder's step with its new inputs. -/
def DecRec.at (d : DecRec) (inp : Nat) : DecRec := { d with prev := some inp }

/-- Whether input `i` changed to `v` in this decoder sample. -/
def DecRec.edge (d : DecRec) (inp i : Nat) (v : Bool) : Bool :=
  match d.prev with
  | some p => bitAt p i != bitAt inp i && bitAt inp i == v
  | none => false

/-- The item of a UART character whose bits, start bit lowest, are `c` (R371, R372). -/
def uartItem (param c : Nat) : List Item :=
  let nd := 5 + bits param 10 2
  let par := bits param 12 2
  let data := bits c 1 nd
  let np := if par = 0 then 0 else 1
  let stop := bitAt c (1 + nd + np)
  let ones := parity (nd + 1) (bits c 1 (nd + np))
  if c = 0 then [⟨15, 3⟩]
  else if !stop then [⟨15, 1⟩]
  else if (par = 1 ∧ ones) ∨ (par = 2 ∧ !ones) then [⟨15, 2⟩]
  else [⟨0, data⟩]

/-- One decoder sample of a UART (R372). `n` counts samples from the edge, `b` the bits read, `a` holds
them. -/
def uartStep (param : Nat) (d : DecRec) (inp : Nat) : DecRec × List Item :=
  let per := param % 1024
  let total := 2 + (5 + bits param 10 2) + (if bits param 12 2 = 0 then 0 else 1)
  let d1 := if !d.busy && d.edge inp 0 false then { d with busy := true, n := 0, a := 0, b := 0 } else d
  if !d1.busy then (d1.at inp, [])
  else
    let d2 := { d1 with n := d1.n + 1 }
    if d1.n ≠ per / 2 + d1.b * per then (d2.at inp, [])
    else
      let rx := bitAt inp 0
      if d1.b = 0 ∧ rx then ({ d2 with busy := false }.at inp, [])
      else
        let a := d1.a + b2n rx <<< d1.b
        if d1.b + 1 = total then ({ d2 with busy := false }.at inp, uartItem param a)
        else ({ d2 with a := a, b := d1.b + 1 }.at inp, [])

/-- One decoder sample of SPI (R372). `n` counts bits; `a` holds MOSI, `b` MISO. The value of the
CS-asserted item is `free`, for the manual gives none. -/
def spiStep (param free : Nat) (d : DecRec) (inp : Nat) : DecRec × List Item :=
  let ignore := bitAt param 8
  let len := bits param 2 5 + 1
  let cpol := bitAt param 0
  let cpha := bitAt param 1
  let clear := { d with n := 0, a := 0, b := 0 }
  if !ignore && d.edge inp 3 true then
    (clear.at inp, ⟨3, d.n⟩ :: (if d.n = 0 then [] else [⟨15, 4⟩]))
  else if !ignore && bitAt inp 3 then (clear.at inp, [])
  else
    let asserted := !ignore && d.edge inp 3 false
    let d0 := if asserted then clear else d
    let head : List Item := if asserted then [⟨2, free⟩] else []
    if !(d.edge inp 0 (cpol == cpha)) then (d0.at inp, head)
    else
      let put := fun (old : Nat) (bit : Bool) =>
        if bitAt param 7 then old + b2n bit <<< d0.n else old * 2 + b2n bit
      let a := put d0.a (bitAt inp 1)
      let b := put d0.b (bitAt inp 2)
      if d0.n + 1 = len then ({ d0 with n := 0, a := 0, b := 0 }.at inp, [⟨0, a⟩, ⟨1, b⟩] ++ head)
      else ({ d0 with n := d0.n + 1, a := a, b := b }.at inp, head)

/-- A byte with its ninth bit in [8] (R372). -/
def ninthValue (byte : Nat) (ninth : Bool) : Nat := byte + b2n ninth <<< 8

/-- A whole I2C byte: its items, and what comes next. -/
def i2cByte (d : DecRec) (byte : Nat) (ninth : Bool) : DecRec × List Item :=
  let v := ninthValue byte ninth
  if d.next = 0 then ({ d with next := 1 }, [⟨1, v⟩]) else (d, [⟨2, v⟩])

/-- A whole I3C byte (R371, R372). -/
def i3cByte (d : DecRec) (byte : Nat) (ninth : Bool) : DecRec × List Item :=
  let v := ninthValue byte ninth
  match d.next with
  | 0 =>
    ({ d with next := if byte = 0xFC ∧ !ninth then 2 else 1, write := !bitAt byte 0 }, [⟨1, v⟩])
  | 2 =>
    if 0x20 ≤ byte ∧ byte ≤ 0x27 then ({ d with next := 3 }, [⟨5, v⟩]) else ({ d with next := 1 }, [⟨2, v⟩])
  | 1 =>
    (d, ⟨3, v⟩ :: (if d.write && !parity 9 v then [⟨15, 6⟩] else []))
  | _ => (d, [])

/-- One decoder sample of I2C or I3C (R372). `n` counts the bits of the byte, `a` holds them; the bit read
at the clock rise of a START or STOP is none of a byte. `free` is the value of the items to which the
manual gives none. -/
def busStep (i3c : Bool) (free : Nat) (d : DecRec) (inp : Nat) : DecRec × List Item :=
  let scl := bitAt inp 0
  let steady := scl && (match d.prev with
    | some p => bitAt p 0
    | none => false)
  let partialErr : List Item := if 2 ≤ d.n ∧ d.n ≤ 8 ∧ d.next ≠ 3 then [⟨15, 5⟩] else []
  if steady && d.edge inp 1 false then
    if d.busy && d.next == 3 then (d.at inp, [])
    else
      ({ d with busy := true, n := 0, a := 0, next := 0 }.at inp,
        ⟨0, if i3c then free else b2n d.busy⟩ :: partialErr)
  else if steady && d.edge inp 1 true then
    ({ d with busy := false, n := 0, a := 0, next := 0 }.at inp, ⟨if i3c then 4 else 3, free⟩ :: partialErr)
  else if d.busy && d.edge inp 0 true then
    let sda := bitAt inp 1
    if d.n < 8 then ({ d with n := d.n + 1, a := d.a * 2 + b2n sda }.at inp, [])
    else
      let (d1, items) := if i3c then i3cByte d d.a sda else i2cByte d d.a sda
      ({ d1 with n := 0, a := 0 }.at inp, items)
  else (d.at inp, [])

/-- The items of a complete frame (R373); `t` reads the template table. -/
def frameItems (t : Nat → Nat → Nat) (frame : Nat) : List Item :=
  (upFrom 0 15).flatMap (fun f =>
    let w := t (0x10 + 4 * f) 4
    if bitAt w 13 then [⟨f, bits frame (bits w 0 8) (bits w 8 5 + 1)⟩] else [])

/-- One decoder sample of a template decoder (R373). `n` counts beats, `a` holds the frame. -/
def templateStep (t : Nat → Nat → Nat) (param sample : Nat) (d : DecRec) (inp : Nat) :
    DecRec × List Item :=
  let w := bits param 9 5 + 1
  let beat := bits sample (bits param 0 9) w
  let beats := t 8 2
  let finish := fun (n a : Nat) =>
    if beats ≤ n then ({ d with busy := false, n := 0, a := 0 }.at inp, frameItems t a)
    else ({ d with busy := true, n := n, a := a }.at inp, [])
  if !bitAt inp 0 then (d.at inp, [])
  else if d.busy then finish (d.n + 1) (d.a + beat <<< (d.n * w))
  else if (beat &&& t 4 4) = (t 0 4 &&& t 4 4) then finish 1 beat
  else (d.at inp, [])

/-- Whether decoder configuration `cfg` reads the present sample (R371). -/
def State.decoderReads (s : State) (cfg : Nat) : Bool :=
  !bitAt cfg 39 || s.rotaSample == some (bits cfg 40 10)

/-- One sample at decoder `i` of unit `u`. -/
def State.decode (s : State) (u i : Nat) (sample : BitVec 512) : DecRec × List Item :=
  let cfg := s.obj (wObj u + 5) (i + 1)
  let d := Tbl.get .rest (s.watch u).decoders i
  let inp := (upFrom 0 4).foldl (fun n j =>
    n + b2n (sample.getLsbD (bits cfg (3 + 9 * j) 9)) <<< j) 0
  let param := bits cfg 50 14
  let free := (Config.freeBits 64 (s.freeKey (2 ^ 40 + u * 16 + i))).toNat
  if !s.decoderReads cfg then (d, [])
  else
    match cfg % 8 with
    | 1 => uartStep param d inp
    | 2 => spiStep param free d inp
    | 3 => busStep false free d inp
    | 4 => busStep true free d inp
    | 5 => templateStep (fun o n => s.leAt (watchBase u + offTemplate + 512 * i + o) n) param
        sample.toNat d inp
    | _ => (d, [])

/-- Put an item into the decode log (R374). -/
def State.logItem (s : State) (u dec : Nat) (it : Item) : State :=
  let nx := s.obj (wObj u) 0xE
  let e := nx % 4096
  let word := s.count % 2 ^ 48 + it.field <<< 48 + dec <<< 52
  let s1 := (s.setLe (watchBase u + offLog + 16 * e) 8 word).setLe (watchBase u + offLog + 16 * e + 8) 8 it.value
  s1.setObj (wObj u) 0xE ((e + 1) % 4096 + (if e = 4095 then 4096 else nx / 4096 % 2 * 4096))

/-- Every decoder takes the sample; the items by decoder (R374: in decoder order, then field order). -/
def State.decodeAll (s : State) (u : Nat) (sample : BitVec 512) : State × List (Nat × Item) :=
  (upFrom 0 8).foldl (fun (st : State × List (Nat × Item)) i =>
    let (d, items) := st.1.decode u i sample
    let w := st.1.watch u
    let s1 := st.1.setWatch u { w with decoders := Tbl.set .rest w.decoders i d }
    let ordered := (upFrom 0 16).flatMap (fun f => items.filter (fun it => it.field == f))
    (ordered.foldl (fun x it => x.logItem u i it) s1, st.2 ++ ordered.map (fun it => (i, it)))) (s, [])

/-! ## Conditions (R366, R367) -/

/-- A 512-bit word of condition `i`: MASK at 0, VALUE at 64 (R378). -/
def State.condWord (s : State) (u i o : Nat) : BitVec 512 :=
  BitVec.ofNat 512 (s.leAt (watchBase u + offCond + 128 * i + o) 64)

/-- Whether a condition is true in the present sample, before occurrence counting (R366). -/
def State.condTrue (s : State) (u : Nat) (sample : BitVec 512) (items : List (Nat × Item)) (viol : Bool)
    (i : Nat) : Bool :=
  let c := s.obj (wObj u + 3) (i + 1)
  let b := s.obj (wObj u + 4) (i + 1)
  let mask := s.condWord u i 0
  let hit := (sample &&& mask) == (s.condWord u i 64 &&& mask)
  let dec := bits c 18 4
  let prior := fun (f : BitVec 512 → Bool) =>
    match (s.watch u).prev with
    | some p => f p
    | none => false
  let inRange := fun v => decide (b % 2 ^ 32 ≤ v) && decide (v ≤ b / 2 ^ 32)
  match c % 16 with
  | 1 => hit
  | 2 => !hit
  | 3 => prior (fun p => (~~~p &&& sample &&& mask) != 0)
  | 4 => prior (fun p => (p &&& ~~~sample &&& mask) != 0)
  | 5 => prior (fun p => ((p ^^^ sample) &&& mask) != 0)
  | 6 => inRange (bits sample.toNat (bits c 4 9) (bits c 13 5 + 1))
  | 7 => items.any (fun e => e.1 == dec && e.2.field == bits c 22 4 && inRange (e.2.value % 2 ^ 32))
  | 8 => items.any (fun e => e.1 == dec && e.2.field == 15)
  | 9 => (s.watch dec).since.contains 16
  | 10 => viol
  | 11 => true
  | _ => false

/-- The occurrence counters after a sample, and the conditions that fire (R367). -/
def State.occurrences (s : State) (u : Nat) (isTrue : Nat → Bool) : Tbl Nat × List Nat :=
  (upFrom 0 16).foldl (fun (acc : Tbl Nat × List Nat) i =>
    if !isTrue i then acc
    else
      let goal := max 1 (bits (s.obj (wObj u + 3) (i + 1)) 26 24)
      let n := Tbl.get 0 acc.1 i + 1
      if goal ≤ n then (Tbl.set 0 acc.1 i 0, acc.2 ++ [i]) else (Tbl.set 0 acc.1 i n, acc.2))
    ((s.watch u).counts, [])

/-- Sequencer state word `i` (R382). -/
def State.seqWord (s : State) (u i : Nat) : Nat := s.obj (wObj u + 2) (i + 1)

/-- Whether sequencer state `i` is FINAL. -/
def State.seqFinal (s : State) (u i : Nat) : Bool := bitAt (s.seqWord u i) 40

/-- The move of the sequencer (R368): the next state and the set that caused it. -/
def State.seqMove (s : State) (u : Nat) (fires : List Nat) : Option (Nat × List Nat) :=
  let w := s.seqWord u (s.obj (wObj u) 0xC)
  let a := fires.filter (fun i => bitAt w i)
  let b := fires.filter (fun i => bitAt w (20 + i))
  if a ≠ [] then some (bits w 16 4, a) else if b ≠ [] then some (bits w 36 4, b) else none

/-! ## Records (R360 to R365) -/

/-- The tag of a record (R361). -/
def State.recordTag (s : State) (gap trig : Bool) (owner : Nat) : Nat :=
  let stroke := s.rotaSample.getD 0
  s.count % 2 ^ 36 + (stroke % 1024) <<< 36 + b2n (s.rotaSample.isSome && s.replay) <<< 46 +
    b2n s.rotaSample.isNone <<< 47 + b2n gap <<< 48 + b2n trig <<< 49 + (owner % 16) <<< 50

/-- Places of the staging buffer (R365). -/
def State.stagePlaces (s : State) (u : Nat) : Nat := s.captureBytes u / s.recordSize u

/-- Store the present sample as the next record (R362 to R365). A record that the full staging buffer
cannot take is dropped; the place of a dropped trigger record stays empty. -/
def State.storeRecord (s : State) (u : Nat) (sample : BitVec 512) (trig : Bool) (owner : Nat) : State :=
  let w := s.watch u
  let size := s.recordSize u
  let depth := max 1 (s.obj (wObj u) 4)
  let idx := w.placed % depth
  let data := sample.toNat % 2 ^ s.recordWidth u
  if s.spills u ∧ s.stagePlaces u ≤ w.staged.length then
    let s1 := ((s.bump (wObj u) 0xD).setObj (wObj u) 3 (s.obj (wObj u) 3 ||| 16)).fire (1324 + u) 2
    s1.setWatch u { w with gap := true, placed := if trig then w.placed + 1 else w.placed }
  else
    let place := if s.spills u then w.stages % s.stagePlaces u else idx
    let at' := watchBase u + place * size
    let s1 := (s.setLe at' 8 (s.recordTag w.gap trig owner)).setLe (at' + 8) (size - 8) data
    let wrapped := decide (w.placed ≠ 0 ∧ idx = 0)
    let s2 := (s1.setObj (wObj u) 5 idx).setObj (wObj u) 3 (s.obj (wObj u) 3 ||| b2n wrapped)
    s2.setWatch u { w with placed := w.placed + 1, last := some data, gap := false,
                           staged := if s.spills u then w.staged ++ [(place, idx)] else [],
                           stages := w.stages + 1 }

/-- Leave RUNNING or POST for DONE, or DRAINING while records are staged (R363). -/
def State.watchFinish (s : State) (u : Nat) (event : Bool) : State :=
  if (s.watch u).staged ≠ [] then s.setObj (wObj u) 2 3
  else
    let s1 := s.setObj (wObj u) 2 4
    if event then s1.fire (1324 + u) 1 else s1

/-- The trigger (R363, R368 to R370). `owner` is 255 when it was forced. -/
def State.trigger (s : State) (u : Nat) (sample : BitVec 512) (owner : Nat) (set' : Nat) : State :=
  let w := s.watch u
  let i := wObj u
  let t := w.placed % max 1 (s.obj i 4)
  let s1 := ((((s.setObj i 6 t).setObj i 8 (s.count % 2 ^ 64)).setObj i 9
    (if s.rotaSample.isSome then s.rota % 2 ^ 64 else 2 ^ 64 - 1)).setObj i 0xA owner).setObj i 0xB set'
  let s2 := if owner = 255 then s1.setObj i 3 (s1.obj i 3 ||| 4) else s1
  let s3 := (s2.storeRecord u sample true (if owner = 255 then 0 else owner)).fire (1324 + u) 0
  let s4 := (s3.setWatch u { s3.watch u with triggered := true, since := 0 :: (s3.watch u).since, force := false }).setObj i 2 2
  if s.obj (wObj u + 1) 2 = 0 then s4.watchFinish u true else s4

/-- Whether the store mode takes an eligible sample (R362). -/
def State.storeTakes (s : State) (u : Nat) (sample : BitVec 512) (isTrue : Nat → Bool) : Bool :=
  let m := s.obj (wObj u + 1) 3
  match m % 4 with
  | 0 => true
  | 1 => isTrue (bits m 4 4)
  | _ => (s.watch u).last != some (sample.toNat % 2 ^ s.recordWidth u)

/-- An eligible sample that is not the trigger record: it is stored, or leaves a gap. -/
def State.storeMaybe (s : State) (u : Nat) (sample : BitVec 512) (isTrue : Nat → Bool) : State × Bool :=
  if s.storeTakes u sample isTrue then
    let before := (s.watch u).placed
    let s1 := s.storeRecord u sample false 0
    (s1, (s1.watch u).placed != before)
  else (s.setWatch u { s.watch u with gap := true }, false)

/-- An eligible sample in RUNNING (R366 to R369). -/
def State.sampleRunning (s : State) (u : Nat) (sample : BitVec 512) (isTrue : Nat → Bool) : State :=
  let (counts, fires) := s.occurrences u isTrue
  let cur := s.obj (wObj u) 0xC
  let move := s.seqMove u fires
  let nxt := (move.map (·.1)).getD cur
  let s1 := (s.setWatch u { s.watch u with counts := if nxt = cur then counts else [] }).setObj (wObj u) 0xC nxt
  match move with
  | some (n, set') =>
    if n ≠ cur ∧ s.seqFinal u n then
      s1.trigger u sample (set'.head?.getD 0) (set'.foldl (fun m i => m ||| (1 <<< i)) 0)
    else if (s.watch u).force then s1.trigger u sample 255 0
    else (s1.storeMaybe u sample isTrue).1
  | none =>
    if (s.watch u).force then s1.trigger u sample 255 0 else (s1.storeMaybe u sample isTrue).1

/-- An eligible sample in POST (R363, R364): a post-trigger record, until P of them are stored. -/
def State.samplePost (s : State) (u : Nat) (sample : BitVec 512) (isTrue : Nat → Bool) : State :=
  let p := s.obj (wObj u + 1) 2
  let n := s.obj (wObj u) 7
  if p ≤ n then s
  else
    match s.storeMaybe u sample isTrue with
    | (s1, false) => s1
    | (s1, true) =>
      let s2 := s1.setObj (wObj u) 7 (n + 1)
      if n + 1 = s.obj (wObj u) 4 then s2.setObj (wObj u) 3 (s2.obj (wObj u) 3 ||| 2) else s2

/-! ## Mask test, histograms and persistence maps (R375 to R377) -/

/-- The bits that fail the mask in the present sample (R375): 0 outside processing mode 1 and for a
sample that is no rota sample. -/
def State.maskDiff (s : State) (u : Nat) (sample : BitVec 512) : Nat :=
  match s.watchMode u, s.rotaSample with
  | 1, some t =>
    let a := watchBase u + offMask + 16 * t
    (sample.toNat % 2 ^ 64 ^^^ s.leAt (a + 8) 8) &&& s.leAt a 8
  | _, _ => 0

/-- A violation is counted, raised and recorded, and may set STOP (R375, R376). -/
def State.maskViolation (s : State) (u diff : Nat) : State :=
  let i := wObj u + 6
  let s1 := (s.bump i 3).fire (1324 + u) 3
  let s2 :=
    if (s.watch u).violated then s1
    else
      ((s1.setObj i 4 (s.rotaSample.getD 0 + (s.rota % 2 ^ 54) <<< 10)).setObj i 5 diff).setWatch u
        { s1.watch u with violated := true }
  if s.obj i 2 = 1 then s2.requestStop else s2

/-- Increment a 32-bit counter of the processing memory (R377). -/
def State.bumpCounter (s : State) (a : Nat) : State := s.setLe a 4 (satAdd 32 (s.leAt a 4) 1)

/-- An eligible sample in processing mode 2 (R377). -/
def State.accumulate (s : State) (u : Nat) (sample : BitVec 512) (isTrue : Nat → Bool) : State :=
  let f := s.obj (wObj u + 6) 6
  let c := s.obj (wObj u + 6) 7
  let bin := bits sample.toNat (f % 512) (bits f 9 4 + 1)
  let s1 := if bitAt c 4 && !isTrue (c % 16) then s
    else s.bumpCounter (watchBase u + 0xF80000 + 4 * bin)
  match s.rotaSample with
  | none => s1
  | some t =>
    let s2 := (upFrom 0 64).foldl (fun st j =>
      if sample.getLsbD j then st.bumpCounter (watchBase u + 0xFC0000 + 4 * (64 * t + j)) else st) s1
    if t = 0 then s2.setObj (wObj u + 6) 8 ((s2.obj (wObj u + 6) 8 + 1) % 2 ^ 64) else s2

/-! ## One stroke -/

/-- The sample of unit `u` at the end of a stroke (R358). -/
def State.watchSample (s : State) (u : Nat) : State :=
  let st := s.watchState u
  if st = 0 then s
  else
    let sample := s.sample u
    let diff := s.maskDiff u sample
    let s1 := if diff = 0 then s else s.maskViolation u diff
    if !s1.eligible u then s1
    else
      let live := st = 1 ∨ (st = 2 ∧ s1.obj (wObj u) 7 < s1.obj (wObj u + 1) 2)
      let (s2, items) := if live then s1.decodeAll u sample else (s1, [])
      let isTrue := s2.condTrue u sample items (diff != 0)
      let s3 := if s.watchMode u = 2 then s2.accumulate u sample isTrue else s2
      let s4 := if st = 1 then s3.sampleRunning u sample isTrue
        else if st = 2 then s3.samplePost u sample isTrue else s3
      s4.setWatch u { s4.watch u with prev := some sample }

/-- A stroke at unit `u`: STOPPED is set at the stroke after a stop (R363), and the strokes since its
trigger records pass (R366). -/
def State.watchTick (s : State) (u : Nat) : State :=
  let w := s.watch u
  let s1 := s.setWatch u { w with stopping := false, since := (w.since.map (· + 1)).filter (fun n => decide (n ≤ 16)) }
  if w.stopping then s1.setObj (wObj u) 3 (s1.obj (wObj u) 3 ||| 8) else s1

/-- Every watch unit at the end of a stroke. -/
def State.watchStroke (s : State) : State :=
  let s1 := (upFrom 0 9).foldl (fun st u => st.watchTick u) s
  ((upFrom 0 9).foldl (fun st u => st.watchSample u) s1).tapStroke

/-- R370: a verdict at unit `u`. -/
def State.watchVerdict (s : State) (v : Verdict) (u : Nat) : State :=
  let rota := s.obj (wObj u) 9
  let flag := fun b => s.setObj (wObj u) 3 (s.obj (wObj u) 3 ||| b)
  if !(s.watch u).triggered ∨ rota = 2 ^ 64 - 1 then s
  else
    match v with
    | .none => s
    | .foul k => if k ≤ rota then flag 64 else s
    | .clear k => if k = rota then flag 32 else s

/-- A verdict at every watch unit. -/
def State.watchesVerdict (s : State) (v : Verdict) : State :=
  (upFrom 0 9).foldl (fun st u => st.watchVerdict v u) s

/-! ## Commands (R363, R365, R369) -/

/-- The abort of an arm command (R365), if it has one. -/
def State.armAbort (s : State) (u : Nat) : Option Nat :=
  let base := s.obj (wObj u + 1) 5
  let size := s.obj (wObj u + 1) 6
  let bad := base % 65536 ≠ 0 ∨ size % 65536 ≠ 0 ∨ size < 2 ^ 20 ∨ 0x1800000000 < base + size
  if s.spills u ∧ bad then some abInvalid
  else if !(s.watchState u = 0 ∨ s.watchState u = 4) ∨ s.seqFinal u 0 then some abState
  else if s.spills u ∧ (upFrom 0 4).any (fun n => (s.cellar n).regions.any (fun r =>
      decide (8 * r.1 < base + size) && decide (base < 8 * (r.1 + r.2)))) then some abState
  else none

/-- Objects of a unit that arming clears (R363). -/
def State.watchClear (s : State) (u : Nat) (subs : List Nat) : State :=
  subs.foldl (fun st i => st.setObj (wObj u) i (objDefault (wObj u) i)) s

/-- Arm (R363). -/
def State.watchArm (s : State) (u : Nat) : WriteResult :=
  match s.armAbort u with
  | some a => .error a
  | none =>
    let s1 := s.watchClear u [3, 5, 6, 7, 8, 9, 0xA, 0xB, 0xC, 0xE]
    let s2 := ((s1.setObj (wObj u + 6) 4 0).setObj (wObj u + 6) 5 0).setObj (wObj u + 6) 8 0
    let depth := (if s.spills u then s.obj (wObj u + 1) 6 else s.captureBytes u) / s.recordSize u
    let s3 := ((s2.zeroRange (watchBase u) (watchBase u + offProbe)).setObj (wObj u) 4 depth).setObj (wObj u) 2 1
    .ok (s3.setWatch u { WatchRec.rest with since := (s.watch u).since })

/-- Stop (R363). -/
def State.watchStop (s : State) (u : Nat) : WriteResult :=
  if s.watchState u = 1 ∨ s.watchState u = 2 then
    .ok ((s.setWatch u { s.watch u with stopping := true }).watchFinish u false)
  else .error abState

/-- Force trigger (R369). -/
def State.watchForce (s : State) (u : Nat) : WriteResult :=
  if s.watchState u = 1 then .ok (s.setWatch u { s.watch u with force := true }) else .error abState

/-- Reset (R363): pointers and flags are cleared, memory is kept. -/
def State.watchReset (s : State) (u : Nat) : State :=
  (s.watchClear u [2, 3, 5, 6, 7, 0xE]).setWatch u { WatchRec.rest with since := (s.watch u).since }

/-- A write of Wb.01 (R382). -/
def State.writeWatchCommand (s : State) (u v : Nat) : WriteResult :=
  match v with
  | 1 => s.watchArm u
  | 2 => s.watchForce u
  | 3 => s.watchStop u
  | 4 => .ok (s.watchReset u)
  | _ => .error abInvalid

/-- Whether the settings take writes (R379). -/
def State.watchWritable (s : State) (u : Nat) : Bool := s.watchState u == 0 || s.watchState u == 4

/-- Whether a value of a setting is accepted (R360 to R377), and the value without its reserved bits. -/
def watchSetting (u off sub v : Nat) : Option Nat :=
  match off with
  | 1 =>
    match sub with
    | 1 => if v < 4 then some v else none
    | 3 => if v % 4 = 3 then none else some (v % 4 + bits v 4 4 * 16)
    | 4 => some (v % 4)
    | _ => some v
  | 2 => some (v % 2 ^ 41)
  | 3 =>
    let dec := bits v 18 4
    if 12 ≤ v % 16 ∨ 512 < bits v 4 9 + bits v 13 5 + 1 ∨ (v % 16 = 9 ∧ (dec = u ∨ 8 < dec)) then none
    else some (v % 2 ^ 50)
  | 5 =>
    let p := bits v 50 14
    if v % 8 = 6 ∨ v % 8 = 7 ∨ (v % 8 = 1 ∧ (p % 1024 = 0 ∨ bits p 12 2 = 3)) then none else some v
  | 6 =>
    match sub with
    | 1 => if v < 3 then some v else none
    | 2 => if v < 2 then some v else none
    | 6 => if 512 < v % 512 + bits v 9 4 + 1 then none else some (v % 8192)
    | 7 => some (v % 32)
    | _ => some v
  | _ => some v

/-- Write `v` to object Wb+`off`.`sub` (R379, R382). -/
def State.writeWatch (s : State) (u off sub v : Nat) : WriteResult :=
  if off = 0 then s.writeWatchCommand u v
  else
    match watchSetting u off sub v with
    | none => .error abInvalid
    | some x => if s.watchWritable u then .ok (s.setObj (wObj u + off) sub x) else .error abState

/-! ## Events -/

/-- POST_COMPLETE (R363): P records stand after the trigger record. -/
def execPostComplete (u : WatchUnit) (s : State) : Host.Outcome State Fault Refusal :=
  .next (if s.watchState u.val = 2 ∧ s.obj (wObj u.val + 1) 2 ≤ s.obj (wObj u.val) 7 then
      s.watchFinish u.val true
    else s)

/-- The staged bytes that one 64-byte write takes (R365): from the first staged record on, up to a
64-byte boundary of the ring region; `room` bytes are left in the write. -/
def State.spillBytes (s : State) (u : Nat) : Nat → Nat → List (Nat × Nat) → List (Nat × Byte) × List (Nat × Nat) × Nat
  | 0, sent, st => ([], st, sent)
  | _ + 1, _, [] => ([], [], 0)
  | room + 1, sent, (place, idx) :: rest =>
    let size := s.recordSize u
    let a := s.obj (wObj u + 1) 5 + idx * size + sent
    let b := s.byte (watchBase u + place * size + sent)
    let last := sent + 1 = size
    let follows := match rest with
      | (_, j) :: _ => j == idx + 1
      | [] => false
    if a % 64 = 63 ∨ (last ∧ !follows) then
      ([(a, b)], if last then rest else (place, idx) :: rest, if last then 0 else sent + 1)
    else
      let (bs, st, n) := if last then s.spillBytes u room 0 rest
        else s.spillBytes u room (sent + 1) ((place, idx) :: rest)
      ((a, b) :: bs, st, n)

/-- No spill write of unit `u` waits for a buffer or its answer (R365). -/
def State.spillIdle (s : State) (u : Nat) : Bool :=
  !s.opn.trans.any (fun t => t.init == 1114 + u) && !s.opn.parked.any (fun x => x.asker.init == 1114 + u)

/-- DRAIN_COMPLETE (R363): the last staged record has been written. -/
def execDrainComplete (u : WatchUnit) (s : State) : Host.Outcome State Fault Refusal :=
  .next (if s.watchState u.val = 3 ∧ (s.watch u.val).staged = [] ∧ s.spillIdle u.val then
      (s.setObj (wObj u.val) 2 4).fire (1324 + u.val) 1
    else s)

/-! ## The window (R378, R379) -/

/-- Whether window offset `o` is listed (R378), and whether writes change it. -/
def watchListed (o : Nat) : Bool :=
  decide (o < offSelect + 1024) || (decide (offCond ≤ o) && decide (o < offCond + 2048)) ||
    (decide (offMask ≤ o) && decide (o < offMask + 16384)) ||
    (decide (offTemplate ≤ o) && decide (o < offTemplate + 4096))

/-- The bits of a template byte that are not reserved (R373). -/
def templateMask (o : Nat) : Nat :=
  let i := o % 512
  if i < 10 then 255
  else if 16 ≤ i ∧ i < 0x4C then (match (i - 16) % 4 with
    | 0 => 255
    | 1 => 0x3F
    | _ => 0)
  else 0

/-- The byte that a window write leaves at offset `o` (R356, R373). -/
def windowByte (u o : Nat) (b : Byte) : Byte :=
  if offProbe ≤ o ∧ o < offSelect then (if u = 8 ∨ (o - offProbe) % 64 < 2 then 0 else b)
  else if offTemplate ≤ o then b &&& BitVec.ofNat 8 (templateMask (o - offTemplate))
  else b

/-- Put the enabled bytes of a write into the window, as `windowByte` has it. -/
def State.windowPut (s : State) (u : Nat) : Nat → List (Byte × Bool) → State
  | _, [] => s
  | o, (b, en) :: t =>
    (if en ∧ offProbe ≤ o then s.setByte (watchBase u + o) (windowByte u o b) else s).windowPut u (o + 1) t

/-- Whether the entries that bytes `o` to `o + n - 1` meet are accepted after a write (R356, R358). -/
def State.entriesOk (s : State) (u o n : Nat) : Bool :=
  (upFrom (o / 2) ((o + n - 1) / 2 + 1 - o / 2)).all (fun h =>
    let e := s.leAt (watchBase u + 2 * h) 2
    if offProbe ≤ 2 * h ∧ 2 * h < offSelect then probeOk e
    else if offSelect ≤ 2 * h ∧ 2 * h < offSelect + 1024 then e / 4096 == 0
    else true)

/-- A write in the window of unit `u` (R378, R379). -/
def State.watchWindowWrite (s : State) (u off : Nat) (data : List (Byte × Bool)) : State × Nat :=
  let n := data.length
  if !larderSize n ∨ !((upFrom off n).all watchListed) then (s, opDecode)
  else
    let s1 := s.windowPut u off data
    if !s1.entriesOk u off n then (s, opDecode)
    else if s.watchWritable u then (s1, opAck)
    else (s, opAck)

/-- A read in the window of unit `u` (R378). -/
def State.watchWindowRead (s : State) (u off size : Nat) : State × Nat × List Byte :=
  if !larderSize size ∨ !((upFrom off size).all watchListed) then (s, opDecode, [])
  else (s, opData, s.bytes (watchBase u + off) size)

end Sys2Proof.Machine
end

