-- ==== Sys2Proof/Machine/Power.lean ====
section
/-!
DEFINITION. Power, clocks and sleep (R430 to R455): power domains, what each power state keeps, the choice
of power state, heat, safety shutdowns and the aging monitors.
-/

namespace Sys2Proof.Machine

/-! ## Domains (R434 to R436) -/

/-- A hedgerow region, or its bank, is in use (R436). -/
def State.regionUsed (s : State) (r : Nat) : Bool := (s.region r).configured

/-- Watch unit 8 is in use: not IDLE, or a peephole channel is not at its default (R436). -/
def State.watch8Used (s : State) : Bool :=
  s.watchState 8 != 0 ||
    s.objs.any (fun e => decide (0x5040 * 256 ≤ e.1) && decide (e.1 < 0x504C * 256) && e.1 % 256 != 0)

/-- R436: whether domain `d` is in use in power state RUN. A spare is while a pass measures it (R451); an uncore or a port that
is used no more keeps its power until its endpoints are shuttered (R437). -/
def State.inUse (s : State) (d : Nat) : Bool :=
  if d < 1056 then
    match s.logicalCroft (d / 132) (d % 132) with
    | some k => s.croftUsed k || s.uncoreUsed (d / 132) || s.power.awake.contains (1056 + d / 132)
    | none => s.power.aging
  else if d < 1064 then s.uncoreUsed (d - 1056) || s.power.awake.contains d
  else if d < 1096 then s.portWired (d - 1064) || s.power.awake.contains d
  else if d < 1100 then true
  else if d < 1116 then !(s.core (d - 1100)).held
  else if d < 1128 then s.regionUsed (d - 1116)
  else if d < 1140 then s.regionUsed (d - 1128)
  else if d = 1144 then s.watch8Used
  else true

/-- Domains that have RETAIN and enter it in power state NAP (R435, R440). -/
def napRetains (d : Nat) : Bool := decide (d < 1064) || (decide (1096 ≤ d) && decide (d < 1116))

/-- Domains that stay ON in power state PARK (R440). -/
def parkOn (d : Nat) : Bool := d == 1140 || d == 1142 || d == 1143 || d == 1145

/-- State of power domain `d` (R434, R435, 0x2110): 0 OFF, 1 RETAIN, 2 ON. -/
def State.domain (s : State) (d : Nat) : Nat :=
  if 1145 < d ∨ !s.granted d ∨ !s.inUse d then 0
  else
    match s.obj 0x2100 1 with
    | 2 => if napRetains d then 1 else 2
    | 3 => if 1096 ≤ d ∧ d < 1100 then 1 else if parkOn d then 2 else 0
    | 4 => if d = 1140 then 2 else 0
    | _ => 2

/-- Sub-index `n` of 0x2110 (R454). -/
def State.domainWord (s : State) (n : Nat) : Nat :=
  (upFrom 0 32).foldl (fun w i => putBits w (2 * i) 2 (s.domain (32 * (n - 1) + i))) 0

/-! ## Loss of content -/

/-- Objects of indices for which `lost` holds return to their defaults. -/
def State.dropObjs (s : State) (lost : Nat → Bool) : State :=
  { s with objs := s.objs.filter (fun e => !lost (e.1 / 256)) }

/-- A cellar whose domain goes OFF (R435), its controller with it. -/
def State.loseCellar (s : State) (n : Nat) : State :=
  (((s.setCellar n .blank).dropObjs (fun i => i / 16 == cObj n / 16)).setObj (cObj n) 1 0).zeroRange
    (n * cellarBytes) ((n + 1) * cellarBytes)

/-- Objects that live in the always-on domain, the supply monitors of the banks among them, or in fuses and
one-time-programmable cells (R434, R447). -/
def alwaysOnObj (i : Nat) : Bool :=
  (decide (0x1000 ≤ i) && decide (i < 0x1020)) || i == 0x1100 || i == 0x2001 ||
    (decide (0x2100 ≤ i) && decide (i < 0x2280)) || (decide (0x5020 ≤ i) && decide (i < 0x502C))

/-- The part of memory that outlasts STANDBY: the store (R396). -/
def keptBytes (a : Nat) : Bool := decide (configBase ≤ a) && decide (a < configBase + 0x2000000)

/-! ## Endpoints of a domain that loses power (R437) -/

/-- The requests at an endpoint are answered SHUTTERED at once, with no drain (R181). -/
def State.shutNow (s : State) (e : Nat) : State :=
  let s1 := s.dropOutstanding e
  let s2 := (s.outstanding e).foldl (fun st w => st.reply w opShuttered []) s1
  (s2.clearEndpoint e).setShut e 2

/-- The endpoints and routers that an uncore or port domain holds. -/
def domainEnds (d : Nat) : List Nat := if d < 1064 then hamletEnds (d - 1056) else if d < 1096 then [8192 + (d - 1064)] else []

/-- Every endpoint of a domain with power is SHUTTERED, and what it holds answered, before the device leaves the power states
that keep it (R437): the time of the entry covers the 2,048 strokes of R186. -/
def State.shutAwake (s : State) : State :=
  (s.power.awake.flatMap domainEnds).foldl (fun st e =>
    match st.shutState e with
    | 0 =>
      let t := st.shutNow e
      { t with power := { t.power with down := e :: t.power.down } }
    | 1 => st.shutNow e
    | _ => st) s

/-- What is left of the device with only the always-on domain powered (R433, R447): fuses, the store, the
one-time-programmable cells, the power controller, the steeple, the ring and the test port. -/
def State.dark (s : State) : State :=
  let p : PowerRec := { s.power with waits := false, green := false, hamlets := false, cellars := false, off := [],
                                     aging := false, armed := none, cause := none, inReset := false, awake := []
                                     down := [] }
  { State.reset with
    pending := s.pending, fuse := s.fuse, freeCtr := s.freeCtr, dev := s.dev, exec := s.exec
    objs := s.objs.filter (fun e => alwaysOnObj (e.1 / 256))
    mem := s.mem.filter (fun e => keptBytes e.1)
    steeple := s.steeple, power := p, ring := s.ring, tap := s.tap
    answer := s.answer, pcie := { PcieRec.rest with perst := s.pcie.perst } }

/-- Entry to STANDBY (R433, R447), which 0x2100.09 counts: ALLSET is driven low, every domain but always-on is OFF. A wake time that
a choice of R443 armed is carried into 0x2100.08. -/
def State.enterStandby (s : State) : State :=
  ((((s.dark.setObj 0x2100 1 4).setObj 0x2101 4 0).bump 0x2100 9).enter .standby).banksUpdate

/-! ## Supplies (R431 to R433) -/

/-- Leave STANDBY for WAKING (R432), for the wake reason `why` of 0x2100.0A; the steeple starts (R383, R391). -/
def State.startWaking (s : State) (why : Nat) : State :=
  let s1 := (s.setObj 0x2100 1 0).setObj 0x2100 0xA why
  let s2 := [1, 2, 3, 4].foldl (fun st i => st.setObj 0x2102 i 0) s1
  ({ s2 with power := { s2.power with waits := false, cause := none, armed := none } }.enter .waking).steepleStart

/-- A wake cause in STANDBY (R432): it takes effect once VMAIN is good. -/
def State.wakeCause (s : State) (why : Nat) : State :=
  if s.dev ≠ .standby ∨ !s.power.vstby then s
  else if s.power.vmain then s.startWaking why
  else { s with power := { s.power with cause := some why } }

/-- VMAIN has just become good (R432): a cause that waits, or auto-wake, takes effect. -/
def State.vmainArrived (s : State) : State :=
  match s.power.cause with
  | some why => s.wakeCause why
  | none => if s.obj 0x2100 7 = 1 then s.wakeCause 7 else s

/-- VSTBY_GOOD (R431, R432): the always-on domain leaves reset into STANDBY. -/
def execVstbyGood (s : State) : Host.Outcome State Fault Refusal :=
  .next (if s.power.vstby then s
    else
      let s1 := { s with power := { s.power with vstby := true } }
      if s1.power.vmain then s1.vmainArrived else s1)

/-- Objects that outlast the loss of VSTBY: the one-time-programmable cells (R406). -/
def otpObj (k : Nat) : Bool := k / 256 == 0x1100 && decide (k % 256 ≤ 5)

/-- VSTBY_LOSS (R431, R12): the always-on domain is in reset, WS fields included. -/
def execVstbyLoss (s : State) : Host.Outcome State Fault Refusal :=
  let d := s.dark
  let p : PowerRec := { PowerRec.rest with vstby := false, vmain := s.power.vmain,
                                           reference := s.power.reference }
  .next ({ d with
    dev := .standby, objs := d.objs.filter (fun e => otpObj e.1), steeple := .rest, power := p,
    ring := .rest, tap := .rest }.setObj 0x2100 1 4)

/-- VMAIN_GOOD (R432). -/
def execVmainGood (s : State) : Host.Outcome State Fault Refusal :=
  let s1 := { s with power := { s.power with vmain := true } }
  .next (if s.power.vmain then s1 else s1.vmainArrived)

/-- POWER_FAIL (R433): wake reason 0xFE. -/
def execPowerFail (s : State) : Host.Outcome State Fault Refusal :=
  let s1 := { s with power := { s.power with vmain := false } }
  .next (if s.dev = .standby then s1 else s1.enterStandby.setObj 0x2100 0xA 0xFE)

/-- STANDBY_WAKE_TIMER (R432). -/
def execStandbyWakeTimer (s : State) : Host.Outcome State Fault Refusal :=
  .next (if s.obj 0x2100 8 = 0 then s else s.wakeCause 8)

/-! ## Clocks (R438, R439) -/

/-- CRYSTAL_TIMEOUT (R438): the internal oscillator stays in use. -/
def execCrystalTimeout (s : State) : Host.Outcome State Fault Refusal := .next (s.setObj 0x2101 3 0)

/-- A bit of 0x2101.04 (R453), or a fabric PLL's bit of 0x5001.05. -/
def pllBit : Pll → Nat × Nat × Nat
  | .strokeHamlet h => (0x2101, 4, h.val)
  | .strokeGreen => (0x2101, 4, 8)
  | .core => (0x2101, 4, 9)
  | .fabric j => (0x5001, 5, j.val)

/-- The clock domain, in which every PLL lies (R434), is powered, and a fabric PLL is enabled (R306). -/
def State.pllPowered (s : State) : Pll → Bool
  | .fabric j => s.granted 1145 && bitAt (s.obj 0x5001 (j.val + 1)) 16
  | _ => s.granted 1145

/-- PLL_LOCK (R438): a PLL locks to the reference in the power states in which it runs. -/
def execPllLock (pll : Pll) (s : State) : Host.Outcome State Fault Refusal :=
  let b := pllBit pll
  .next (if s.pllPowered pll && s.obj 0x2100 1 != 3 then
      s.setObj b.1 b.2.1 (s.obj b.1 b.2.1 ||| (1 <<< b.2.2))
    else s)

/-- REFERENCE_LOSS (R439): the PLLs hold, the steeple is in HOLDOVER, and a running device halts at the
boundary. -/
def execReferenceLoss (s : State) : Host.Outcome State Fault Refusal :=
  .next (if s.dev = .standby ∨ !s.power.reference then { s with power := { s.power with reference := false } }
    else
      let s1 := { s with power := { s.power with reference := false } }
      let s2 := ((s1.setObj 0x2101 5 (s1.obj 0x2101 5 ||| 2)).fire 1359 0).holdover
      if s.dev = .run then s2.haltAtBoundary 5 else s2)

/-! ## The choice of power state (R440 to R447) -/

/-- A duration of strokes in whole ns at the stroke clock (R443). -/
def State.strokesNs (s : State) (n : Nat) : Nat := n * 10 / s.strokeClock

/-- A 32-bit steeple time as the ns from now, 0 when it has passed. -/
def State.nsUntil (s : State) (due : Nat) : Nat :=
  let d := (due + 2 ^ 32 - s.nowNs % 2 ^ 32) % 2 ^ 32
  if d < 2 ^ 31 then d else 0

/-- The ns to an armed T_a, which lies at most 4 s ahead (R251). -/
def State.alignNs (s : State) : Nat := if s.alignDue then 0 else (s.obj 0x2403 1 + 2 ^ 32 - s.nowNs) % 2 ^ 32

/-- The known event of delay list `j` (R443): a head whose tick is the stroke count or steeple time. -/
def State.listEvent (s : State) (j : Nat) : Option Nat :=
  let src := s.obj 0x5301 (j + 1)
  match s.delayList j with
  | [] => none
  | t :: _ =>
    let wake := tWake (s.task t)
    if src % 4 = 2 then some (s.strokesNs (wake <<< (src / 4) - s.count))
    else if src % 4 = 3 then some (s.nsUntil (wake % 2 ^ 32))
    else none

/-- The known events of R443 with their codes in 0x2100.05, as ns from now. -/
def State.knownEvents (s : State) : List (Nat × Nat) :=
  let alarms := (upFrom 0 4).filterMap (fun i =>
    let a := s.obj 0x2102 (i + 1)
    if bitAt a 32 then some (i, s.nsUntil (a % 2 ^ 32)) else none)
  let lists := (upFrom 0 4).filterMap (fun j => (s.listEvent j).map (fun n => (4 + j, n)))
  let align := if s.obj 0x2403 3 = 1 then [(8, s.alignNs)] else []
  let start := if s.obj 0x2403 6 = 1 then [(9, s.strokesNs (s.obj 0x2403 4 - s.count))] else []
  alarms ++ lists ++ align ++ start

/-- The earliest known event: its code and the ns to it. -/
def State.nextEvent (s : State) : Option (Nat × Nat) :=
  s.knownEvents.foldl (fun b e => match b with
    | some x => if e.2 < x.2 then some e else some x
    | none => some e) none

/-- A PCIe or ring transaction that targets a domain is outstanding, or one of a DMA engine's transfer is (R441). -/
def State.hostOutstanding (s : State) : Bool :=
  let hers := fun i : Nat => decide (1104 ≤ i) && decide (i ≤ 1113)
  s.opn.trans.any (fun o => hers o.init) || s.opn.parked.any (fun p => hers p.asker.init)

/-- R441: what keeps the device in power state RUN. -/
def State.mustRun (s : State) : Bool :=
  s.dev == .run || s.dev == .waking || s.dev == .undercoat || s.load.running ||
    s.store.command.isSome || s.tests.any (fun e => e.2.running) || s.remap.isSome ||
    s.ring.due.isSome || s.ring.move.isSome || !s.pcie.moves.isEmpty || s.hostOutstanding || s.obj 0x2100 3 == 0

/-- R442: what NAP and the deeper states require. -/
def State.napEligible (s : State) : Bool :=
  s.cores.all (fun e => e.2.task.isNone) && s.ready.all (fun e => e.2.isEmpty) &&
    (upFrom 0 9).all s.watchIdle && s.crofts.all (fun e => e.2.wbuf.isEmpty) &&
    s.cellars.all (fun e => e.2.pend.isEmpty) &&
    (upFrom 0 32).all (fun p => s.portState p != 2 && s.portState p != 4)

/-- R442: whether a sleep state (1 IDLE to 4 STANDBY) is eligible. -/
def State.eligibleSleep (s : State) (st : Nat) : Bool :=
  match st with
  | 1 => true
  | 2 => s.napEligible
  | _ => s.napEligible && s.dev == .prep && s.obj 0x2403 3 != 1 && s.obj 0x2403 6 != 1

/-- Wake time of a power state in ns (R440). -/
def wakeNs : Nat → Nat
  | 1 => 50
  | 2 => 30000
  | 3 => 12000000
  | _ => 400000000

/-- Break-even time of a power state in ns (R440). -/
def breakEvenNs : Nat → Nat
  | 1 => 500
  | 2 => 400000
  | 3 => 1500000000
  | _ => 60000000000

/-- R443: whether a state is worth entering before an event `t` ns away; `none` is infinitely far. For
STANDBY the lead adds 2 % of the time, so it is never chosen when there is no known event. -/
def worthwhile (st : Nat) : Option Nat → Bool
  | none => st != 4
  | some t =>
    let lead100 := 100 * wakeNs st + (if st = 4 then 2 * t else 0)
    decide (breakEvenNs st < t) && decide (lead100 < 100 * t)

/-- The state that the rule of R443 chooses: 4 STANDBY to 1 IDLE, or 0 RUN. -/
def State.chosenState (s : State) : Nat :=
  let t := s.nextEvent.map (·.2)
  (([4, 3, 2, 1] : List Nat).find? (fun st =>
    decide (st ≤ s.obj 0x2100 2) && s.eligibleSleep st && worthwhile st t)).getD 0

/-- The ns before the event at which the wake is armed (R443). -/
def leadNs (st t : Nat) : Nat := wakeNs st + (if st = 4 then (2 * t + 99) / 100 else 0)

/-- Objects of the domains that PARK switches off (R440): the settings of the PLLs and the supply monitors of the
banks lie in domains that stay ON. -/
def parkLost (i : Nat) : Bool :=
  (decide (0x3000 ≤ i) && decide (i < 0x3800)) ||
    (decide (0x4000 ≤ i) && i != 0x5001 && !(decide (0x5020 ≤ i) && decide (i < 0x502C)))

/-- What PARK leaves of the device (R440, R435): the green core, hamlets, ports, cores and hedgerow are
OFF; the cellars hold their content, and the endpoints of the domains that lose power are SHUTTERED (R437). -/
def State.parkLoss (s : State) : State :=
  let s0 := s.shutAwake
  let p : PowerRec := { s0.power with hamlets := false, awake := [] }
  let keep := fun a : Nat => decide (a < 4 * cellarBytes) || decide (mirrorBase ≤ a)
  let s1 := ((s0.dropObjs parkLost).setObj 0x2101 4 0).setObj 0x5001 5 0
  State.banksUpdate { s1.answerRefresh with
    power := p, crofts := [], tests := [], opn := { OpnRec.rest with shuts := s0.opn.shuts }, ports := [], hedge := .blank, troughs := []
    snooped := [], cores := [], tasks := [], ready := [], verger := .rest, watches := [], taps := [], heldWrites := []
    bell := .rest, phase := .idle, uncorrected := [], halts := []
    mem := s1.mem.filter (fun e => keep e.1), errs := s1.errs.filter (fun e => keep (8 * e.1)) }.steepleSelect

/-- Enter a sleep state (R443): the wake is armed at the lead before the event. -/
def State.enterSleep (s : State) (st : Nat) : State :=
  let t := s.nextEvent.map (·.2)
  let at' := t.map (fun n => s.nowNs + n - leadNs st n)
  match st with
  | 4 =>
    let secs := (t.map (fun n => (n - leadNs 4 n) / 1000000000)).getD 0
    s.shutAwake.enterStandby.setObj 0x2100 8 secs
  | _ =>
    let s1 := s.bump 0x2100 9
    let s2 := { s1 with power := { s1.power with armed := at' } }.setObj 0x2100 1 st
    if st = 2 then s2.selfRefresh true
    else if st = 3 then (s2.selfRefresh true).parkLoss
    else s2

/-- The wake reason of a cause (R453). -/
def WakeCause.code : WakeCause → Nat
  | .armed => 1
  | .ring => 2
  | .pcie => 3
  | .tcap => 4
  | .eventSource => 5
  | .allset => 6

/-! ## Objects of power (R453) -/

/-- A wake alarm is written (R453): reserved bits read as zero. -/
def State.writeAlarm (s : State) (sub v : Nat) : WriteResult := .ok (s.setObj 0x2102 sub (v % 2 ^ 33))

/-- R2, R453: a write of the stroke clock. -/
def State.writeStrokeClock (s : State) (v : Nat) : WriteResult :=
  if v ≠ 16 ∧ v ≠ 13 then .error abInvalid
  else if s.dev ≠ .prep ∨ (v = 16 ∧ s.fuse.grade = 13) then .error abState
  else .ok (s.setObj 0x2101 2 v)

/-- A write of 0x2100.06, 1 (R447): accepted in PREP, HALT and FAULT. -/
def State.standbyCommand (s : State) : WriteResult :=
  if s.dev = .prep ∨ s.dev = .halt ∨ s.dev = .fault then .ok s.shutAwake.enterStandby else .error abState

/-- Write `v` to object 0x2100.`sub`, the wake command apart (R453). -/
def State.writePower (s : State) (sub v : Nat) : WriteResult :=
  match sub with
  | 2 => if 4 < v then .error abInvalid else .ok (s.setObj 0x2100 2 v)
  | 3 => if 1 < v then .error abInvalid else .ok (s.setObj 0x2100 3 v)
  | _ => .ok (s.setObj 0x2100 sub v)

/-! ## Domain commands (R436, R450) -/

/-- A cellar that a loaded stencil or an armed spill names (R436). -/
def State.cellarNamed (s : State) (n : Nat) : Bool :=
  (s.load.present && s.load.cellars.contains n) ||
    (upFrom 0 9).any (fun u =>
      !s.watchIdle u && s.spills u &&
        decide (s.obj (wObj u + 1) 5 < (n + 1) * cellarBytes) &&
        decide (n * cellarBytes < s.obj (wObj u + 1) 5 + s.obj (wObj u + 1) 6))

/-- A domain is listed as commanded off. -/
def State.setOff (s : State) (d : Nat) (off : Bool) : State :=
  let rest := s.power.off.filter (fun x => x != d)
  { s with power := { s.power with off := if off then d :: rest else rest } }

/-- Domain command 1 (R436): a cellar, or a service core in reset. -/
def State.domainOff (s : State) (d : Nat) : WriteResult :=
  if 1096 ≤ d ∧ d < 1100 then
    if s.cellarNamed (d - 1096) then .error abState else .ok ((s.loseCellar (d - 1096)).setOff d true)
  else if 1100 ≤ d ∧ d < 1116 ∧ (s.core (d - 1100)).held then .ok (s.setOff d true)
  else .error abState

/-- Bring a cellar up (R411, R508): training, until CELLAR_READY. -/
def State.cellarUp (s : State) (n : Nat) : State :=
  if s.granted (1096 + n) then (s.setCellar n .blank).setObj (cObj n) 1 1 else s

/-- Domain command 2 (R436). -/
def State.domainOn (s : State) (d : Nat) : WriteResult :=
  if 1096 ≤ d ∧ d < 1100 then
    if s.power.cut.contains (8 + (d - 1096)) then .error abState
    else if s.power.off.contains d then .ok ((s.setOff d false).cellarUp (d - 1096))
    else .ok s
  else if 1100 ≤ d ∧ d < 1116 then .ok (s.setOff d false)
  else .error abState

/-- The power of a die returns: its endpoints open again (R187, R437), and its ports take their records and begin
bring-up (R206, R211). -/
def State.restoreHamlet (s : State) (h : Nat) : State :=
  let s1 := { s with power := { s.power with cut := s.power.cut.filter (fun x => x != h) } }
  let s2 := (hamletEnds h).foldl (fun st e => st.setShut e 3) s1
  let ports := upFrom (4 * h) 4
  let s3 := { s2 with store := { s2.store with reload := ports ++ s2.store.reload } }
  ports.foldl (fun st p => (st.setObj (pObj p) 9 st.power.brdid).portCheck p) s3

/-- Domain command 3 (R450): 10 °C below the maximum operating junction. -/
def State.domainRestore (s : State) (d : Nat) : WriteResult :=
  if 1056 ≤ d ∧ d < 1064 then
    let h := d - 1056
    if s.power.cut.contains h ∧ s.objInt 0x2120 (h + 1) 8 ≤ 95 then .ok (s.restoreHamlet h)
    else .error abState
  else if 1096 ≤ d ∧ d < 1100 then
    let n := d - 1096
    if s.power.cut.contains (8 + n) ∧ s.power.stack.getD n 0 ≤ 95 then
      .ok ({ s with power := { s.power with cut := s.power.cut.filter (fun x => x != 8 + n) } }.cellarUp n)
    else .error abState
  else .error abState

/-- Write `v` to object 0x2111.`sub` (R454). -/
def State.writeDomain (s : State) (sub v : Nat) : WriteResult :=
  let d := s.obj 0x2111 1
  match sub with
  | 1 => if 1145 < v then .error abInvalid else .ok (s.setObj 0x2111 1 v)
  | _ =>
    match v with
    | 1 => s.domainOff d
    | 2 => s.domainOn d
    | 3 => s.domainRestore d
    | _ => .error abInvalid

/-! ## Heat (R448 to R450) -/

/-- The die value of R449 for a reading `t` at threshold `th`. -/
def dieValue (t th : Int) : Nat := if t < th then 0 else min 7 (1 + ((t - th) / 2).toNat)

/-- The readings of the dies that have a threshold, each with its threshold (R448). -/
def State.dieReadings (s : State) : List (Int × Int) :=
  (upFrom 1 8).map (fun i => (s.objInt 0x2120 i 8, s.objInt 0x2120 0xA 8)) ++
    [(s.objInt 0x2120 9 8, s.objInt 0x2120 0xB 8)]

/-- A reading as an I8. -/
def i8 (t : Int) : Nat := pattern 8 (if t < -128 then -128 else if 127 < t then 127 else t)

/-- The highest reading of a die's sensors (R448). -/
def hottest : List Int → Int
  | [] => -128
  | t :: ts => ts.foldl max t

/-- A set of sensor readings is taken (R448, R449): the level rises at once to the highest die value. -/
def State.takeReadings (s : State) (r : Readings) : State :=
  let hamlets := r.hamlets.map hottest
  let green := hottest r.green
  let s1 := (upFrom 0 8).foldl (fun st h => st.setObj 0x2120 (h + 1) (i8 (hamlets.getD h 0))) s
  let s2 := s1.setObj 0x2120 9 (i8 green)
  let s3 := { s2 with power := { s2.power with stack := (upFrom 0 4).map (fun n => r.cellars.getD n 0) } }
  let top := (hamlets.take 8 ++ [green] ++ r.cellars.take 4).foldl max (s3.objInt 0x2120 0xF 8)
  let s4 := s3.setObj 0x2120 0xF (i8 top)
  let high := (s4.dieReadings.map (fun x => dieValue x.1 x.2)).foldl max 0
  let s5 := s4.peak 0x2120 0xC high
  (((s5.setObj 0x2103 1 (r.vmain % 2 ^ 32)).setObj 0x2103 2 (r.vstby % 2 ^ 16)).setObj 0x2103 3
    (r.power % 2 ^ 32)).setObj 0x2103 4 (r.energy % 2 ^ 64)

/-- SENSOR_READ (R448, R449); without VSTBY nothing reads the sensors (R430). -/
def execSensorRead (r : Readings) (s : State) : Host.Outcome State Fault Refusal :=
  .next (if s.power.vstby then s.takeReadings r else s)

/-- THERMAL_LEVEL_FALL (R449): every die reads below its own lower edge of the level, less 2 °C. -/
def execThermalLevelFall (s : State) : Host.Outcome State Fault Refusal :=
  let j := s.obj 0x2120 0xC
  .next (if j ≠ 0 ∧ s.dieReadings.all (fun x => decide (x.1 < x.2 + 2 * ((j : Int) - 1) - 2)) then
      s.setObj 0x2120 0xC (j - 1)
    else s)

/-- THERMAL_REQUEST (R449, R246): the count of executed rotas has reached N_j. -/
def execThermalRequest (s : State) : Host.Outcome State Fault Refusal :=
  let j := s.obj 0x2120 0xC
  .next (if s.dev = .run ∧ j ≠ 0 ∧ s.obj 0x2121 j ≤ s.power.rotas then
      let s1 := { s with power := { s.power with rotas := 0 },
                         bell := { s.bell with thermal := some (s.bell.thermal.getD s.requestExec) } }
      if s.bell.thermal.isNone then s1.bump 0x2120 0xD else s1
    else s)

/-- A rota begins to execute at a thermal level above 0 (R449). -/
def State.thermalRota (s : State) : State :=
  if s.obj 0x2120 0xC = 0 then s else { s with power := { s.power with rotas := s.power.rotas + 1 } }

/-- Write `v` to object 0x2120.`sub` or 0x2121.`sub` (R454). -/
def State.writeHeat (s : State) (i sub v : Nat) : WriteResult :=
  if i = 0x2121 then if v = 0 then .error abInvalid else .ok (s.setObj i sub v)
  else
    let lo := if sub = 0xA then 85 else 80
    if v < lo ∨ lo + 20 < v then .error abInvalid else .ok (s.setObj i sub v)

/-! ### G paths (R181) -/

/-- The first link in a domain that the G quad `q`, named at input `i` of node `n` at stroke `t`, crosses
(R160, R181). -/
def State.crossing (s : State) (bank : Nat) (inDom : Nat → Bool) : Nat → Nat → Nat → Nat → Nat → Option (Nat × Nat)
  | 0, _, _, _, _ => none
  | f + 1, n, i, q, t =>
    if 1024 ≤ n ∨ s.rotaLen ≤ t then none
    else
      (upFrom 0 6).findSome? (fun o =>
        let entry := (Tbl.get routeNone s.opn.routes (routeKey bank t n o)).toNat
        (upFrom 0 4).findSome? (fun d =>
          if bits entry (6 * d) 6 % 8 ≠ i ∨ bits entry (6 * d) 6 / 8 % 4 ≠ q then none
          else if inDom n then some (n, o)
          else
            match (if o < 4 then neighbour n o else none) with
            | some (m, j) => s.crossing bank inDom f m j d (t + linkDelay s.level n o)
            | none => none))

/-- The entries of G quads into the mesh (R159, R217, R162): source initiator, node, input, quad, stroke. -/
def State.gSources (s : State) (bank : Nat) : List (Nat × Nat × Nat × Nat × Nat) :=
  let crofts := s.opn.injects.flatMap (fun e =>
    let n := e.1 % 1024
    let t := e.1 / 1024 % 1024
    if e.1 / 1024 / 1024 ≠ bank then []
    else ((upFrom 0 4).filter (fun q => (injectFlit e.2 (BitVec.allOnes 32) 0).present.getLsbD q)).map (fun q =>
      (croftAt n, n, 4, q, t + 1)))
  let ports := (upFrom 0 32).flatMap (fun p => (s.port p).rx.flatMap (fun e =>
    if e.1 / 1024 ≠ bank then []
    else ((upFrom 0 4).filter (fun q => e.2.getLsbD q)).map (fun q =>
      (1152 + p, portNode p, 5, q, e.1 % 1024))))
  let enter := fun (init stroke g q : Nat) => (init, g * 32, 3, q, stroke + handOffDelay s.level)
  let cellars := (upFrom 0 4).flatMap (fun n => ((s.cellar n).slots.filter (fun e => e.dir && e.bank == bank)).map (fun e =>
    enter (1123 + n) e.stroke e.gport e.pquad))
  let hedge := s.hedge.inits.flatMap (fun x => (x.2.slots.filter (fun e => !e.dir && e.bank == bank)).map (fun e =>
    enter (1024 + x.1) e.stroke e.gport e.pquad))
  let troughs := s.troughs.flatMap (fun x =>
    (x.2.slots.filter (handedOff (s.obj (tObj x.1) 1))).map (fun e =>
      enter (1184 + x.1) e.stroke e.gport e.pquad))
  crofts ++ ports ++ cellars ++ hedge ++ troughs

/-- R181, R183: a record of cause 3 for each G path that crosses a domain; the answer says whether there
was one. -/
def State.revokeG (s : State) (inDom : Nat → Bool) : State × Bool :=
  (s.gSources s.bankNow).foldl (fun (st, any) e =>
    match s.crossing s.bankNow inDom 1100 e.2.1 e.2.2.1 e.2.2.2.1 e.2.2.2.2 with
    | some l => (st.revocation 1 3 l.2 l.1 e.1, true)
    | none => (st, any)) (s, false)

/-! ### Safety shutdown (R450) -/

/-- A running device halts at the next boundary after a safety shutdown (R450); a G schedule that crossed
the domain rings foul (R181). -/
def State.safetyHalt (s : State) (crossed : Bool) : State :=
  if s.dev ≠ .run then s else (if crossed then s.foul else s).haltAtBoundary 6

/-- Objects of the crofts, the maintenance engine and the watch unit of hamlet `h`. -/
def hamletObj (h i : Nat) : Bool := i / 0x100 == 0x30 + h || i / 0x10 == 0x540 + h

/-- The packet flits in the routers of hamlet `h` and the credits for their buffers are lost. -/
def NetRec.loseHamlet (n : NetRec) (h : Nat) : NetRec :=
  let away := fun k : Nat => decide (1024 ≤ k / 32 % 2048) || !inHamlet h (k / 32 % 2048)
  { n with buffers := n.buffers.filter (fun e => away e.1)
           credits := n.credits.filter (fun e => away e.1)
           turns := n.turns.filter (fun e => away e.1) }

/-- What stands in the croft and uncore domains of hamlet `h` is lost with them (R435): its crofts, the tables of its routers in
both banks, packet flits, its watch unit, its test, and their objects. -/
def State.loseUncore (s : State) (h : Nat) : State :=
  let o := s.opn
  let s1 := { s with
    crofts := s.crofts.filter (fun e => e.1 / 128 != h)
    opn := { o with
      routes := o.routes.filter (fun e => !inHamlet h (e.1 / 8 % 1024))
      injects := o.injects.filter (fun e => !inHamlet h (e.1 % 1024))
      ejects := o.ejects.filter (fun e => !inHamlet h (e.1 % 1024))
      net := o.net.loseHamlet h } }
  let s2 := (s1.zeroRange (croftBase (h * 128)) (croftBase (h * 128) + 128 * 0x20000000)).zeroRange (watchBase h)
    (watchBase h + 0x2000000)
  ((s2.dropObjs (hamletObj h)).setWatch h .rest).setTest h .rest

/-- What stands in the domain of port `p` is lost with it (R435). -/
def State.losePort (s : State) (p : Nat) : State :=
  (s.setPort p .blank).dropObjs (fun i => i / 0x10 == 0x400 + p)

/-- A hamlet's croft, uncore and port domains go OFF (R450). -/
def State.cutHamlet (s : State) (h : Nat) : State :=
  let (s1, crossed) := s.revokeG (inHamlet h)
  let s2 := s1.revokeAt 3 (fun l => inHamlet h l.1)
  let s3 := (hamletEnds h).foldl (fun st e => st.shutNow e) s2
  let gone := fun d : Nat => d == 1056 + h || (decide (1064 ≤ d) && (d - 1064) / 4 == h)
  let s4 := { s3 with power := { s3.power with cut := h :: s3.power.cut, awake := s3.power.awake.filter (fun d => !gone d) } }
  let s5 := (upFrom 0 4).foldl (fun st j => st.portCheck (4 * h + j)) s4
  let s6 := (upFrom (4 * h) 4).foldl (fun st p => st.losePort p) (s5.loseUncore h)
  s6.safetyHalt crossed

/-! ### Power that follows use (R436, R437) -/

/-- Whether an uncore, a port or watch unit 8 may have power and is in use. -/
def State.needsPower (s : State) (d : Nat) : Bool :=
  s.granted d && (if d < 1064 then s.uncoreUsed (d - 1056) else if d < 1096 then s.portWired (d - 1064) else s.watch8Used)

/-- The content of a domain that goes OFF is lost (R435). -/
def State.loseDomain (s : State) (d : Nat) : State :=
  if d < 1064 then s.loseUncore (d - 1056)
  else if d < 1096 then s.losePort (d - 1064)
  else ((s.dropObjs (fun i => i / 0x10 == 0x548)).setWatch 8 .rest).zeroRange (watchBase 8) (watchBase 8 + 0x2000000)

/-- The power controller shutters an endpoint that R185 lets it shutter. -/
def State.shutForPower (s : State) (e : Nat) : State :=
  if s.shutState e = 0 ∧ s.mayShutter e then
    let t := s.shutter e
    { t with power := { t.power with down := e :: t.power.down } }
  else s

/-- The power controller opens an endpoint that it has shuttered (R187). -/
def State.openForPower (s : State) (e : Nat) : State :=
  if s.power.down.contains e then
    let t := s.unshutter e
    { t with power := { t.power with down := t.power.down.filter (fun x => x != e) } }
  else s

/-- Domain `d` is used, and has power; or it is not, and loses its power once its endpoints are shuttered. -/
def State.followDomain (s : State) (d : Nat) : State :=
  if s.needsPower d then
    if s.power.awake.contains d then s
    else
      let t := (domainEnds d).foldl (fun st e => st.openForPower e) s
      { t with power := { t.power with awake := d :: t.power.awake } }
  else if s.power.awake.contains d then
    let t := (domainEnds d).foldl (fun st e => st.shutForPower e) s
    if (domainEnds d).all (fun e => t.shutState e == 2) then
      { t with power := { t.power with awake := t.power.awake.filter (fun x => x != d) } }.loseDomain d
    else t
  else s

/-- What the power controller does with the domains of uncores, ports and watch unit 8 as a stroke passes. -/
def State.powerFollow (s : State) : State := (upFrom 1056 40 ++ [1144]).foldl (fun st d => st.followDomain d) s

/-- The accesses that wait at home `t` for INV_ACK are answered with `op`. -/
def State.dropHeld (s : State) (t op : Nat) : State :=
  let (mine, rest) := s.heldWrites.partition (fun h => h.home == t)
  mine.foldl (fun st h => st.reply h.asker op []) { s with heldWrites := rest }

/-- A cellar's domain goes OFF (R450): the G paths of its slots end there, and what waits at it is answered SHUTTERED
(R181). -/
def State.cutCellar (s0 : State) (n : Nat) : State :=
  let t := 1024 + n
  let ws := s0.halvesAt t
  let s := (ws.foldl (fun st w => st.reply w opShuttered []) ((s0.dropHeld t opShuttered).dropHalvesAt t)).clearTarget t
  let c := s.cellar n
  let slots := c.slots.filter (fun e => e.bank == s.bankNow)
  let crossed := !slots.isEmpty
  let source := fun (e : CSlot) =>
    if e.dir then 1123 + n else (c.bindings[e.binding]?.map (fun b => b.req)).getD 0
  let s1 := slots.foldl (fun st e => st.revocation 1 3 3 (e.gport * 32) (source e)) s
  let s2 := { s1.loseCellar n with power := { s1.power with cut := (8 + n) :: s1.power.cut } }
  s2.safetyHalt crossed

/-- SAFETY_SHUTDOWN (R450): the die reads its safety-shutdown temperature. -/
def execSafetyShutdown (d : Die) (s : State) : Host.Outcome State Fault Refusal :=
  let note := fun (st : State) => (st.bump 0x2120 0xE).fire 1359 1
  .next (match d with
    | .hamlet h =>
      if 115 ≤ s.objInt 0x2120 (h.val + 1) 8 ∧ !s.power.cut.contains h.val then (note s).cutHamlet h.val else s
    | .cellar n =>
      if 110 ≤ s.power.stack.getD n.val 0 ∧ !s.power.cut.contains (8 + n.val) then (note s).cutCellar n.val
      else s
    | .green =>
      if 110 ≤ s.objInt 0x2120 9 8 ∧ s.dev ≠ .standby then
        ((note s).enterStandby).setObj 0x2100 0xA 0xFE
      else s)

/-! ## Aging (R451, R452, R455) -/

/-- The domain of a monitor (R451, R455): a physical croft, an uncore or the green core, or a port. -/
def monitorDomain (i sub : Nat) : Nat :=
  if i = 0x2148 then 1141
  else
    let h := i - 0x2140
    if sub ≤ 0x84 then h * 132 + (sub - 1) else if sub = 0x85 then 1056 + h else 1064 + 4 * h + (sub - 0x86)

/-- The object of a monitor exists (R455). -/
def isMonitor (i sub : Nat) : Bool :=
  (i == 0x2148 && sub == 1) ||
    (decide (0x2140 ≤ i) && decide (i < 0x2148) && decide (1 ≤ sub) && decide (sub ≤ 0x89))

/-- Whether a monitor is measured in a pass (R451): its domain is ON, or it is a spare croft. -/
def State.measured (s : State) (i sub : Nat) : Bool :=
  let d := monitorDomain i sub
  s.domain d == 2 || (decide (d < 1056) && s.granted d && (s.logicalCroft (d / 132) (d % 132)).isNone)

/-- The grade of a measurement (R452). -/
def agingGrade (drift : Int) (margin : Nat) : Nat :=
  if margin < 25 ∨ drift < -500 then 2 else if margin < 60 ∨ drift < -300 then 1 else 0

/-- One monitor's result (R452); 3 stands for no grade, so a first grade of 1 or 2 is a rise. -/
def State.agingResult (s : State) (r : AgingResult) : State :=
  if !isMonitor r.index r.sub then s
  else
    let old := bits (s.obj r.index r.sub) 28 2
    match (if s.measured r.index r.sub then r.reading else none) with
    | none => s.setObj r.index r.sub 0x30000000
    | some (drift, margin) =>
      let m := min margin 4095
      let g := agingGrade drift m
      let s1 := s.setObj r.index r.sub (pattern 16 drift + m <<< 16 + g <<< 28)
      if g ≠ 0 ∧ (old = 3 ∨ old < g) then
        if r.index = 0x2148 then s1.fire 1359 2 else s1.fire (1024 + (r.index - 0x2140)) 4
      else s1

/-- The monitors of domains that are OFF or in RETAIN read grade 3 and no figures (R451). -/
def State.skipOff (s : State) : State :=
  { s with objs := s.objs.filter (fun e => !isMonitor (e.1 / 256) (e.1 % 256) || s.measured (e.1 / 256) (e.1 % 256)) }

/-- AGING_PASS_COMPLETE (R452, R455). -/
def execAgingPassComplete (results : List AgingResult) (s : State) : Host.Outcome State Fault Refusal :=
  .next (if s.power.aging then
      let s1 := results.foldl (fun st r => st.agingResult r) s.skipOff
      { s1 with power := { s1.power with aging := false } }.bump 0x2130 3
    else s)

/-- A pass starts (R451). -/
def State.startAging (s : State) : State := { s with power := { s.power with aging := true } }

/-- Write `v` to object 0x2130.`sub` (R455). -/
def State.writeAging (s : State) (sub v : Nat) : WriteResult :=
  match sub with
  | 1 => if 8760 < v then .error abInvalid else .ok (s.setObj 0x2130 1 v)
  | _ => if v ≠ 1 then .error abInvalid else if s.power.aging then .error abState else .ok s.startAging

end Sys2Proof.Machine
end

