-- ==== Sys2Proof/Machine/Store.lean ====
section
/-!
DEFINITION. The configuration store (R396 to R410, R426): areas and copies, how a copy is judged, the store
commands, the records in force, keys and attestation.
-/

namespace Sys2Proof.Machine

/-! ## Areas and copies (R396 to R398) -/

/-- Offset in the bank, size, kind and instance of area `a` (R396). -/
def areaInfo (a : Nat) : Option (Nat × Nat × Nat × Nat) :=
  match a with
  | 1 => some (0, 0x4000, 1, 0)
  | 2 => some (0x4000, 0xC000, 2, 0)
  | 3 => some (0x10000, 0x1000, 3, 0)
  | 4 => some (0x11000, 0x1000, 4, 0)
  | 5 => some (0x12000, 0x1000, 9, 0)
  | 6 => some (0x13000, 0xD000, 7, 0)
  | 7 => some (0x20000, 0x20000, 8, 0)
  | 8 => some (0x40000, 0x200000, 5, 0)
  | _ =>
    if 9 ≤ a ∧ a ≤ 20 then some (0x240000 + (a - 9) * 0x84000, 0x84000, 6, a - 9)
    else if 21 ≤ a ∧ a ≤ 35 then some (0x870000 + (a - 21) * 0x80000, 0x80000, 0xA, a - 20)
    else none

/-- The area whose records are of a kind, instance 0 (R402). -/
def areaOfKind (kind : Nat) : Nat :=
  match kind with
  | 1 => 1
  | 2 => 2
  | 3 => 3
  | 4 => 4
  | 9 => 5
  | 7 => 6
  | 8 => 7
  | 5 => 8
  | _ => 0

/-- Device address of the copy of area `a` in a bank (R396, R427). -/
def copyAddr (a bank : Nat) : Nat :=
  configBase + bank * 0x1000000 + ((areaInfo a).map (fun x => x.1)).getD 0

/-- Size of area `a`. -/
def areaSize (a : Nat) : Nat := ((areaInfo a).map (fun x => x.2.1)).getD 0

/-- A little-endian field of a byte string. -/
def fieldAt (bs : List Byte) (off n : Nat) : Nat := leNat ((bs.drop off).take n)

/-- Whether `n` bytes from `off` on are all zero. -/
def zeroAt (bs : List Byte) (off n : Nat) : Bool := ((bs.drop off).take n).all (fun b => b == 0)

/-! ## Signatures (R406 to R409) -/

/-- Trailer length of an ALG (R407). -/
def trailerLen (alg : Nat) : Option Nat :=
  match alg with
  | 1 => some 3748
  | 2 => some 5277
  | _ => none

/-- The slot is programmed and not revoked (R406, 0x1100.05). -/
def State.slotGood (s : State) (i : Nat) : Bool := bitAt (s.obj 0x1100 5) i && !bitAt (s.obj 0x1100 5) (4 + i)

/-- R408: the offset of the first field whose test a trailer fails, the tests in R408's order; none when the
trailer passes over the signed bytes. -/
def State.trailerFault (s : State) (signed tr : List Byte) : Option Nat :=
  let alg := fieldAt tr 0 1
  let slot := fieldAt tr 1 1
  let pkLen := if alg = 1 then 1312 else 1952
  let sigLen := if alg = 1 then 2420 else 3309
  let pk := (tr.drop 16).take pkLen
  let sig := (tr.drop (16 + pkLen)).take sigLen
  if trailerLen alg ≠ some tr.length then some 0
  else if !zeroAt tr 2 2 then some 2
  else if fieldAt tr 4 2 ≠ pkLen then some 4
  else if fieldAt tr 6 2 ≠ sigLen then some 6
  else if !zeroAt tr 8 8 then some 8
  else if 4 ≤ slot ∨ !s.slotGood slot then some 1
  else if Config.sha3_256 pk ≠ s.obj 0x1100 (slot + 1) then some 16
  else if !Config.mlDsaVerify alg pk (leBytes 32 (Config.sha3_256 signed)) sig then some (16 + pkLen)
  else none

/-- R408: a trailer passes over the signed bytes. -/
def State.trailerPasses (s : State) (signed tr : List Byte) : Bool := (s.trailerFault signed tr).isNone

/-! ## Payloads (R401, R402) -/

/-- A list without repeats. -/
def distinct : List Nat → Bool
  | [] => true
  | x :: t => !t.contains x && distinct t

/-- CROFT_MAP (R401). -/
def croftMapOk (pl : List Byte) : Bool :=
  pl.length == 1024 && pl.all (fun b => decide (b.toNat < 132)) &&
    (upFrom 0 8).all (fun h => distinct (((pl.drop (128 * h)).take 128).map BitVec.toNat))

/-- One FIRMWARE entry (R351, R401): core mask, scratchpad offset, entry address and image. -/
structure FwEntry where
  mask : Nat
  off : Nat
  entry : Nat
  image : List Byte
  deriving DecidableEq, Repr

/-- The header of a FIRMWARE body fits its rules (R351). -/
def fwHeaderOk (body : List Byte) : Bool :=
  let len := fieldAt body 16 8
  decide (32 ≤ body.length) && fieldAt body 0 8 % 8 == 0 && zeroAt body 24 8 && decide (len ≤ 0x800000)

/-- The entries of a FIRMWARE record, `none` when the layout is broken; `f` bounds their number. -/
def fwEntries : Nat → List Byte → Option (List FwEntry)
  | 0, _ => none
  | f + 1, pl =>
    if pl = [] then some []
    else
      let body := pl.drop 8
      let len := fieldAt body 16 8
      let size := 8 + 32 + (len + 7) / 8 * 8
      if pl.length < 40 ∨ !zeroAt pl 2 6 ∨ !fwHeaderOk body ∨ pl.length < size then none
      else
        (fwEntries f (pl.drop size)).map (fun t =>
          ⟨fieldAt pl 0 2, fieldAt body 0 8, fieldAt body 8 8, (body.drop 32).take len⟩ :: t)

/-- Two images share a byte. -/
def fwOverlap (a b : FwEntry) : Bool :=
  !a.image.isEmpty && !b.image.isEmpty && decide (a.off < b.off + b.image.length) && decide (b.off < a.off + a.image.length)

/-- Masks are disjoint, images lie in the scratchpad and do not overlap (R351, R401). -/
def fwOk : List FwEntry → Bool
  | [] => true
  | e :: t =>
    decide (e.off + e.image.length ≤ 0x800000) &&
      t.all (fun o => (o.mask &&& e.mask) == 0 && !fwOverlap e o) && fwOk t

/-- The entries of a FIRMWARE payload that holds its rules. -/
def fwParse (pl : List Byte) : Option (List FwEntry) :=
  match fwEntries (pl.length / 40 + 1) pl with
  | some es => if fwOk es then some es else none
  | none => none

/-- A DICT_DEFAULTS entry: index, sub-index, size and value (R401). -/
structure DictEntry where
  index : Nat
  sub : Nat
  size : Nat
  value : Nat
  deriving DecidableEq, Repr

/-- The entries of a DICT_DEFAULTS payload: an entry's value is of its size (R401). -/
def dictEntries (pl : List Byte) : List DictEntry :=
  (upFrom 0 (pl.length / 16)).map (fun i =>
    let b := pl.drop (16 * i)
    let size := fieldAt b 3 1 % 16
    ⟨fieldAt b 0 2, fieldAt b 2 1, size, fieldAt b 8 (min size 8)⟩)

/-- DICT_DEFAULTS (R401). -/
def dictOk (pl : List Byte) : Bool :=
  pl.length % 16 == 0 && decide (pl.length ≤ 51200) &&
    (upFrom 0 (pl.length / 16)).all (fun i =>
      let b := pl.drop (16 * i)
      let size := fieldAt b 3 1
      decide (1 ≤ size) && decide (size ≤ 8) && zeroAt b 4 4)

/-- The frames that a HEDGEROW payload holds, as the fabric reads them (R304). -/
def framesOf (pl : List Byte) : Frames := fun w => fieldAt pl (8 * w) 8

/-- The layout of a payload of a kind other than SKIM_COAT (R401). -/
def plainPayloadOk (kind : Nat) (pl : List Byte) : Bool :=
  match kind with
  | 1 => croftMapOk pl
  | 2 => pl.length == 32784 && zeroAt pl 2 14
  | 3 => pl.length == 16 && (pl.take 12).all (fun b => decide (b.toNat < 4)) && zeroAt pl 12 4
  | 4 => pl.length == 32 && pl.all (fun b => decide (b.toNat ≤ 2))
  | 5 => (fwParse pl).isSome
  | 6 => pl.length == 532480 && (framesFail (framesOf pl) (upFrom 0 16384)).isNone
  | 7 => dictOk pl
  | 8 => pl.length % 8 == 0 && decide (pl.length ≤ 128000)
  | 9 => pl.length == 16 && decide (fieldAt pl 0 1 ≤ 15) && zeroAt pl 1 15
  | _ => false

/-- R399, steps 4 to 6, over a header: the failing status, or 0. -/
def State.judgeHeader (s : State) (kind inst : Nat) (img : List Byte) : Nat :=
  if fieldAt img 0 4 ≠ 0x46435747 ∨ fieldAt img 13 1 ≠ 1 ∨ 1 < fieldAt img 12 1 ∨ !zeroAt img 15 49 then 4
  else if fieldAt img 4 2 ≠ 0x6508 ∨ !bitAt (fieldAt img 14 1) (s.fuse.stepping - 0x42) then 5
  else if fieldAt img 6 1 ≠ kind ∨ fieldAt img 7 1 ≠ inst then 6
  else 0

/-- The inner images of a skim coat with their kinds (R402), `none` when its layout is broken. -/
def State.skimInner (s : State) : Nat → List Byte → Option (List (Nat × List Byte))
  | 0, _ => none
  | f + 1, pl =>
    if pl = [] then some []
    else
      let len := fieldAt pl 8 4
      let size := (64 + len + 7) / 8 * 8
      let kind := fieldAt pl 6 1
      let img := pl.take (64 + len)
      if pl.length < 64 ∨ pl.length < size ∨ fieldAt pl 12 1 ≠ 0 ∨
          !([2, 3, 4, 5, 7].contains kind) ∨ s.judgeHeader kind 0 img ≠ 0 ∨
          !plainPayloadOk kind (img.drop 64) then none
      else (s.skimInner f (pl.drop size)).map (fun t => (kind, img) :: t)

/-- The inner images of a skim coat that holds its rules: each kind at most once (R402). -/
def State.skimParse (s : State) (pl : List Byte) : Option (List (Nat × List Byte)) :=
  match s.skimInner (pl.length / 64 + 1) pl with
  | some es => if distinct (es.map (·.1)) then some es else none
  | none => none

/-- R401: the payload of a kind keeps its layout. -/
def State.payloadOk (s : State) (kind : Nat) (pl : List Byte) : Bool :=
  if kind = 0xA then (s.skimParse pl).isSome else plainPayloadOk kind pl

/-! ## Judging (R399, R400) -/

/-- The kind must be signed (R401). -/
def mustSign (kind : Nat) : Bool := kind == 5 || kind == 6 || kind == 0xA

/-- R399, steps 4 to 9, over the TOTAL bytes of an image. -/
def State.judgeImage (s : State) (a : Nat) (img : List Byte) : Nat :=
  match areaInfo a with
  | none => 6
  | some (_, _, kind, inst) =>
    let h := s.judgeHeader kind inst img
    if h ≠ 0 then h
    else
      let pay := fieldAt img 8 4
      let isSigned := fieldAt img 12 1 == 1
      let tr := img.drop (64 + pay)
      let alg := trailerLen (fieldAt tr 0 1)
      let lengthBad : Bool :=
        if isSigned then tr.isEmpty || (match alg with
          | some n => tr.length != n
          | none => false)
        else img.length != 64 + pay
      if lengthBad ∨ img.length < 64 + pay then 2
      else if (mustSign kind && !isSigned) || (isSigned && !s.trailerPasses (img.take (64 + pay)) tr) then 7
      else if !s.payloadOk kind ((img.drop 64).take pay) then 8
      else 0

/-- CRC-32C of a copy (R397). -/
def copyCrc (env img : List Byte) : Nat := crc32c (env.take 12 ++ img)

/-- The image of a copy as its envelope gives it. -/
def State.copyImage (s : State) (a bank : Nat) : List Byte :=
  let base := copyAddr a bank
  s.bytes (base + 16) (s.leAt (base + 4) 4)

/-- R399: the status of a copy. -/
def State.judgeCopy (s : State) (a bank : Nat) : Nat :=
  let base := copyAddr a bank
  let env := s.bytes base 16
  let total := fieldAt env 4 4
  if env.all (fun b => b == 0) ∨ env.all (fun b => b == 0xFF) then 1
  else if total < 64 ∨ areaSize a < total + 16 then 2
  else
    let img := s.copyImage a bank
    if copyCrc env img ≠ fieldAt env 12 4 then 3 else s.judgeImage a img

/-- SEQ of a copy. -/
def State.copySeq (s : State) (a bank : Nat) : Nat := s.leAt (copyAddr a bank) 4

/-- R400: a SEQ is newer than another. -/
def newerSeq (x y : Nat) : Bool :=
  let d := (x + 2 ^ 32 - y) % 2 ^ 32
  decide (1 ≤ d) && decide (d < 2 ^ 31)

/-- The bank of the selected copy, from the statuses of the two copies (R400). -/
def State.selectBankOf (s : State) (a st0 st1 : Nat) : Option Nat :=
  match st0, st1 with
  | 0, 0 => some (if newerSeq (s.copySeq a 1) (s.copySeq a 0) then 1 else 0)
  | 0, _ => some 0
  | _, 0 => some 1
  | _, _ => none

/-- The bank of the selected copy of area `a`. -/
def State.selectedBank (s : State) (a : Nat) : Option Nat :=
  s.selectBankOf a (s.judgeCopy a 0) (s.judgeCopy a 1)

/-- Judge both copies of an area and put the results into 0x2301 (R428). -/
def State.judgeArea (s : State) (a : Nat) : State :=
  let st0 := s.judgeCopy a 0
  let st1 := s.judgeCopy a 1
  let sel := s.selectBankOf a st0 st1
  let skim := bits (s.obj 0x2301 a) 10 1
  let low := st0 + st1 <<< 4 + skim <<< 10
  s.setObj 0x2301 a (match sel with
    | some b => low + b <<< 8 + 1 <<< 9 + s.copySeq a b <<< 32
    | none => low)

/-- The area is PRESENT, ABSENT (both copies EMPTY) or BAD, from 0x2301 (R400). -/
def State.areaPresent (s : State) (a : Nat) : Bool := bitAt (s.obj 0x2301 a) 9
def State.areaAbsent (s : State) (a : Nat) : Bool := s.obj 0x2301 a % 256 == 0x11
def State.areaBad (s : State) (a : Nat) : Bool := !s.areaPresent a && !s.areaAbsent a

/-! ## Store commands (R403, R404, R426) -/

/-- Commands are not accepted in these states, nor while one runs (R404). -/
def State.storeClosed (s : State) : Bool :=
  s.dev == .standby || s.dev == .waking || s.dev == .undercoat || s.obj 0x2302 4 == 1

/-- A store command starts. -/
def State.storeBusy (s : State) (cmd a bank : Nat) : State :=
  { s with store := { s.store with command := some (cmd, a, bank) } }.setObj 0x2302 4 1 |>.setObj 0x2300 1 2

/-- A store command ends with a status and a result (R403, R428). -/
def State.storeEnd (s : State) (status result : Nat) : State :=
  ((({ s with store := { s.store with command := none } }.setObj 0x2302 4 status).setObj 0x2302 5 result).setObj
    0x2300 1 0)

/-- Write a copy whose envelope does not yet hold (R403): an interrupted write fails step 3. -/
def State.writeCopy (s : State) (a bank seq : Nat) (img : List Byte) : State :=
  let env := leBytes 4 seq ++ leBytes 4 img.length ++ leBytes 4 0
  let crc := copyCrc env img
  (s.setBytes (copyAddr a bank + 16) img).setBytes (copyAddr a bank) (env ++ leBytes 4 (2 ^ 32 - 1 - crc))

/-- The envelope of a copy is completed (R403). -/
def State.sealCopy (s : State) (a bank : Nat) : State :=
  let base := copyAddr a bank
  s.setBytes (base + 12) (leBytes 4 (2 ^ 32 - 1 - s.leAt (base + 12) 4))

/-- The bank and SEQ that a write takes (R403). -/
def State.writeTarget (s : State) (a : Nat) : Nat × Nat :=
  match s.selectedBank a with
  | some b => (1 - b, (s.copySeq a b + 1) % 2 ^ 32)
  | none => (0, 1)

/-- Command 1 (R403). -/
def State.storeWrite (s : State) : WriteResult :=
  let a := s.obj 0x2302 1
  let n := s.obj 0x2302 2
  if s.storeClosed ∨ (areaInfo a).isNone then .error abState
  else if n < 64 ∨ areaSize a < n + 16 then .ok (s.storeEnd 3 2)
  else
    let img := s.bytes (configBase + 0x2000000) n
    let st := s.judgeImage a img
    if st ≠ 0 then .ok (s.storeEnd 3 st)
    else
      let (bank, seq) := s.writeTarget a
      .ok ((s.writeCopy a bank seq img).storeBusy 1 a bank)

/-- Write an empty envelope. -/
def State.emptyCopy (s : State) (a bank : Nat) : State := s.setBytes (copyAddr a bank) (leBytes 16 0)

/-- Command 2 (R404): the copy that is not selected first. -/
def State.storeErase (s : State) : WriteResult :=
  let a := s.obj 0x2302 1
  if s.storeClosed ∨ (areaInfo a).isNone ∨ a = 1 then .error abState
  else
    let last := (s.selectedBank a).getD 1
    .ok ((s.emptyCopy a (1 - last)).storeBusy 2 a last)

/-- Command 3 (R404). -/
def State.storeMirror (s : State) : WriteResult :=
  let a := s.obj 0x2302 1
  if s.storeClosed then .error abState
  else
    match s.selectedBank a with
    | none => .error abState
    | some b =>
      .ok ((s.writeCopy a (1 - b) ((s.copySeq a b + 1) % 2 ^ 32) (s.copyImage a b)).storeBusy 3 a (1 - b))

/-- STORE_COMMAND_COMPLETE (R403, R404). -/
def execStoreCommandComplete (s : State) : Host.Outcome State Fault Refusal :=
  .next (match s.store.command with
    | none => s
    | some (cmd, a, bank) =>
      if cmd = 2 then ((s.emptyCopy a bank).judgeArea a).storeEnd 2 0
      else
        let s1 := (s.sealCopy a bank).judgeArea a
        let st := s1.judgeCopy a bank
        s1.storeEnd (if st = 0 then 2 else 3) st)

/-- One area of the patrol (R426): a copy that has left VALID is counted and reported. -/
def State.patrolArea (s : State) (a : Nat) : State :=
  let old := s.obj 0x2301 a
  let s1 := s.judgeArea a
  let now := s1.obj 0x2301 a
  [0, 1].foldl (fun st b =>
    if bitAt old 9 && bits old (4 * b) 4 == 0 && bits now (4 * b) 4 != 0 then
      (st.bump 0x2300 5).fire 1358 0
    else st) s1

/-- STORE_PATROL (R426): it gives way to a command. The store state reads 3 until the reference period ends (DESIGN CHOICE,
assumption log 111). -/
def execStorePatrol (s : State) : Host.Outcome State Fault Refusal :=
  .next (if s.storeClosed ∨ s.obj 0x2300 4 = 0 then s
    else ((upFrom 1 35).foldl (fun st a => st.patrolArea a) s).setObj 0x2300 1 3)

/-! ## Records in force (R405, R410, R411) -/

/-- The selected copy of an area as a record. -/
def State.recordOf (s : State) (a : Nat) : Option Force :=
  (s.selectedBank a).map (fun b => ⟨b, s.copySeq a b, false, s.copyImage a b⟩)

/-- Put a record in force for area `a`, or none. -/
def State.setForce (s : State) (a : Nat) (f : Option Force) : State :=
  { s with store := { s.store with force := match f with
    | some x => Tbl.put a x s.store.force
    | none => Tbl.del a s.store.force } }

/-- Mark in 0x2301 whether the applied skim coat supplies an area. -/
def State.markSkim (s : State) (a : Nat) (by' : Bool) : State :=
  s.setObj 0x2301 a (putBits (s.obj 0x2301 a) 10 1 (b2n by'))

/-- The records of area `a` in force: the skim coat's inner image, else the selected copy (R402, R411). -/
def State.forceArea (s : State) (skim : Option Force) (a : Nat) : State :=
  let inner : Option (Nat × List Byte) := match skim with
    | some f =>
      ((s.skimParse ((f.image.drop 64).take (fieldAt f.image 8 4))).getD []).find? (fun e => areaOfKind e.1 == a)
    | none => none
  match skim, inner with
  | some f, some e => (s.setForce a (some ⟨f.bank, f.seq, true, e.2⟩)).markSkim a true
  | _, _ => (s.setForce a (s.recordOf a)).markSkim a false

/-- The skim coat that a PRESENT BOOT names, 0 for none (R411). -/
def State.bootSkim (s : State) : Nat :=
  match s.recordOf 5 with
  | some f => fieldAt f.image 64 1
  | none => 0

/-- Select the skim coat that BOOT names (R411 step 3, R428): an ABSENT one selects none and sets the flag. -/
def State.selectSkim (s : State) : State × Option Force :=
  let n := s.bootSkim
  if n = 0 then ((s.setObj 0x2300 7 0).setForce 36 none, none)
  else
    let s1 := s.judgeArea (20 + n)
    match s1.recordOf (20 + n) with
    | some f => ((s1.setObj 0x2300 7 n).setForce 36 (some f), some f)
    | none =>
      let s2 := (s1.setObj 0x2300 7 0).setForce 36 none
      (if s1.areaAbsent (20 + n) then s2.setObj 0x2300 8 (s2.obj 0x2300 8 ||| 1) else s2, none)

/-! ## Applying records (R405, R411) -/

/-- BANK_DEFAULTS: the default pulls of the banks. -/
def State.applyPulls (s : State) : State :=
  match s.forceOf 3 with
  | some f => { s with power := { s.power with pulls := (upFrom 0 12).map (fun b => f.field b 1 % 4) } }
  | none => s

/-- Every port takes a new record at its next exit from OFF. -/
def State.reloadPorts (s : State) : State :=
  let s1 := { s with store := { s.store with reload := upFrom 0 32 } }
  (upFrom 0 32).foldl (fun st p => st.portCheck p) s1

/-- CROFT_MAP: the physical croft of every logical croft (R21, R22). -/
def State.applyCroftMap (s : State) : State :=
  match s.forceOf 1 with
  | some f =>
    { s with croftMap := (upFrom 0 1024).foldl (fun t k =>
        let p := f.field k 1
        if p = k % 128 then t else Tbl.put k p t) [] }
  | none => s

/-- REPAIR: every record is judged when it is applied (R144). -/
def State.applyRepairs (s : State) : State :=
  match s.forceOf 7 with
  | some f => (upFrom 0 (fieldAt f.image 8 4 / 8)).foldl (fun st i =>
      st.powerUpRepair (BitVec.ofNat 64 (f.field (8 * i) 8))) s
  | none => s

/-- The loader, which runs on core 15 (R415), writes an image to the scratchpad: a background test gives way to it
(R339), lines that cores hold are invalidated (R334), and reservations of other cores are cleared (R336; DEDUCED,
assumption log 100). -/
def State.writeImage (s : State) (off : Nat) (image : List Byte) : State :=
  if image = [] then s
  else
    (((s.scratchYield off image.length).invalidateNow 1028 off image.length 0).eccWriteBytes (scratchBase + off)
      (image.map (fun b => (b, true)))).breakReservations 1103 off image.length

/-- Write one firmware image to the scratchpad and give its cores their entry (R337, R415). -/
def State.writeFirmware (s : State) (e : FwEntry) : State :=
  let s1 := s.writeImage e.off e.image
  let s2 := (upFrom 0 16).foldl (fun st k =>
    if bitAt e.mask k then st.setCore k { st.core k with entry := some e.entry } else st) s1
  if e.mask = 0x8000 then { s2 with load := { s2.load with entry := some e.entry } } else s2

/-- The entries of the FIRMWARE record in force. -/
def State.firmware (s : State) : List FwEntry :=
  match s.forceOf 8 with
  | some f => (fwParse ((f.image.drop 64).take (fieldAt f.image 8 4))).getD []
  | none => []

/-- FIRMWARE: every image is written; the cores stay in reset. -/
def State.applyFirmware (s : State) : State := s.firmware.foldl (fun st e => st.writeFirmware e) s

/-- HEDGEROW_BASE of region `r`: frames written, flip-flops at INIT. -/
def State.applyBase (s : State) (r : Nat) : State :=
  match s.forceOf (9 + r) with
  | some f =>
    let s1 := s.eccWriteBytes (hedgeBase r) (((f.image.drop 64).take 532480).map (fun b => (b, true)))
    ((s1.setRegion r { s1.region r with configured := true, base := true }).initRegion r).reloadLines r
  | none => s

/-- The DICT_DEFAULTS entries in force. -/
def State.defaults (s : State) : List DictEntry :=
  match s.forceOf 6 with
  | some f => dictEntries ((f.image.drop 64).take (fieldAt f.image 8 4))
  | none => []

/-- R405: whether command 4 is accepted for area `a` now. -/
def State.applyAccepted (s : State) (a : Nat) : Bool :=
  match a with
  | 2 => true
  | 3 => true
  | 4 => true
  | 5 => s.dev == .prep
  | 6 => s.dev == .prep
  | 8 =>
    (s.forceArea (s.forceOf 36) 8).firmware.all (fun e =>
      (upFrom 0 16).all (fun k => !bitAt e.mask k || (s.core k).held))
  | _ => decide (9 ≤ a) && decide (a ≤ 20) && (s.dev == .prep || (s.region (a - 9)).sheet == .upLoadable)

/-- Command 4 (R405), the writes of DICT_DEFAULTS apart: those of areas 5 and 6 follow as management
writes, for which the command stays under way. A region whose frames refuse the lowering that follows them reports the code
as a lower command does (R302). -/
def State.storeApply (s : State) : WriteResult :=
  let a := s.obj 0x2302 1
  if s.storeClosed ∨ !s.applyAccepted a then .error abState
  else
    let skim := s.forceOf 36
    let s1 := s.judgeArea a
    match a with
    | 2 => .ok (((s1.forceArea skim 2).reloadPorts).storeEnd 2 0)
    | 3 => .ok (((s1.forceArea skim 3).applyPulls).storeEnd 2 0)
    | 4 => .ok (((s1.forceArea skim 4).reloadPorts).storeEnd 2 0)
    | 5 =>
      let (s2, skim2) := (s1.setForce 5 (s1.recordOf 5)).selectSkim
      let s3 := [2, 3, 4, 6, 8].foldl (fun st b => st.forceArea skim2 b) s2
      .ok (((s3.applyPulls).reloadPorts.applyFirmware).storeBusy 4 5 0)
    | 6 => .ok ((s1.forceArea skim 6).storeBusy 4 6 0)
    | 8 => .ok (((s1.forceArea skim 8).applyFirmware).storeEnd 2 0)
    | _ =>
      let s2 := ((s1.setForce a (s1.recordOf a)).applyBase (a - 9)).bankUpdate false (a - 9)
      let s3 := match s2.lowerRegion (a - 9) with
        | .ok st => st
        | .error _ => s2.noteLower (a - 9)
      .ok (s3.storeEnd 2 0)

/-- Write `v` to object 0x2302.`sub` (R428). -/
def State.writeStore (s : State) (sub v : Nat) : WriteResult :=
  match sub with
  | 1 => if v = 0 ∨ 35 < v then .error abInvalid else .ok (s.setObj 0x2302 1 v)
  | 2 => .ok (s.setObj 0x2302 2 v)
  | _ =>
    match v with
    | 1 => s.storeWrite
    | 2 => s.storeErase
    | 3 => s.storeMirror
    | 4 => s.storeApply
    | _ => .error abInvalid

/-! ## Keys and attestation (R406, R410, R429) -/

/-- Key command (R406, R429). -/
def State.writeKey (s : State) (v : Nat) : WriteResult :=
  let i := v % 4
  let st := s.obj 0x1100 5
  match v / 4 % 4 with
  | 1 =>
    if s.obj 0x1100 6 = 0 then .error abInvalid
    else if s.dev = .run ∨ i = 0 ∨ bitAt st i then .error abState
    else .ok ((s.setObj 0x1100 (i + 1) (s.obj 0x1100 6)).setObj 0x1100 5 (st ||| (1 <<< i)))
  | 2 =>
    if s.dev = .run ∨ (upFrom 0 4).filter s.slotGood = [i] then .error abState
    else .ok (s.setObj 0x1100 5 (st ||| (1 <<< (4 + i))))
  | _ => .error abInvalid

/-- A record-table entry (R410). -/
def forceEntry : Option Force → List Byte
  | none => leBytes 40 0
  | some f =>
    leBytes 1 (fieldAt f.image 6 1) ++ leBytes 1 (fieldAt f.image 7 1) ++ leBytes 1 f.bank ++
      leBytes 1 (b2n f.skim) ++ leBytes 4 f.seq ++
      leBytes 32 (Config.sha3_256 (f.image.take (64 + fieldAt f.image 8 4)))

/-- The unsigned part of an attestation report (R410). -/
def State.reportBody (s : State) : List Byte :=
  leBytes 4 0x54415747 ++ leBytes 2 0x6508 ++ leBytes 1 s.fuse.stepping ++ leBytes 1 s.fuse.grade ++
    leBytes 16 s.fuse.uid ++ leBytes 32 (s.obj 0x1110 1) ++
    leBytes 8 (s.nowValue / 2 ^ 32 % 2 ^ 64) ++ leBytes 1 s.dev.code ++ leBytes 1 (s.obj 0x2300 7) ++
    leBytes 2 0 ++ leBytes 4 (s.obj 0x1100 5) ++
    ((upFrom 0 4).flatMap (fun i => leBytes 32 (s.obj 0x1100 (i + 1)))) ++
    ((upFrom 1 20).flatMap (fun a => forceEntry (s.forceOf a))) ++ forceEntry (s.forceOf 36) ++
    leBytes 120 0 ++ leBytes 32 s.load.full ++ leBytes 32 (s.obj 0x2380 7) ++ leBytes 32 s.load.last ++
    leBytes 8 (s.obj 0x2380 8) ++ leBytes 16 0

/-- `n` bytes: those of a list, and zeros after them. -/
def sized (n : Nat) (l : List Byte) : List Byte := (l ++ List.replicate n 0).take n

/-- The whole report: the signature is over the digest of the body. -/
def State.reportBytes (s : State) : List Byte :=
  s.reportBody ++ sized 2420 (Config.attestSign (leBytes 32 (Config.sha3_256 s.reportBody)))

/-- The identity certificate (R410): identity, public key, and the signature over the digest of both. -/
def State.certificate (s : State) : List Byte :=
  let body := leBytes 16 s.fuse.uid ++ sized 1312 Config.identityKey
  body ++ sized 3309 (Config.certSign (leBytes 32 (Config.sha3_256 body)))

/-- `n` bytes at a listed offset of the configuration window (R427). -/
def State.configBytes (s : State) (off n : Nat) : List Byte :=
  if 0x2402000 ≤ off then sized n (s.certificate.drop (off - 0x2402000)) else s.bytes (configBase + off) n

/-- Attest command (R410, R429): the report reflects what is in force now. -/
def State.writeAttest (s : State) (v : Nat) : WriteResult :=
  if v ≠ 1 then .error abInvalid
  else if s.obj 0x1110 3 = 1 then .error abState
  else .ok ({ s with store := { s.store with report := s.reportBytes } }.setObj 0x1110 3 1)

/-- ATTEST_READY (R410). -/
def execAttestReady (s : State) : Host.Outcome State Fault Refusal :=
  .next (if s.obj 0x1110 3 = 1 then
      let s1 := s.setBytes (configBase + 0x2400000) s.store.report
      { s1 with store := { s1.store with report := [] } }.setObj 0x1110 3 2
    else s)

end Sys2Proof.Machine
end

