-- ==== Sys2Proof/Machine/LoadImage.lean ====
section
/-!
DEFINITION. The stencil image as the loader takes it apart (R257 to R260, R507), its signature (R409), and
binding and patching (R272 to R275): stages 1 to 3 of R261.
-/

namespace Sys2Proof.Machine

/-- A failure: its code of R277, the section-table index and the location of 0x2380.04 (R278). -/
abbrev LoadFail := Option (Nat × Nat × Nat)

/-- No section: the header or the section table (R278). -/
def noSec : Nat := 0xFFFF

/-- The location of 0x2380.04: stroke or entry, BP, operand (4 marks a gang operand), byte offset (R278). -/
def locOf (entry bp op off : Nat) : Nat :=
  entry % 1024 + bp % 64 * 2 ^ 10 + (if op = 4 then 2 ^ 18 else op % 4 * 2 ^ 16) + off * 2 ^ 32

/-- The first failure of a list. -/
def firstOf : List LoadFail → LoadFail
  | [] => none
  | some f :: _ => some f
  | none :: t => firstOf t

/-- A check as a failure. -/
def failIf (bad : Bool) (code sec loc : Nat) : LoadFail := if bad then some (code, sec, loc) else none

/-! ## Header and section table (R257 to R259) -/

/-- The header of an image (R257). -/
structure Header where
  kind : Nat
  level : Nat
  grade : Nat
  mode : Nat
  rota : Nat
  lag : Nat
  q : Nat
  length : Nat
  sysid : Nat
  nsect : Nat
  stab : Nat
  deriving DecidableEq, Repr

/-- Read the header. -/
def headerOf (img : List Byte) : Header where
  kind := fieldAt img 6 1
  level := fieldAt img 7 1
  grade := fieldAt img 8 1
  mode := fieldAt img 9 1
  rota := fieldAt img 0xA 2
  lag := fieldAt img 0xC 1
  q := fieldAt img 0xE 2
  length := fieldAt img 0x10 8
  sysid := fieldAt img 0x18 8
  nsect := fieldAt img 0x22 2
  stab := fieldAt img 0x24 4

/-- The contract levels that the stepping supports (R270). -/
def State.levelOk (s : State) (v : Nat) : Bool := v == 1 || (v == 2 && s.fuse.stepping == 0x43)

/-- The header's checks, by ascending byte offset (R257, R261); `staged` is the staged length. -/
def State.headerFail (s : State) (img : List Byte) (staged : Nat) : LoadFail :=
  let h := headerOf img
  let bad := fun (b : Bool) (code off : Nat) => failIf b code noSec (locOf 0 0 0 off)
  firstOf ([
    bad (fieldAt img 0 4 != 0x54535747) 0x0101 0,
    bad (fieldAt img 4 2 != 0x6508) 0x0103 4,
    bad (h.kind == 0 || decide (3 < h.kind)) 0x0104 6,
    bad (!s.levelOk h.level) 0x0105 7,
    bad (h.grade != s.strokeClock) 0x0106 8,
    bad (decide (1 < h.mode)) 0x0107 9,
    bad (decide (h.rota < 64) || decide (1024 < h.rota) || h.rota % 8 != 0) 0x0107 0xA,
    bad (h.lag != 1 && h.lag != 2) 0x0107 0xC,
    bad (!zeroAt img 0xD 1) 0x0107 0xD,
    bad (decide (staged < h.length) || decide (h.length < 64)) 0x0102 0x10,
    bad (decide (16383 < fieldAt img 0x20 2)) 0x0107 0x20,
    bad (h.nsect == 0 || decide (256 < h.nsect)) 0x0108 0x22,
    bad (decide (h.stab < 64) || decide (h.length < h.stab + 16 * h.nsect)) 0x0108 0x24] ++
    (upFrom 0x28 24).map (fun i => bad (!zeroAt img i 1) 0x0107 i))

/-- A section: its place in the section table, type, instance, offset, SIZE, CRC and bytes (R258). -/
structure Sec where
  idx : Nat
  typ : Nat
  inst : Nat
  off : Nat
  size : Nat
  crc : Nat
  data : List Byte
  deriving DecidableEq, Repr

/-- Entry `i` of the section table with its section's bytes. -/
def secAt (img : List Byte) (h : Header) (i : Nat) : Sec :=
  let e := (img.drop (h.stab + 16 * i)).take 16
  let off := fieldAt e 4 4
  let size := fieldAt e 8 4
  ⟨i, fieldAt e 0 2, fieldAt e 2 2, off, size, fieldAt e 12 4, (img.drop off).take size⟩

/-- The sections of an image, in section-table order. -/
def secsOf (img : List Byte) (h : Header) : List Sec := (upFrom 0 h.nsect).map (secAt img h)

/-- A defined TYPE (R259). -/
def typeOk (t : Nat) : Bool :=
  [0x10, 0x11, 0x12, 0x20, 0x21, 0x30, 0x38, 0x40, 0x50, 0x51, 0x52, 0x53, 0x54, 0x55, 0x60, 0x61, 0x68,
    0xF0].contains t

/-- The instances that a TYPE takes (R259). -/
def instOk (t i : Nat) : Bool :=
  match t with
  | 0x10 | 0x11 | 0x12 | 0x20 => decide (i < 1024)
  | 0x21 => (decide (1024 ≤ i) && decide (i < 1088)) || (decide (1123 ≤ i) && decide (i < 1127))
  | 0x30 => decide (i < 32)
  | 0x38 => decide (i < 4)
  | 0x52 => decide (i < 12)
  | 0x53 => true
  | 0x55 => decide (i < 9)
  | 0x68 => decide (i < 1024) || i == 0xFFFF
  | _ => i == 0

/-- Two byte ranges meet. -/
def rangesMeet (a n b m : Nat) : Bool :=
  n != 0 && m != 0 && decide (a < b + m) && decide (b < a + n)

/-- The checks of one entry of the section table (R258, R259). -/
def entryFail (h : Header) (secs : List Sec) (e : Sec) : LoadFail :=
  let earlier := secs.take e.idx
  let bad := fun (b : Bool) (code off : Nat) => failIf b code noSec (locOf e.idx 0 0 (16 * e.idx + off))
  firstOf [
    bad (!typeOk e.typ || earlier.any (fun a => a.typ == e.typ && a.inst == e.inst)) 0x0108 0,
    bad (!instOk e.typ e.inst) 0x0108 2,
    bad (decide (h.length < e.off + e.size)) 0x0102 4,
    bad (rangesMeet e.off e.size 0 64 || rangesMeet e.off e.size h.stab (16 * h.nsect) ||
      earlier.any (fun a => rangesMeet a.off a.size e.off e.size)) 0x0108 4,
    bad (e.typ == 0xF0 && (e.off + e.size != h.length ||
      secs.any (fun a => a.idx != e.idx && decide (e.off < a.off + a.size)))) 0x0108 4]

/-! ## Section set and lengths (R260, R507) -/

/-- The types that a kind permits (R260). -/
def kindPermits (kind t : Nat) : Bool :=
  match kind with
  | 1 => true
  | 2 => [0x10, 0x11, 0x68, 0xF0, 0x12, 0x20, 0x30, 0x60, 0x61].contains t
  | _ => [0xF0, 0x20, 0x30, 0x11, 0x21, 0x60, 0x61].contains t

/-- The section of a type and instance. -/
def findSec (secs : List Sec) (t i : Nat) : Option Sec := secs.find? (fun e => e.typ == t && e.inst == i)

/-- Whether there is a section of a type. -/
def hasType (secs : List Sec) (t : Nat) : Bool := secs.any (fun e => e.typ == t)

/-- The section set (R260). -/
def setFail (kind : Nat) (secs : List Sec) : LoadFail :=
  let one := fun (e : Sec) => failIf (!kindPermits kind e.typ ||
      (e.typ == 0x10 && ((findSec secs 0x11 e.inst).isNone || (findSec secs 0x68 e.inst).isNone)) ||
      (kind == 2 && e.typ == 0x10 && (secs.take e.idx).any (fun a => a.typ == 0x10)) ||
      (kind == 2 && e.typ == 0x68 && (findSec secs 0x10 e.inst).isNone)) 0x010A e.idx 0
  firstOf (secs.map one ++ [failIf (!hasType secs 0xF0 || (kind == 1 && !hasType secs 0x40) ||
      (kind == 2 && !hasType secs 0x10) || (kind == 3 && !hasType secs 0x20 && !hasType secs 0x30))
    0x010A noSec 0])

/-- The length of a section (R507). -/
def lengthOk (rota : Nat) (e : Sec) : Bool :=
  let n := e.size
  match e.typ with
  | 0x10 => n == 0x1010 + 640 * rota
  | 0x11 => n % 4 == 0
  | 0x12 => n == 8192
  | 0x20 => n == 30 * rota
  | 0x21 => if e.inst < 1088 then n % 4 == 0 else n % 8 == 0
  | 0x30 => n == 16 + 4 * rota
  | 0x38 => decide (4 ≤ n) && n == 0x1010 + 8 * fieldAt e.data 0 2 + 8 * fieldAt e.data 2 2
  | 0x40 => n == 224
  | 0x50 => decide (4096 ≤ n) && n % 8 == 0
  | 0x51 => n == 768
  | 0x52 => n == 532480
  | 0x53 => decide (24 ≤ n) && n == 32 + fieldAt e.data 16 8
  | 0x54 => decide (8 ≤ n) && n == 16 + 40 * fieldAt e.data 0 4 + 4 * fieldAt e.data 4 4
  | 0x55 => n == 32256
  | 0x60 => n % 16 == 0 && decide (n ≤ 65536)
  | 0x61 => n % 16 == 0
  | 0x68 => if e.inst = 0xFFFF then n == 6240 else n == 8 * rota
  | _ => true

/-- The section table, the section set, the lengths and the CRCs (R261, stage 1). -/
def tableFail (h : Header) (secs : List Sec) : LoadFail :=
  firstOf (secs.map (entryFail h secs) ++ [setFail h.kind secs] ++
    secs.map (fun e => failIf (!lengthOk h.rota e) 0x0108 noSec (locOf e.idx 0 0 (16 * e.idx + 8))) ++
    secs.map (fun e => failIf (crc32c e.data != e.crc) 0x0109 e.idx 0))

/-! ## Kind and system (R262, R417) -/

/-- Whether the kind is permitted (R417): `code` is the device state at the command. A croft image also needs
its croft UP_LOADABLE in RUN, HOLD and HALT, and a croft image or table update the swap state IDLE. -/
def State.kindPermitted (s : State) (kind code : Nat) (secs : List Sec) : Bool :=
  if kind = 1 then code == 3 || code == 4 || code == 6 || code == 7
  else
    (code == 4 || code == 5 || code == 6 || code == 7) && s.obj 0x4801 2 == 0 &&
      (kind != 2 || s.dev == .set || secs.all (fun e => e.typ != 0x10 || (s.croft e.inst).sheet == .upLoadable))

/-- R417, R262: BAD_KIND, then WRONG_SYSTEM at the first field that differs. -/
def State.systemFail (s : State) (h : Header) (secs : List Sec) : LoadFail :=
  let bad := fun (b : Bool) (off : Nat) => failIf b 0x010C noSec (locOf 0 0 0 off)
  if !s.kindPermitted h.kind s.load.state secs then some (0x0104, noSec, locOf 0 0 0 6)
  else if h.kind = 1 then none
  else firstOf [bad (h.level != s.level) 7, bad (h.mode != s.load.mode) 9, bad (h.rota != s.rotaLen) 0xA,
    bad (h.lag != s.lag) 0xC, bad (h.sysid != s.obj 0x2380 8) 0x18]

/-! ## Signature (R409) -/

/-- The signed bytes: those before the SIGNATURE section, the CRC of its own table entry taken as zero. -/
def signedBytes (img : List Byte) (h : Header) (sig : Sec) : List Byte :=
  let at' := h.stab + 16 * sig.idx + 12
  (img.take at' ++ leBytes 4 0 ++ img.drop (at' + 4)).take sig.off

/-- Stage 2. -/
def State.signatureFail (s : State) (img : List Byte) (h : Header) (secs : List Sec) : LoadFail :=
  match findSec secs 0xF0 0 with
  | some sig => (s.trailerFault (signedBytes img h sig) sig.data).map (fun off => (0x010B, sig.idx, locOf 0 0 0 off))
  | none => none

/-! ## Binding (R272, R273) -/

/-- A record of 16 bytes as a number. -/
def rec16 (bs : List Byte) (i : Nat) : Nat := fieldAt bs (16 * i) 16

/-- Symbol entry `i` keeps its codes and ranges (R272). -/
def symbolBad (e : Nat) : Bool :=
  let kind := bits e 0 4
  let align := bits e 6 6
  kind == 0 || decide (3 < kind) || bits e 12 52 != 0 || (kind != 1 && bits e 4 2 != 0) ||
    (kind == 1 && (decide (align < 7) || decide (35 < align) || bits e 64 64 == 0)) ||
    (kind == 2 && decide (47 < align))

/-- A value that a symbol refuses (R272). -/
def valueBad (e v : Nat) : Bool :=
  let limit := bits e 64 64
  v % 2 ^ bits e 6 6 != 0 ||
    (match bits e 0 4 with
      | 1 => v / 0xC0000000 != bits e 4 2 || (v + limit - 1) / 0xC0000000 != bits e 4 2
      | 2 => decide (2 ^ 48 < v + limit)
      | _ => decide (limit < v))

/-- The values that the bind block gives symbol `i`. -/
def boundTo (bind : List Byte) (i : Nat) : List Nat :=
  ((upFrom 0 (bind.length / 16)).filter (fun j => bits (rec16 bind j) 0 16 == i)).map (fun j =>
    bits (rec16 bind j) 64 64)

/-- The value of symbol `i`. -/
def symbolValue (bind : List Byte) (i : Nat) : Nat := (boundTo bind i).headD 0

/-- The checks of the bind block, which is no section (R273). -/
def blockFail (secs : List Sec) (bind : List Byte) : LoadFail :=
  let n := (((findSec secs 0x60 0).map (·.data)).getD []).length / 16
  firstOf (failIf (bind.length % 16 != 0) 0x0201 noSec 0 ::
    (upFrom 0 (bind.length / 16)).map (fun j =>
      failIf (bits (rec16 bind j) 16 48 != 0 || decide (n ≤ bits (rec16 bind j) 0 16)) 0x0201 noSec
        (locOf j 0 0 (16 * j))))

/-- The checks of the symbols (R272, R273), in the order of the section. -/
def bindFail (secs : List Sec) (bind : List Byte) : LoadFail :=
  let sec := findSec secs 0x60 0
  let data := (sec.map (·.data)).getD []
  let idx := (sec.map (·.idx)).getD noSec
  let loc := fun i => locOf i 0 0 (16 * i)
  firstOf ((upFrom 0 (data.length / 16)).flatMap (fun i =>
    [failIf (symbolBad (rec16 data i)) 0x0205 idx (loc i),
      failIf ((boundTo bind i).length != 1) 0x0201 idx (loc i),
      failIf (valueBad (rec16 data i) (symbolValue bind i)) 0x0202 idx (loc i)]))

/-! ## Patches (R274, R275) -/

/-- Byte offset of the word of BP `b` at stroke `w` in a CROFT section (R263). -/
def wordOff (rota b w : Nat) : Nat := 0x1010 + (b * rota + w) * 10

/-- The croft that an OPERAND_BIT record names. -/
def patchCroft (r : Nat) : Nat := bits r 49 3 * 128 + bits r 42 7

/-- Reserved codes and fields of a record (R274). -/
def patchReserved (r : Nat) : Bool :=
  match bits r 0 4 with
  | 1 => bitAt r 23 || bits r 52 76 != 0
  | 2 => bits r 24 8 != 0
  | _ => true

/-- The bytes that a DATA_LE record writes: section, first offset, width. -/
def dataSpan (r : Nat) : Nat × Nat × Nat := (bits r 32 16, bits r 48 32, 2 ^ bits r 16 2)

/-- Whether a record names a target of the image that R275 accepts. -/
def patchTargetOk (h : Header) (secs : List Sec) (r : Nat) : Bool :=
  match bits r 0 4 with
  | 1 =>
    match findSec secs 0x10 (patchCroft r) with
    | some e =>
      let w := bits r 32 10
      let word := fieldAt e.data (wordOff h.rota (bits r 26 6) w) 10
      decide (w < h.rota) && BitVec.ofNat 80 word == makeWord (BitVec.ofNat 72 word) &&
        decide (0xFFE ≤ bits word (8 + 12 * bits r 24 2) 12)
    | none => false
  | _ =>
    let (sec, off, width) := dataSpan r
    match secs[sec]? with
    | some e => [0x53, 0x54, 0x50, 0x21].contains e.typ && decide (off + width ≤ e.size)
    | none => false

/-- Two records that write one selector or one byte (R275). -/
def patchesMeet (a b : Nat) : Bool :=
  if bits a 0 4 ≠ bits b 0 4 then false
  else if bits a 0 4 = 1 then bits a 24 28 == bits b 24 28
  else
    let (s, x, m) := dataSpan a
    let (t, y, n) := dataSpan b
    s == t && rangesMeet x m y n

/-- The records of the PATCHES section. -/
def patchRecords (secs : List Sec) : List Nat :=
  match findSec secs 0x61 0 with
  | some e => (upFrom 0 (e.data.length / 16)).map (rec16 e.data)
  | none => []

/-- The checks of the patches. -/
def patchFail (h : Header) (secs : List Sec) : LoadFail :=
  let idx := ((findSec secs 0x61 0).map (·.idx)).getD noSec
  let rs := patchRecords secs
  let symbols := ((findSec secs 0x60 0).map (fun e => e.data.length / 16)).getD 0
  firstOf ((upFrom 0 rs.length).map (fun i =>
    let r := getAt 0 rs i
    let bad := fun (b : Bool) (code : Nat) => failIf b code idx (locOf i 0 0 (16 * i))
    firstOf [bad (patchReserved r) 0x0205, bad (decide (symbols ≤ bits r 4 12)) 0x0201,
      bad (!patchTargetOk h secs r) 0x0203, bad ((rs.take i).any (patchesMeet r)) 0x0204]))

/-- Replace bytes from an offset on. -/
def putBytes (bs : List Byte) (off : Nat) (new : List Byte) : List Byte :=
  bs.take off ++ new ++ bs.drop (off + new.length)

/-- Apply one record to the sections (R275): a constant selector and a fresh check byte, or data. -/
def applyPatch (h : Header) (bind : List Byte) (secs : List Sec) (r : Nat) : List Sec :=
  let v := symbolValue bind (bits r 4 12)
  if bits r 0 4 = 1 then
    secs.map (fun e =>
      if e.typ = 0x10 ∧ e.inst = patchCroft r then
        let off := wordOff h.rota (bits r 26 6) (bits r 32 10)
        let one := xor (bitAt v (bits r 16 6)) (bitAt r 22)
        let w := putBits (fieldAt e.data off 9) (8 + 12 * bits r 24 2) 12 (0xFFE + b2n one)
        { e with data := putBytes e.data off (leBytes 10 (makeWord (BitVec.ofNat 72 w)).toNat) }
      else e)
  else
    let (sec, off, width) := dataSpan r
    let x : Int := ((v : Int) + signed 48 (bits r 80 48)) / (2 ^ bits r 18 6 : Nat)
    secs.map (fun e =>
      if e.idx = sec then { e with data := putBytes e.data off (leBytes width (pattern 64 x)) } else e)

/-- Every record applied. -/
def patched (h : Header) (bind : List Byte) (secs : List Sec) : List Sec :=
  (patchRecords secs).foldl (applyPatch h bind) secs

/-- Stage 3: failures in section-table order, then those of the bind block. -/
def stage3Fail (h : Header) (secs : List Sec) (bind : List Byte) : LoadFail :=
  let a := bindFail secs bind
  let b := patchFail h secs
  match findSec secs 0x60 0, findSec secs 0x61 0 with
  | some x, some y => if y.idx < x.idx then firstOf [b, a, blockFail secs bind] else firstOf [a, b, blockFail secs bind]
  | _, _ => firstOf [a, b, blockFail secs bind]

end Sys2Proof.Machine
end

