-- ==== Sys2Proof/Machine/LoadWrite.lean ====
section
/-!
DEFINITION. What an accepted image writes (R260 to R268, R417): the stores of every section, and the whole
shadow bank of every router and port for a croft image or table update.
-/

namespace Sys2Proof.Machine

/-! ## Crofts (R263, R276, R99) -/

/-- The words that differ from the NOP among strokes 0 to L − 1 of a CROFT section. -/
def sectionWords (rota : Nat) (d : List Byte) : Tbl (BitVec 80) :=
  ((upFrom 0 64).flatMap (fun b => (upFrom 0 rota).map (fun w =>
    (b * 1024 + w, BitVec.ofNat 80 (fieldAt d (wordOff rota b w) 10))))).filter (fun e => e.2 != nopWord)

/-- The initial state of BP `b` in a CROFT section. -/
def sectionState (d : List Byte) (b : Nat) : BitVec 512 := BitVec.ofNat 512 (fieldAt d (0x10 + 64 * b) 64)

/-- A croft with the contents of a CROFT section: every generation at the initial values, clear histories,
an empty write buffer, and the lower command open to it (R83, R86, R105). The rota-local stores are cleared at
once (DESIGN CHOICE, assumption log 84). -/
def CroftRec.withSection (c : CroftRec) (rota : Nat) (d : List Byte) : CroftRec :=
  let init := fun b => { c.bp b with
    out := false, hist := 0, committed := sectionState d b, pend := sectionState d b, read := sectionState d b
    wmask := 0, wval := 0 }
  { c with
    mode := fieldAt d 0 1, bankMask := BitVec.ofNat 4 (fieldAt d 1 1), words := sectionWords rota d
    bps := ((upFrom 0 64).map (fun b => (b, init b))).filter (fun e => e.2 != BpRec.zero)
    wbuf := [], newSection := decide (c.sheet = Sheet.upLoadable) }.clearLocal

/-- A CROFT section (R263): its stores, and its banks ACTIVE (R142). -/
def State.installCroft (s : State) (rota k : Nat) (d : List Byte) : State :=
  let s0 := s.uncacheAll k (s.croft k).snoop
  let s1 := (s0.setCroft k { s0.croft k with snoop := [] }).flushWbuf k
  let c := (s1.croft k).withSection rota d
  (s1.setCroft k c).activateBanks k c.bankMask

/-- A dust-sheet table; none is all LAST (R99, R259). -/
def State.installSheet (s : State) (k : Nat) (d : List Byte) : State :=
  (s.zeroRange (croftBase k + 0x206000) (croftBase k + 0x208000)).setBytes (croftBase k + 0x206000) d

/-- A CARE_MAP section (R276). -/
def State.installCare (s : State) (k : Nat) (d : List Byte) : State :=
  if k = 0xFFFF then
    { s with hedge := { s.hedge with
        care := ((upFrom 0 49920).filter (fun i => bitAt (fieldAt d (i / 8) 1) (i % 8))).map (fun i => (i, true)) } }
  else { s with load := { s.load with care := Tbl.set 0 s.load.care k (leNat d) } }

/-! ## Tables of routers and ports (R261, R265, R266) -/

/-- Bank `dst` of a table becomes a copy of bank `src`; a bank has `size` keys. -/
def Tbl.copyBank {α : Type} (size src dst : Nat) (t : Tbl α) : Tbl α :=
  let body := Tbl.slice (src * size) ((src + 1) * size) t
  let part := fun (b : Nat) => body.map (fun e => (e.1 + b * size, e.2))
  if src < dst then part src ++ part dst else part dst ++ part src

/-- The tables of one router from its OPN_TABLES section, in bank `b`; entries at strokes from L on are
NONE (R265). -/
def State.installRouter (s : State) (rota b n : Nat) (d : List Byte) : State :=
  (upFrom 0 1024).foldl (fun st u =>
    let field := fun (off w : Nat) => if u < rota then fieldAt d (off * rota + w * u) w else 0
    let route := fun (o : Nat) => if u < rota then BitVec.ofNat 24 (field (3 * o) 3) else routeNone
    let p := st.opn
    { st with opn := { p with
        routes := (upFrom 0 6).foldl (fun t o => Tbl.set routeNone t (routeKey b u n o) (route o)) p.routes
        injects := Tbl.set 0 p.injects (tableKey b u n) (BitVec.ofNat 24 (field 18 3))
        ejects := Tbl.set 0 p.ejects (tableKey b u n) (BitVec.ofNat 72 (field 21 9)) } }) s

/-- The tables of a port that no stencil uses. -/
def State.clearPort (s : State) (b p : Nat) : State :=
  let r := s.port p
  let lo := b * 1024
  let r1 : PortRec := { r with tx := Tbl.clearRange lo (lo + 1024) r.tx, rx := Tbl.clearRange lo (lo + 1024) r.rx }
  s.setPort p r1

/-- The tables of a port from its FRANEL_PORT section, in bank `b`. -/
def State.installPort (s : State) (rota b p : Nat) (d : List Byte) : State :=
  let s1 := s.clearPort b p
  let r := s1.port p
  let tx := (upFrom 0 rota).foldl (fun t u =>
    Tbl.set routeNone t (b * 1024 + u) (BitVec.ofNat 24 (fieldAt d (16 + 3 * u) 3))) r.tx
  let rx := (upFrom 0 rota).foldl (fun t u =>
    Tbl.set 0 t (b * 1024 + u) (BitVec.ofNat 8 (fieldAt d (16 + 3 * rota + u) 1))) r.rx
  s1.setPort p { r with tx := tx, rx := rx }

/-- The paces of a port (R218). -/
def State.installPaces (s : State) (p : Nat) (d : List Byte) : State :=
  (s.setObj (pObj p + 1) 1 (fieldAt d 0 1)).setObj (pObj p + 1) 2 (fieldAt d 1 1)

/-- Bank `b` of every router and port is emptied, and its agents' slot settings. -/
def State.clearBank (s : State) (b : Nat) : State :=
  let p := s.opn
  let big := 1024 * 1024
  let s1 := { s with opn := { p with
      routes := Tbl.clearRange (b * big * 8) ((b + 1) * big * 8) p.routes
      injects := Tbl.clearRange (b * big) ((b + 1) * big) p.injects
      ejects := Tbl.clearRange (b * big) ((b + 1) * big) p.ejects } }
  (upFrom 0 32).foldl (fun st i => st.clearPort b i) s1

/-- Bank `dst` of every router, port and agent becomes a copy of bank `src` (R261). -/
def State.copyBank (s : State) (src dst : Nat) : State :=
  let p := s.opn
  let big := 1024 * 1024
  let s1 := { s with opn := { p with
      routes := Tbl.copyBank (big * 8) src dst p.routes
      injects := Tbl.copyBank big src dst p.injects
      ejects := Tbl.copyBank big src dst p.ejects } }
  let s2 := (upFrom 0 32).foldl (fun st i =>
    let r := st.port i
    st.setPort i { r with tx := Tbl.copyBank 1024 src dst r.tx, rx := Tbl.copyBank 1024 src dst r.rx }) s1
  let s3 := (upFrom 0 64).foldl (fun st i =>
    let h := st.hinit i
    let act := h.slots.filter (fun e => e.bank == src)
    st.setHinit i { h with slots := act ++ act.map (fun e => { e with bank := dst }) }) s2
  (upFrom 0 4).foldl (fun st n =>
    let c := st.cellar n
    let act := c.slots.filter (fun e => e.bank == src)
    st.setCellar n { c with slots := act ++ act.map (fun e => { e with bank := dst }) }) s3

/-! ## Agents and cellars (R136, R267, R294) -/

/-- An entry of a hedgerow initiator's section. -/
def aslotOf (b e : Nat) : ASlot := ⟨b, bits e 0 10, bitAt e 10, bits e 11 6, bits e 17 5, bits e 22 2⟩

/-- An entry of a cellar controller's section. -/
def cslotOf (b e : Nat) : CSlot :=
  ⟨b, bits e 0 10, bitAt e 10, bits e 11 5, bits e 16 2, bits e 18 12, bits e 30 6, BitVec.ofNat 8 (bits e 36 8)⟩

/-- The entries of a section whose records take `n` bytes. -/
def entriesOf (n : Nat) (d : List Byte) : List Nat := (upFrom 0 (d.length / n)).map (fun i => fieldAt d (n * i) n)

/-- An AGENT_SLOTS section, for bank `b`. -/
def State.installAgent (s : State) (b inst : Nat) (d : List Byte) : State :=
  if inst < 1088 then
    let h := s.hinit (inst - 1024)
    s.setHinit (inst - 1024)
      { h with slots := h.slots.filter (fun e => e.bank != b) ++ (entriesOf 4 d).map (aslotOf b) }
  else
    let c := s.cellar (inst - 1123)
    s.setCellar (inst - 1123)
      { c with slots := c.slots.filter (fun e => e.bank != b) ++ (entriesOf 8 d).map (cslotOf b) }

/-- A slot binding (R267). -/
def bindingOf (e : Nat) : Binding where
  rd := bitAt e 16
  wr := bitAt e 15
  xpair := bitAt e 28
  req := bits e 17 11
  rstroke := bits e 0 10
  pch := bits e 10 5

/-- A CELLAR section; `extent` gives the first word and the words of a symbol (R267, R272). -/
def State.installCellar (s : State) (n : Nat) (d : List Byte) (extent : Nat → Nat × Nat) : State :=
  let nb := fieldAt d 0 2
  let nr := fieldAt d 2 2
  let refresh := (upFrom 0 32).foldl (fun t k =>
    Tbl.set 0 t (n * 32 + k) (fieldAt d (0x10 + 128 * k) 128)) s.load.refresh
  let s1 := { s with load := { s.load with refresh := refresh, cellars := s.load.cellars ++ [n] } }
  let c : CellarRec := { s1.cellar n with
    bindings := (entriesOf 8 ((d.drop 0x1010).take (8 * nb))).map bindingOf
    regions := (entriesOf 8 ((d.drop (0x1010 + 8 * nb)).take (8 * nr))).map (fun e => extent (bits e 0 12)) }
  s1.setCellar n c

/-! ## Bell (R253, R254, R256, R268) -/

/-- The holding stroke of R243. -/
def State.holdingOf (s : State) : Nat :=
  match s.bellParent with
  | some p => s.obj (0x2420 + p) 3 + 19
  | none => s.bellForm

/-- A BELL section. -/
def State.installBell (s : State) (h : Header) (d : List Byte) : State :=
  let s1 := (upFrom 0 32).foldl (fun st p =>
    ((st.setObj (0x2420 + p) 1 (fieldAt d (6 * p) 1)).setObj (0x2420 + p) 2 (fieldAt d (6 * p + 2) 2)).setObj
      (0x2420 + p) 3 (fieldAt d (6 * p + 4) 2)) s
  let s2 := (upFrom 0 4).foldl (fun st i => st.setObj 0x2402 (1 + i) (fieldAt d (192 + 4 * i) 4)) s1
  let s3 := s2.setObj 0x2401 1 h.q
  let role := match s3.bellParent with
    | none => 1
    | some _ => if s3.bellChildren.isEmpty then 3 else 2
  (s3.setObj 0x2401 2 s3.holdingOf).setObj 0x2401 3 role

/-! ## Troughs and tallies (R319, R332) -/

/-- A slot record (R319). -/
def tslotOf (e : Nat) : TSlot := ⟨bits e 0 10, bits e 10 3, bits e 13 6, bits e 19 5, bits e 24 2, bits e 26 3⟩

/-- The descriptor of trough `t` in a TROUGHS section. -/
def troughDesc (d : List Byte) (t : Nat) : Nat := fieldAt d (16 * t) 16

/-- The slot records of a TROUGHS section. -/
def troughRecords (d : List Byte) : List Nat := entriesOf 8 (d.drop 4096)

/-- Every trough from a TROUGHS section, or with none (R319, R323): reset, described, its records placed. -/
def State.installTroughs (s : State) (d : List Byte) : State :=
  let recs := troughRecords d
  (upFrom 0 256).foldl (fun st t =>
    let e := troughDesc d t
    let s1 := st.resetTrough t
    let s2 := (((s1.setObj (tObj t) 1 (bits e 0 2)).setObj (tObj t) 2 (bits e 2 2 + bits e 4 4 * 16)).setObj
      (tObj t) 3 (bits e 8 10)).setObj (tObj t) 4 (bits e 64 64)
    s2.setTrough t { s2.trough t with slots := ((recs.drop (bits e 32 16)).take (bits e 48 8)).map tslotOf }) s

/-- The fields of a tally record (R332) as sub-index and value, each in the encoding of its object (R331): the
reserved flags are ignored (R8). -/
def tallyFields (d : List Byte) (n : Nat) : List (Nat × Nat) :=
  let f := fun off w => fieldAt d (48 * n + off) w
  [(1, f 0 1), (4, f 1 1 % 32), (6, f 2 2), (9, f 4 4), (2, f 8 8), (3, f 16 8), (5, f 24 8)]

/-- A TALLIES section: the objects of R331. -/
def State.installTallies (s : State) (d : List Byte) : State :=
  (upFrom 0 16).foldl (fun st n =>
    let w := fieldAt d (48 * n) 1
    (tallyFields d n).foldl (fun x e =>
      x.setObj (yObj n) e.1 (if e.1 = 2 ∨ e.1 = 3 ∨ e.1 = 5 then e.2 % 2 ^ w else e.2)) (st.tallySettle n)) s

/-! ## Hedgerow (R304, R417) -/

/-- A HEDGEROW section: its frames, with the flip-flops at INIT. -/
def State.installRegion (s : State) (r : Nat) (d : List Byte) : State :=
  let s1 := s.eccWriteBytes (hedgeBase r) (d.map (fun b => (b, true)))
  ((s1.setRegion r { s1.region r with configured := true, base := false }).initRegion r).reloadLines r

/-- A region that the stencil does not name keeps its base image, or stays unconfigured (R417). -/
def State.keepRegion (s : State) (r : Nat) : State :=
  let x := s.region r
  if !x.configured ∨ x.base then s
  else
    let s1 := s.zeroRange (hedgeBase r) (hedgeBase r + 532480)
    ((s1.setRegion r { x with configured := false }).applyBase r).reloadLines r

/-! ## Verger, firmware, watch units (R351, R352, R380) -/

/-- Every task returns to IDLE, and the table is cleared (R352). -/
def State.clearTasks (s : State) : State :=
  let s1 := { s with
    tasks := Tbl.mapVals 0 (fun r => BitVec.ofNat 256 (withState r.toNat tsIdle)) s.tasks, ready := [] }
  let s2 := (upFrom 0 16).foldl (fun st k =>
    let st1 := (st.setCause k 0 false).setCause k 1 false
    st1.setCore k { st1.core k with task := none, dispatch := false, preempt := none }) s1
  s2.zeroRange (vergerBase + 0x20000) (vergerBase + 0x28000)

/-- Task record `i` of a VERGER section: index, flags and record. -/
def taskRecord (d : List Byte) (i : Nat) : Nat × Nat × Nat :=
  let off := 16 + 40 * i
  (fieldAt d off 2, fieldAt d (off + 2) 1, fieldAt d (off + 8) 32)

/-- Successor record `i` of a VERGER section: table entry and content. -/
def successorRecord (d : List Byte) (i : Nat) : Nat × Nat :=
  let off := 16 + 40 * fieldAt d 0 4 + 4 * i
  (fieldAt d off 2, fieldAt d (off + 2) 2)

/-- A VERGER section (R352). -/
def State.installVerger (s : State) (d : List Byte) : State :=
  let ts := (upFrom 0 (fieldAt d 0 4)).map (taskRecord d)
  let s1 := ts.foldl (fun st t => st.setTask t.1 t.2.2) s
  let s2 := (upFrom 0 (fieldAt d 4 4)).foldl (fun st i =>
    let (e, v) := successorRecord d i
    st.setLe (vergerBase + 0x20000 + 2 * e) 2 v) s1
  { s2 with load := { s2.load with tasks := (ts.filter (fun t => bitAt t.2.1 0)).map (·.1) } }

/-- The image of a FIRMWARE section (R351). -/
def fwOf (inst : Nat) (d : List Byte) : FwEntry := ⟨inst, fieldAt d 0 8, fieldAt d 8 8, d.drop 32⟩

/-- A FIRMWARE section: its image, and its cores released at its entry (R337, R419). -/
def State.installFirmware (s : State) (inst : Nat) (d : List Byte) : State :=
  let s1 := s.writeFirmware (fwOf inst d)
  let s2 := { s1 with load := { s1.load with cores := s1.load.cores ||| inst } }
  (upFrom 0 16).foldl (fun st k =>
    if !bitAt inst k then st else (if (st.core k).held then st else st.resetCore k).releaseCore k) s2

/-- The settings of a unit that a WATCH section gives, as (object offset, sub-index, value) (R380). -/
def watchFields (d : List Byte) : List (Nat × Nat × Nat) :=
  let f := fun off w => fieldAt d off w
  let sixteen := fun (o base : Nat) => (upFrom 0 16).map (fun i => (o, i + 1, f (base + 8 * i) 8))
  [(1, 1, f 0 1), (1, 2, f 8 4), (1, 3, f 1 1), (1, 4, f 2 1), (6, 1, f 3 1), (6, 2, f 4 1 % 2),
    (6, 6, f 0x10 2), (6, 7, f 0x12 1)] ++ sixteen 2 0x20 ++ sixteen 3 0xA0 ++ sixteen 4 0x120 ++
    (upFrom 0 8).map (fun i => (5, i + 1, f (0x1A0 + 8 * i) 8))

/-- The window tables of a WATCH section: window offset, offset in the section, length (R378, R380). -/
def watchTables : List (Nat × Nat × Nat) :=
  [(offProbe, 0x200, 0x2000), (offSelect, 0x2200, 0x400), (offCond, 0x2600, 0x800), (offMask, 0x2E00, 0x4000),
    (offTemplate, 0x6E00, 0x1000)]

/-- A unit is reset to IDLE and takes a section's contents, or every default (R380). Spill settings are not
part of a section. -/
def State.installWatch (s : State) (u : Nat) (d : Option (List Byte)) : State :=
  let s1 := s.watchReset u
  let dflt := fun (st : State) (o i : Nat) => st.setObj (wObj u + o) i (objDefault (wObj u + o) i)
  let wipe := [2, 3, 4, 5].foldl (fun st o => (upFrom 1 16).foldl (fun x i => dflt x o i) st)
    ([(1, 1), (1, 2), (1, 3), (1, 4), (6, 1), (6, 2), (6, 6), (6, 7)].foldl (fun st e => dflt st e.1 e.2) s1)
  let clean := wipe.zeroRange (watchBase u + offProbe) (watchBase u + 0x2000000)
  match d with
  | none => dflt (dflt clean 1 5) 1 6
  | some bs =>
    let s2 := (watchFields bs).foldl (fun st e =>
      st.setObj (wObj u + e.1) e.2.1 ((watchSetting u e.1 e.2.1 e.2.2).getD 0)) clean
    let s3 := watchTables.foldl (fun st t =>
      st.windowPut u t.1 (((bs.drop t.2.1).take t.2.2).map (fun b => (b, true)))) s2
    if bitAt (fieldAt bs 0 8) 33 then { s3 with load := { s3.load with units := s3.load.units ++ [u] } } else s3

/-! ## Whole images -/

/-- The sections of a type, in section-table order. -/
def secsWith (secs : List Sec) (t : Nat) : List Sec := secs.filter (fun e => e.typ == t)

/-- Fold over the sections of a type. -/
def installEach (secs : List Sec) (t : Nat) (f : State → Sec → State) (s : State) : State :=
  (secsWith secs t).foldl f s

/-- What a full stencil and a croft image or table update both write, tables in bank `b`. -/
def State.installCommon (s : State) (h : Header) (b : Nat) (secs : List Sec) : State :=
  let s1 := installEach secs 0x10 (fun st e =>
    (st.installCroft h.rota e.inst e.data).installSheet e.inst []) s
  let s2 := installEach secs 0x12 (fun st e => st.installSheet e.inst e.data) s1
  let s3 := installEach secs 0x68 (fun st e => st.installCare e.inst e.data) s2
  let s4 := installEach secs 0x20 (fun st e => st.installRouter h.rota b e.inst e.data) s3
  let s5 := installEach secs 0x30 (fun st e => st.installPort h.rota b e.inst e.data) s4
  installEach secs 0x21 (fun st e => st.installAgent b e.inst e.data) s5

/-- What a load of a full stencil leaves loaded before its own sections: no stencil (R417, R253, R278). -/
def State.unload (s : State) : State :=
  let s1 := [(0x2400, 1), (0x2400, 2), (0x2401, 1), (0x2401, 2), (0x2401, 3), (0x2401, 4), (0x2401, 9),
    (0x2402, 1), (0x2402, 2), (0x2402, 3), (0x2402, 4), (0x2380, 6), (0x2380, 8)].foldl
      (fun st e => st.setObj e.1 e.2 (objDefault e.1 e.2))
      ((upFrom 1 20).foldl (fun st i => st.setObj 0x2410 i (objDefault 0x2410 i)) s)
  let s2 := (upFrom 0 32).foldl (fun st p =>
    [(0x2420 + p, 1), (0x2420 + p, 2), (0x2420 + p, 3), (pObj p + 1, 1), (pObj p + 1, 2)].foldl
      (fun x e => x.setObj e.1 e.2 0) st) s1
  let s3 := (upFrom 0 4).foldl (fun st n =>
    st.setCellar n { st.cellar n with
      bindings := [], slots := [], regions := [], rx := [], ready := [], pend := [], log := [], recent := [] }) s2
  let s4 := s3.freshCrofts
  let l := s4.load
  { s4 with
    crofts := Tbl.mapVals .blank (fun c => { c with mode := 0, bankMask := 0 }) s4.crofts, debug := false
    bell := s4.bell.idle, phase := .idle, halts := [], uncorrected := []
    load := { l with
      present := false, mode := 0, care := [], refresh := [], cores := 0, cellars := [], ports := []
      tasks := [], units := [], full := 0 } }

/-- Every instruction word becomes the NOP, which fills what a full stencil leaves empty (R55). -/
def State.emptyWords (s : State) : State :=
  { s with crofts := Tbl.mapVals .blank (fun c => { c with words := [] }) s.crofts }

/-- The state that a full stencil leaves: every store written, the device in SET (R261, R417). Image kind,
level and SYSID come last. -/
def State.installFull (s : State) (h : Header) (secs : List Sec) (extent : Nat → Nat × Nat) : State :=
  let b := s.opn.active
  let data := fun t => ((secsWith secs t).head?.map (·.data))
  let s1 := s.unload.clearSheetTables.emptyWords.clearBank b
  let s2 := { s1 with opn := { s1.opn with swapArmed := false } }
  let s3 := (s2.setObj 0x4801 2 0).setObj 0x4801 6 0
  let s4 := (upFrom 0 64).foldl (fun st i => st.setHinit i { st.hinit i with slots := [] }) s3
  let s5 := ({ s4 with hedge := { s4.hedge with care := [] } }.setObj 0x2400 1 h.rota).setObj 0x2400 2 h.lag
  let s6 := (s5.setObj 0x2380 6 h.level).setObj 0x2380 8 h.sysid
  let s7 := s6.installCommon h b secs
  let s8 := installEach secs 0x38 (fun st e => st.installCellar e.inst e.data extent) s7
  let s9 := installEach secs 0x30 (fun st e => st.installPaces e.inst e.data) s8
  let s10 := s9.installTroughs ((data 0x50).getD [])
  let s11 := installEach secs 0x51 (fun st e => st.installTallies e.data) s10
  let s12 := (upFrom 0 12).foldl (fun st r => match findSec secs 0x52 r with
    | some e => st.installRegion r e.data
    | none => st.keepRegion r) s11
  let s13 := installEach secs 0x54 (fun st e => st.installVerger e.data) s12.clearTasks
  let s14 := installEach secs 0x53 (fun st e => st.installFirmware e.inst e.data) s13
  let s15 := (upFrom 0 9).foldl (fun st u => st.installWatch u ((findSec secs 0x55 u).map (·.data))) s14
  let s16 := installEach secs 0x40 (fun st e => st.installBell h e.data) s15
  { s16 with
    debug := h.mode == 1
    load := { s16.load with present := true, mode := h.mode, ports := (secsWith secs 0x30).map (·.inst) } }

/-- The state that a croft image or table update leaves (R261). -/
def State.installPartial (s : State) (h : Header) (secs : List Sec) : State :=
  let a := s.bankNow
  let s1 := (s.copyBank a (1 - a)).installCommon h (1 - a) secs
  { s1 with opn := { s1.opn with shadowOk := true } }

/-- The state as it will stand after acceptance (R262). -/
def State.install (s : State) (h : Header) (secs : List Sec) (extent : Nat → Nat × Nat) : State :=
  if h.kind = 1 then s.installFull h secs extent else s.installPartial h secs

end Sys2Proof.Machine
end

