-- ==== Sys2Proof/Machine/LoadCheck.lean ====
section
/-!
DEFINITION. Stage 4 of the loader (R261): the rules of each section. A check reads the section's bytes and
the state as it will stand after acceptance.
-/

namespace Sys2Proof.Machine

/-! ## Instruction words (R35, R43 to R46, R50, R52, R56, R60, R62, R64, R65, R67, R72, R73, R85, R91) -/

/-- The payload of BP `b`, word `w`. -/
def CroftRec.payload (c : CroftRec) (b w : Nat) : Nat := (c.word b w).toNat % 2 ^ 72

/-- X mode. -/
def CroftRec.xmode (c : CroftRec) : Bool := c.mode == 2

/-- A sub-operation that R52 accepts; that of SEND is judged under R72. -/
def subAccepted (cls sub : Nat) (x : Bool) : Bool :=
  match cls with
  | 0 => sub == 0 || (x && (sub == 1 || sub == 2))
  | 1 => sub == 0
  | 2 => !x && decide (sub < 4)
  | 3 => !x && decide (1 ≤ sub) && decide (sub < 4)
  | 4 => decide (sub < 7)
  | 5 => sub == 0 || sub == 2 || (!x && (sub == 1 || sub == 3))
  | 6 => decide (sub < 2)
  | _ => true

/-- How many words of BP `b` latch state index `x` (R44). -/
def CroftRec.latchers (c : CroftRec) (rota b x : Nat) : Nat :=
  ((upFrom 0 rota).filter (fun i => wClass (c.payload b i) == 1 && wD (c.payload b i) % 512 == x)).length

/-- The carry rule for word `i` of BP `b` (R44). -/
def CroftRec.carryOk (c : CroftRec) (rota b i : Nat) : Bool :=
  let p := c.payload b i
  wClass p == 1 && !wHold p && c.latchers rota b (wD p % 512) == 1

/-- The code of a selector of BP `b` at stroke `w`, 0 when it is accepted; the landing of an arrival bit is a
rule of stage 5 (R43 to R46, R65, R85). -/
def CroftRec.selectorCode (c : CroftRec) (rota lag b w sel : Nat) : Nat :=
  let i := sel % 1024
  match sel / 1024 with
  | 0 => if rota ≤ i then 0x0303 else if w ≤ i ∧ !c.carryOk rota b i then 0x0304 else 0
  | 1 => if c.xmode ∧ i / 16 % 2 = 1 then 0x0303 else if w < i % 16 + 1 then 0x0305 else 0
  | 2 => if c.xmode ∧ i % 2 = 1 then 0x0303 else 0
  | _ =>
    if 0x220 ≤ i ∧ i ≤ 0x3FD then 0x0303
    else if c.xmode ∧ 0x200 ≤ i ∧ i < 0x220 ∧ bitAt i 2 then 0x0303
    else if lag = 2 ∧ 0x180 ≤ i ∧ i < 0x200 then 0x030B
    else 0

/-- The selectors that the word reads, with their operand numbers; 4 marks the gang operand (R55, R74). -/
def CroftRec.selectors (c : CroftRec) (b w : Nat) : List (Nat × Nat) :=
  let p := c.payload b w
  let lead := c.payload (b / 4 * 4) w
  let gang := (wClass p == 2 || wClass p == 3) && wClass lead == 2 && wSub lead == 0
  if wNop p then []
  else [(0, wA p), (1, wB p), (2, wC p)] ++ (if wClass p = 1 then [] else [(3, wD p)]) ++
    (if gang then [(4, (wTT p).toNat % 4096)] else [])

/-- The gang at BPs 4g to 4g + 3 stands as R73 asks. -/
def CroftRec.gangPlaced (c : CroftRec) (b w : Nat) : Bool :=
  (upFrom 0 4).all (fun m =>
    let p := c.payload (b / 4 * 4 + m) w
    if m = 0 then wClass p == 2 else wClass p == 3 && wSub p == m)

/-- The TT field breaks R50, R67 or R73. -/
def CroftRec.ttBad (c : CroftRec) (b w : Nat) : Bool :=
  let p := c.payload b w
  let tt := (wTT p).toNat
  match wClass p with
  | 0 => wSub p == 2 && decide (256 ≤ tt)
  | 1 => decide (256 ≤ tt)
  | 2 | 3 => if wSub (c.payload (b / 4 * 4) w) = 0 then decide (4096 ≤ tt) else tt != 0
  | _ => false

/-- Address changes of a word: MEM_ADDR, or a post-increment (R60). -/
def addrChange (p : Nat) : Bool :=
  wClass p == 4 || (wClass p == 5 && (wSub p == 2 || wSub p == 3)) || (wClass p == 6 && wSub p == 1)

/-- A memory access (R60). -/
def memAccess (p : Nat) : Bool := wClass p == 5 || wClass p == 6

/-- An earlier BP of the channel that issues the same use at stroke `w` (R60). -/
def CroftRec.channelTwice (c : CroftRec) (b w : Nat) (use : Nat → Bool) : Bool :=
  use (c.payload b w) && (upFrom (b / 16 * 16) (b % 16)).any (fun i => use (c.payload i w))

/-- The lanes that a SEND writes (R62, R72). -/
def sendLanes (x : Bool) (p : Nat) : List Nat :=
  if wClass p ≠ 7 then [] else if x then [wSub p, wSub p + 1] else [wSub p]

/-- An earlier BP writes a lane of this SEND at stroke `w` (R62). -/
def CroftRec.laneTwice (c : CroftRec) (b w : Nat) : Bool :=
  (sendLanes c.xmode (c.payload b w)).any (fun n =>
    (upFrom 0 b).any (fun i => (sendLanes c.xmode (c.payload i w)).contains n))

/-- The place of the first MEM_WRITE beyond what R91 allows, as `b * rota + w`. -/
def CroftRec.writeLimit (c : CroftRec) (rota : Nat) : Option Nat :=
  let at' := (upFrom 0 (64 * rota)).filter (fun i => wClass (c.payload (i / rota) (i % rota)) == 6)
  (at'.drop (min rota 512 / (if c.xmode then 2 else 1))).head?

/-- The first rule that the word of BP `b` at stroke `w` breaks, with the operand; `word` is the word as the
section gives it and `limit` the place of R91. -/
def CroftRec.wordFail (c : CroftRec) (rota lag b w word : Nat) (limit : Option Nat) : Option (Nat × Nat) :=
  let p := word % 2 ^ 72
  let cls := wClass p
  let rule := fun (bad : Bool) (code : Nat) => if bad then some (code, 0) else none
  let sels := (c.selectors b w).findSome? (fun e =>
    let code := c.selectorCode rota lag b w e.2
    if code = 0 then none else some (code, e.1))
  if BitVec.ofNat 80 word = nopWord then none
  else
    [rule (BitVec.ofNat 80 word != makeWord (BitVec.ofNat 72 p)) 0x0301,
      rule (c.xmode && b % 2 == 1) 0x030D,
      rule (cls == 7 && c.xmode && wSub p % 2 == 1) 0x030A,
      rule (!subAccepted cls (wSub p) c.xmode || ((cls == 2 || cls == 3) && wHold p) ||
        (cls == 3 && wWatch p)) 0x0302,
      rule ((cls == 2 || cls == 3) && !c.gangPlaced b w) 0x0308,
      sels,
      rule (!wNop p && c.ttBad b w) 0x0307,
      (if cls = 1 ∧ lag = 2 ∧ 0x180 ≤ wD p % 512 then some (0x030B, 3) else none),
      rule (c.channelTwice b w memAccess || c.channelTwice b w addrChange) 0x0309,
      rule (c.laneTwice b w) 0x030A,
      rule (limit == some (b * rota + w)) 0x030C].findSome? id

/-- A CROFT section (R263). -/
def croftFail (t : State) (h : Header) (e : Sec) : LoadFail :=
  let c := t.croft e.inst
  let d := e.data
  let limit := c.writeLimit h.rota
  let head := fun (b : Bool) (code off : Nat) => failIf b code e.idx (locOf 0 0 0 off)
  firstOf ([head (fieldAt d 0 1 != 1 && fieldAt d 0 1 != 2) 0x030E 0, head (decide (16 ≤ fieldAt d 1 1)) 0x030E 1] ++
    (upFrom 2 14).map (fun i => head (!zeroAt d i 1) 0x030E i) ++
    (upFrom 0 64).flatMap (fun b => (upFrom 48 16).map (fun i =>
      failIf (h.lag == 2 && !zeroAt d (0x10 + 64 * b + i) 1) 0x030B e.idx (locOf 0 b 0 (0x10 + 64 * b + i)))) ++
    (upFrom 0 64).flatMap (fun b => (upFrom 0 h.rota).map (fun w =>
      let off := wordOff h.rota b w
      (c.wordFail h.rota h.lag b w (fieldAt d off 10) limit).map (fun f => (f.1, e.idx, locOf w b f.2 off)))))

/-! ## Other sections of a croft (R99, R101, R264, R276) -/

/-- A DUST_SHEET section (R99, R101). -/
def sheetFail (t : State) (e : Sec) : LoadFail :=
  let x := (t.croft e.inst).xmode
  firstOf ((upFrom 0 8192).map (fun i =>
    let b := fieldAt e.data i 1
    let v := fieldAt e.data (i - 1) 1
    let unpaired := x && i % 2 == 1 && (upFrom 0 4).any (fun j => bits b (2 * j) 2 == 1 && bits v (2 * j) 2 != 1)
    failIf ((upFrom 0 4).any (fun j => bits b (2 * j) 2 == 3) || unpaired) 0x0401 e.idx (locOf (i / 8) 0 0 i)))

/-- An ARRIVAL_MAP section by itself (R48, R264). -/
def arrivalFail (h : Header) (e : Sec) : LoadFail :=
  let es := entriesOf 4 e.data
  let key := fun v : Nat => bits v 0 10 * 256 + bits v 10 8
  firstOf ((upFrom 0 es.length).map (fun i =>
    let v := getAt 0 es i
    let prev := getAt 0 es (i - 1)
    firstOf [failIf (bits v 18 14 != 0 || decide (h.rota ≤ bits v 0 10) || (i != 0 && decide (key v < key prev))) 0x0508
        e.idx (locOf i 0 0 (4 * i)),
      failIf (i != 0 && key v == key prev) 0x0306 e.idx (locOf (bits v 0 10) 0 0 (4 * i))]))

/-- A CARE_MAP section of a croft (R276). -/
def careFail (t : State) (h : Header) (e : Sec) : LoadFail :=
  let c := t.croft e.inst
  if e.inst = 0xFFFF then none
  else
    firstOf ((upFrom 0 64).flatMap (fun b => (upFrom 0 h.rota).map (fun w =>
      let i := b * h.rota + w
      let cared := bitAt (fieldAt e.data (i / 8) 1) (i % 8)
      let odd := c.xmode && b % 2 == 1
      let bad := if cared then odd else c.mode != 0 && c.payload b w != nopPayload.toNat
      failIf bad 0x0402 e.idx (locOf w b 0 (i / 8)))))

/-! ## Tables (R159 to R161, R163, R166, R216, R218) -/

/-- Whether router `n` has input or output `i`: N, E, S, W, then INJ or EJ, then ATT (R151, R152). -/
def hasSide (n i : Nat) : Bool :=
  match i with
  | 0 => decide (32 ≤ n)
  | 1 => n % 32 != 31
  | 2 => decide (n < 992)
  | 5 => (portAt n).isSome
  | _ => true

/-- The code that a source field of output `o` of router `n` earns at stroke `u`, 0 when none (R160, R163). -/
def sourceCode (rota n o u f : Nat) : Nat :=
  let i := f % 8
  if 32 ≤ f ∨ i = 6 then 0x0501
  else if i = 7 then 0
  else if !hasSide n i ∨ !hasSide n o then 0x0501
  else if u % 64 = 63 ∨ u + 1 = rota then 0x0504
  else if o = 4 ∧ i = 4 then 0x0503
  else 0

/-- An eject field that breaks R161; `x` says that the target croft is in X mode. -/
def ejectBad (x : Bool) (f : Nat) : Bool :=
  let mask := bits f 0 8
  bitAt f 17 || (bitAt f 16 && (!x || (upFrom 0 4).any (fun m => bitAt mask (2 * m) != bitAt mask (2 * m + 1)))) ||
    (upFrom 0 8).any (fun n => bitAt mask n && decide (255 < bits f 8 8 + n))

/-- An OPN_TABLES section by itself (R265). -/
def routerFail (t : State) (h : Header) (e : Sec) : LoadFail :=
  let x := (t.croft (croftAt e.inst)).xmode
  let rota := h.rota
  let fail := fun (code u off : Nat) => if code = 0 then none else some (code, e.idx, locOf u 0 0 off)
  firstOf ((upFrom 0 6).flatMap (fun o => (upFrom 0 rota).flatMap (fun u =>
      let off := 3 * (o * rota + u)
      (upFrom 0 4).map (fun q => fail (sourceCode rota e.inst o u (bits (fieldAt e.data off 3) (6 * q) 6)) u off))) ++
    (upFrom 0 rota).map (fun u =>
      let off := 18 * rota + 3 * u
      let bad := (upFrom 0 8).any (fun n =>
        let f := bits (fieldAt e.data off 3) (3 * n) 3
        decide (1 ≤ f) && decide (f ≤ 3))
      fail (if bad then 0x0506 else 0) u off) ++
    (upFrom 0 rota).map (fun u =>
      let off := 21 * rota + 9 * u
      let bad := (upFrom 0 4).any (fun q => ejectBad x (bits (fieldAt e.data off 9) (18 * q) 18))
      fail (if bad then 0x0507 else 0) u off))

/-- A FRANEL_PORT section by itself (R216, R218, R266). -/
def portFail (t : State) (h : Header) (e : Sec) : LoadFail :=
  let d := e.data
  let rota := h.rota
  let at' := fun (bad : Bool) (code u off : Nat) => failIf bad code e.idx (locOf u 0 0 off)
  let pace := fun i => decide (fieldAt d i 1 < 12) || decide (112 < fieldAt d i 1)
  firstOf ([at' (t.portMode e.inst == 0) 0x0605 0 0, at' (pace 0) 0x0601 0 0, at' (pace 1) 0x0601 0 1] ++
    (upFrom 2 14).map (fun i => at' (!zeroAt d i 1) 0x0601 0 i) ++
    (upFrom 0 rota).flatMap (fun u =>
      let off := 16 + 3 * u
      (upFrom 0 4).flatMap (fun q =>
        let f := bits (fieldAt d off 3) (6 * q) 6
        let i := f % 8
        [at' (decide (32 ≤ f) || i == 5 || i == 6 || i == 1 + e.inst % 4) 0x0602 u off,
          at' (i != 7 && decide (rota ≤ u + fieldAt d 1 1)) 0x0604 u off])) ++
    (upFrom 0 rota).map (fun u =>
      let off := 16 + 3 * rota + u
      let b := fieldAt d off 1
      at' (decide (16 ≤ b) || (b != 0 && decide (u < fieldAt d 0 1))) 0x0603 u off))

/-! ## Cellars (R127, R132, R136, R267) -/

/-- Accesses of a pseudo-channel that start at stroke `u`: two for XPAIR (R267). -/
def accessesAt (bs : List Binding) (k u : Nat) : Nat :=
  (bs.filter (fun b => b.pch == k && b.rstroke == u)).foldl (fun n b => n + (if b.xpair then 2 else 1)) 0

/-- Some 64 consecutive strokes of pseudo-channel `k` break R127; `refresh` is its refresh map. -/
def budgetBad (rota : Nat) (bs : List Binding) (k refresh : Nat) : Bool :=
  (upFrom 0 rota).any (fun u =>
    let win := (upFrom u 64).map (fun v => v % rota)
    decide (28 < win.foldl (fun n v => n + accessesAt bs k v) 0) ||
      decide ((win.filter (bitAt refresh)).length < 2))

/-- A CELLAR section by itself (R132, R267); `secs` holds the symbols. -/
def cellarFail (t : State) (h : Header) (secs : List Sec) (e : Sec) : LoadFail :=
  let d := e.data
  let c := t.cellar e.inst
  let nb := fieldAt d 0 2
  let nr := fieldAt d 2 2
  let symbols := ((findSec secs 0x60 0).map (·.data)).getD []
  let at' := fun (bad : Bool) (code n off : Nat) => failIf bad code e.idx (locOf n 0 0 off)
  let writes : Nat := c.bindings.foldl (fun n b => if b.wr then n + (if b.xpair then 2 else 1) else n) 0
  firstOf ([at' (nb == 0 || decide (4096 < nb)) 0x0704 0 0, at' (nr == 0 || decide (256 < nr)) 0x0703 0 2] ++
    (upFrom 4 12).map (fun i => at' (!zeroAt d i 1) 0x0704 0 i) ++
    [at' (decide (2048 < writes)) 0x0702 0 0x1010] ++
    (upFrom 0 nb).map (fun i =>
      let off := 0x1010 + 8 * i
      let v := fieldAt d off 8
      let b := bindingOf v
      at' (bits v 29 35 != 0 || decide (h.rota ≤ b.rstroke) || decide (1088 ≤ b.req)) 0x0704 i off) ++
    (upFrom 0 nr).map (fun i =>
      let off := 0x1010 + 8 * nb + 8 * i
      let v := fieldAt d off 8
      let sym := rec16 symbols (bits v 0 12)
      let r := getAt (0, 0) c.regions i
      at' (bits v 12 52 != 0 || decide (symbols.length ≤ 16 * bits v 0 12) || bits sym 0 4 != 1 ||
        bits sym 4 2 != e.inst || (c.regions.take i).any (fun q => rangesMeet q.1 q.2 r.1 r.2)) 0x0703 i off))

/-- An AGENT_SLOTS section of a cellar controller by itself (R136). A stroke outside the rota, and a list out of order,
which R138 does not list, earn the code of a broken entry (DESIGN CHOICE, assumption log 106). -/
def cslotFail (t : State) (h : Header) (e : Sec) : LoadFail :=
  let nb := (t.cellar (e.inst - 1123)).bindings.length
  let es := entriesOf 8 e.data
  let key := fun v : Nat => bits v 0 11 % 1024 * 2 + bits v 10 1
  firstOf ((upFrom 0 es.length).map (fun i =>
    let v := getAt 0 es i
    failIf (bits v 44 20 != 0 || decide (nb ≤ bits v 18 12) || bits v 36 8 == 0 || decide (h.rota ≤ bits v 0 10) ||
      (i != 0 && decide (key v < key (getAt 0 es (i - 1))))) 0x0E01 e.idx (locOf i 0 0 (8 * i))))

/-- An AGENT_SLOTS section of a hedgerow initiator by itself (R294). -/
def aslotFail (h : Header) (e : Sec) : LoadFail :=
  let es := entriesOf 4 e.data
  let rx := fun v : Nat => bitAt v 10
  firstOf ((upFrom 0 es.length).map (fun i =>
    let v := getAt 0 es i
    failIf (bits v 24 8 != 0 || decide (h.rota ≤ bits v 0 10) ||
      (i != 0 && decide (bits v 0 10 < bits (getAt 0 es (i - 1)) 0 10)) ||
      (rx v && (es.take i).any (fun w => rx w && bits w 0 10 == bits v 0 10 && bits w 11 6 == bits v 11 6)))
      0x0B09 e.idx (locOf i 0 0 (4 * i))))

/-! ## Bell (R254, R256, R268) -/

/-- A BELL section by itself. -/
def bellFail (h : Header) (e : Sec) : LoadFail :=
  let d := e.data
  let at' := fun (bad : Bool) (code n off : Nat) => failIf bad code e.idx (locOf n 0 0 off)
  let role := fun p => fieldAt d (6 * p) 1
  let fallow := fun i => fieldAt d (192 + 4 * i) 4
  firstOf ((upFrom 0 32).flatMap (fun p =>
      [at' (decide (2 < role p) || (role p == 1 && (upFrom 0 p).any (fun q => role q == 1))) 0x0802 p (6 * p),
        at' (!zeroAt d (6 * p + 1) 1) 0x0802 p (6 * p + 1)]) ++
    [at' (decide (fallow 0 < 64) || decide (65535 < fallow 0)) 0x0805 0 192,
      at' (decide (fallow 1 < (if h.grade = 13 then 1820 else 2240)) || decide (65535 < fallow 1)) 0x0805 0 196,
      at' (decide (fallow 2 < 64)) 0x0805 0 200, at' (decide (fallow 3 < 64)) 0x0805 0 204] ++
    (upFrom 208 16).map (fun i => at' (!zeroAt d i 1) 0x0805 0 i))

/-! ## Troughs and tallies (R319, R321, R332) -/

/-- The rules of a descriptor by itself (R319). -/
def descBad (d : List Byte) (t : Nat) : Bool :=
  let v := troughDesc d t
  bits v 0 2 == 3 || (bits v 0 2 == 2 && bits v 2 2 != 0) || decide (512 < bits v 8 10) || bits v 18 14 != 0 ||
    bits v 56 8 != 0 || decide ((troughRecords d).length < bits v 32 16 + bits v 48 8)

/-- The code of slot record `i` among the records `es` of a trough of direction `dir` (R319, R321). -/
def recordCode (rota dir : Nat) (es : List TSlot) (i : Nat) (e : TSlot) : Nat :=
  let mine := es.filter (fun x => x.slot == e.slot)
  let control := mine.find? (fun x => x.kind == 0)
  let twice := (es.take i).any (fun x => x.slot == e.slot && x.kind == e.kind)
  match control with
  | none => 0x0902
  | some c =>
    if 4 ≤ e.kind ∨ rota ≤ e.stroke ∨ (e.kind ≠ 0 ∧ e.nibble ≠ 0) ∨ twice then 0x0902
    else if dir = 2 ∧ (e.kind = 1 ∨ e.kind = 2) ∧ e.stroke ≠ c.stroke then 0x0902
    else if dir = 1 ∧ e.kind ≠ 0 ∧ e.stroke < c.stroke + 2 then 0x0903
    else 0

/-- A TROUGHS section by itself. -/
def troughsFail (h : Header) (e : Sec) : LoadFail :=
  let d := e.data
  let recs := troughRecords d
  let at' := fun (bad : Bool) (code n off : Nat) => failIf bad code e.idx (locOf n 0 0 off)
  firstOf ((upFrom 0 256).flatMap (fun i =>
      [at' (descBad d i) 0x0901 i (16 * i)]) ++
    (upFrom 0 recs.length).flatMap (fun j =>
      let v := getAt 0 recs j
      at' (bits v 29 35 != 0 || decide (h.rota ≤ bits v 0 10) || decide (4 ≤ bits v 10 3)) 0x0902 j (4096 + 8 * j) ::
      ((upFrom 0 256).filter (fun i =>
        let w := troughDesc d i
        decide (bits w 32 16 ≤ j) && decide (j < bits w 32 16 + bits w 48 8))).map (fun i =>
          let w := troughDesc d i
          let es := ((recs.drop (bits w 32 16)).take (bits w 48 8)).map tslotOf
          let code := recordCode h.rota (bits w 0 2) es (j - bits w 32 16) (tslotOf v)
          at' (code != 0) code j (4096 + 8 * j))))

/-- A TALLIES section: the values that R331 refuses, and reserved bytes (R332). -/
def talliesFail (e : Sec) : LoadFail :=
  let d := e.data
  firstOf ((upFrom 0 16).flatMap (fun n =>
    let o := 48 * n
    let at' := fun (bad : Bool) (code off : Nat) => failIf bad code e.idx (locOf n 0 0 (o + off))
    [at' (fieldAt d o 1 == 0 || decide (64 < fieldAt d o 1)) 0x0921 0,
      at' (bits (fieldAt d (o + 1) 1) 3 2 == 3) 0x0921 1,
      at' (!sourceOk (fieldAt d (o + 2) 2)) 0x0922 2, at' (!zeroAt d (o + 0x20) 16) 0x0921 0x20]))

/-! ## Green sections (R304, R351, R352, R380) -/

/-- A HEDGEROW section by itself. -/
def regionFailOf (t : State) (e : Sec) : LoadFail :=
  (framesFail (t.frames e.inst) (t.cells e.inst)).map (fun f => (f.1, e.idx, locOf 0 0 0 f.2))

/-- A FIRMWARE section (R351, R415). -/
def firmwareFail (secs : List Sec) (e : Sec) : LoadFail :=
  let f := fwOf e.inst e.data
  let other := (secsWith secs 0x53).filter (fun x => x.idx != e.idx)
  firstOf [failIf (!fwHeaderOk e.data) 0x0C01 e.idx 0,
    failIf (decide (0x800000 < f.off + f.image.length) || bitAt e.inst 15 ||
      (!f.image.isEmpty && rangesMeet f.off f.image.length 0x780000 0x80000) ||
      other.any (fun x => fwOverlap f (fwOf x.inst x.data))) 0x0C02 e.idx 0]

/-- A VERGER section (R352). -/
def vergerFail (t : State) (e : Sec) : LoadFail :=
  let d := e.data
  let ts := (upFrom 0 (fieldAt d 0 4)).map (taskRecord d)
  firstOf ([failIf (!zeroAt d 8 8) 0x0C03 e.idx (locOf 0 0 0 8)] ++
    (upFrom 0 ts.length).flatMap (fun i =>
      let (n, flags, r) := getAt (0, 0, 0) ts i
      let loc := locOf i 0 0 (16 + 40 * i)
      [failIf (decide (4095 < n) || (ts.take i).any (fun x => x.1 == n) || decide (2 ≤ flags) ||
          !zeroAt d (16 + 40 * i + 3) 5 || (r &&& taskRoMask) != 0) 0x0C03 e.idx loc,
        failIf (bitAt flags 0 && t.armRefused r) 0x0C04 e.idx loc]) ++
    (upFrom 0 (fieldAt d 4 4)).map (fun i =>
      let (n, v) := successorRecord d i
      failIf (decide (16383 < n) || decide (4095 < v)) 0x0C05 e.idx
        (locOf i 0 0 (16 + 40 * fieldAt d 0 4 + 4 * i))))

/-- A template table of 512 bytes breaks R373; `dec` is its decoder's setting, which gives the beat width. Of the table
of a decoder that is no template decoder only the reserved bytes are judged (R381; assumption log 95). -/
def templateBad (d : List Byte) (dec : Nat) : Bool :=
  let beats := fieldAt d 8 2
  let frame := beats * (bits dec 59 5 + 1)
  !zeroAt d 10 6 || !zeroAt d 0x4C 436 ||
    (upFrom 0 15).any (fun f => !zeroAt d (0x10 + 4 * f + 2) 2) ||
    (dec % 8 == 5 && (beats == 0 || decide (8 < beats) ||
      (upFrom 0 15).any (fun f =>
        let v := fieldAt d (0x10 + 4 * f) 4
        decide (2 ^ 14 ≤ v) || decide (frame < bits v 0 8 + bits v 8 5 + 1))))

/-- A WATCH section (R356, R358, R373, R380, R381); bytes 6 and 7 of a sequencer word and byte 7 of a condition word
are reserved (R382). -/
def watchFail (e : Sec) : LoadFail :=
  let d := e.data
  let u := e.inst
  let at' := fun (bad : Bool) (code off : Nat) => failIf bad code e.idx (locOf 0 0 0 off)
  let set := fun (o i v off : Nat) => at' ((watchSetting u o i v).isNone) 0x0D02 off
  let first := fieldAt d 0 8
  let eight := fun (o base n pad : Nat) => (upFrom 0 n).flatMap (fun i =>
    let off := base + 8 * i
    [set o (i + 1) (fieldAt d off 8) off, at' (!zeroAt d (off + 8 - pad) pad) 0x0D02 (off + 8 - pad)])
  firstOf ([set 1 1 (fieldAt d 0 1) 0, set 1 3 (fieldAt d 1 1) 1, set 6 1 (fieldAt d 3 1) 3,
      at' (bits first 34 30 != 0) 0x0D02 4, at' (!zeroAt d 12 4) 0x0D02 12, set 6 6 (fieldAt d 0x10 2) 0x10,
      at' (!zeroAt d 0x13 13) 0x0D02 0x13] ++
    eight 2 0x20 16 2 ++ eight 3 0xA0 16 1 ++ eight 4 0x120 16 0 ++ eight 5 0x1A0 8 0 ++
    [at' (!zeroAt d 0x1E0 32) 0x0D02 0x1E0] ++
    (upFrom 0 4096).map (fun i =>
      let v := fieldAt d (0x200 + 2 * i) 2
      at' (if u = 8 then v != 0 else i % 32 != 0 && !probeOk v) 0x0D03 (0x200 + 2 * i)) ++
    (upFrom 0 512).map (fun i => at' (decide (4096 ≤ fieldAt d (0x2200 + 2 * i) 2)) 0x0D03 (0x2200 + 2 * i)) ++
    (upFrom 0 8).map (fun i =>
      let bs := (d.drop (0x6E00 + 512 * i)).take 512
      let dec := fieldAt d (0x1A0 + 8 * i) 8
      at' (templateBad bs dec) 0x0D04 (0x6E00 + 512 * i)))

/-! ## Stage 4 -/

/-- The checks of one section (R261). -/
def sectionFail (t : State) (h : Header) (secs : List Sec) (e : Sec) : LoadFail :=
  match e.typ with
  | 0x10 => croftFail t h e
  | 0x11 => arrivalFail h e
  | 0x12 => sheetFail t e
  | 0x20 => routerFail t h e
  | 0x21 => if e.inst < 1088 then aslotFail h e else cslotFail t h e
  | 0x30 => portFail t h e
  | 0x38 => cellarFail t h secs e
  | 0x40 => bellFail h e
  | 0x50 => troughsFail h e
  | 0x51 => talliesFail e
  | 0x52 => regionFailOf t e
  | 0x53 => firmwareFail secs e
  | 0x54 => vergerFail t e
  | 0x55 => watchFail e
  | 0x68 => careFail t h e
  | _ => none

/-- The croft of a croft image against what stays loaded beside it (R262): the eject map of its router in bank `b`, and its
dust sheet, where the image carries none (R99, R161). They stand in no section of the image, so they are judged after its
sections (DESIGN CHOICE, assumption log 110). -/
def standingFail (t : State) (h : Header) (secs : List Sec) (b : Nat) (e : Sec) : LoadFail :=
  let n := nodeOf e.inst
  let x := (t.croft e.inst).xmode
  let eject := fun u => (Tbl.get 0 t.opn.ejects (tableKey b u n)).toNat
  let sheet := croftBase e.inst + 0x206000
  let router := if (findSec secs 0x20 n).isSome then none else
    firstOf ((upFrom 0 h.rota).map (fun u =>
      failIf ((upFrom 0 4).any (fun q => ejectBad x (bits (eject u) (18 * q) 18))) 0x0507 noSec (locOf u 0 0 0)))
  let dust := if (findSec secs 0x12 e.inst).isSome then none else
    sheetFail t ⟨noSec, 0x12, e.inst, 0, 8192, 0, t.bytes sheet 8192⟩
  firstOf [router, dust]

/-- Stage 4, in section-table order, over the device as it will stand (R261, R262). -/
def stage4Fail (t : State) (h : Header) (secs : List Sec) (b : Nat) : LoadFail :=
  firstOf (secs.map (sectionFail t h secs) ++
    (if h.kind = 2 then (secsWith secs 0x10).map (standingFail t h secs b) else []))

end Sys2Proof.Machine
end

