-- ==== Sys2Proof/Machine/LoadJoin.lean ====
section
/-!
DEFINITION. Stage 5 of the loader (R261): the rules that join sections, over the device as it will stand
after acceptance. `b` is the table bank that the image fills.
-/

namespace Sys2Proof.Machine

/-! ## What the tables name (R158 to R163) -/

/-- The section index of a type and instance, or `noSec` when the image does not carry it. -/
def idxOf (secs : List Sec) (typ inst : Nat) : Nat := ((findSec secs typ inst).map (·.idx)).getD noSec

/-- The route entry of output `o` of router `n` at stroke `u`. -/
def State.routeEntry (t : State) (b u n o : Nat) : Nat := (Tbl.get routeNone t.opn.routes (routeKey b u n o)).toNat

/-- Source field of quad `q` of an entry. -/
def sourceField (e q : Nat) : Nat := bits e (6 * q) 6

/-- Whether an output names a source for quad `q` at stroke `u`, where `d` strokes have passed since. -/
def State.namedAt (t : State) (b n o u d q : Nat) : Bool :=
  decide (d ≤ u) && sourceField (t.routeEntry b (u - d) n o) q % 8 != 7

/-- The inject entry of router `n` at stroke `u`. -/
def State.injectEntry (t : State) (b u n : Nat) : Nat := (Tbl.get 0 t.opn.injects (tableKey b u n)).toNat

/-- The receive entry of port `p` at stroke `u`. -/
def State.rxMarks (t : State) (b p u : Nat) : Nat := (Tbl.get 0 (t.port p).rx (b * 1024 + u)).toNat

/-- The transmit entry of port `p` at stroke `u`. -/
def State.txFields (t : State) (b p u : Nat) : Nat := (Tbl.get routeNone (t.port p).tx (b * 1024 + u)).toNat

/-! ## Green agents (R136, R294, R319) -/

/-- A slot entry of a green agent: the section and byte offset that give it, its place there, the code of a
broken R294, direction, stroke, green port and quad position, and for a trough's receive record the trough and its NIBBLE. -/
structure Green where
  sec : Nat
  off : Nat
  num : Nat
  code : Nat
  rx : Bool
  stroke : Nat
  gport : Nat
  pquad : Nat
  nibble : Option (Nat × Nat)
  deriving DecidableEq, Repr

/-- The list with its positions. -/
def numbered {α : Type} : Nat → List α → List (Nat × α)
  | _, [] => []
  | i, a :: t => (i, a) :: numbered (i + 1) t

/-- The slot entries of every green agent in bank `b`. -/
def State.greens (t : State) (secs : List Sec) (b : Nat) : List Green :=
  let hedge := (upFrom 0 64).flatMap (fun i =>
    (numbered 0 ((t.hinit i).slots.filter (fun e => e.bank == b))).map (fun (j, e) =>
      (⟨idxOf secs 0x21 (1024 + i), 4 * j, j, 0x0B09, e.dir, e.stroke, e.gport, e.pquad, none⟩ : Green)))
  let cellars := (upFrom 0 4).flatMap (fun n =>
    (numbered 0 ((t.cellar n).slots.filter (fun e => e.bank == b))).map (fun (j, e) =>
      (⟨idxOf secs 0x21 (1123 + n), 8 * j, j, 0x0E04, !e.dir, e.stroke, e.gport, e.pquad, none⟩ : Green)))
  let desc := ((findSec secs 0x50 0).map (·.data)).getD []
  let troughs := (upFrom 0 256).flatMap (fun i =>
    let first := bits (troughDesc desc i) 32 16
    let outbound := t.obj (tObj i) 1 == 2
    (numbered first (t.trough i).slots).map (fun (j, e) =>
      let rx := e.kind == 0 || (outbound && (e.kind == 1 || e.kind == 2))
      (⟨idxOf secs 0x50 0, 4096 + 8 * j, j, 0x0904, rx, e.stroke, e.gport, e.pquad,
        if rx then some (i, e.nibble) else none⟩ : Green)))
  hedge ++ cellars ++ troughs

/-- Entry `x` stands before entry `y`; `i` and `j` are their places in the list. -/
def Green.before (x y : Green) (i j : Nat) : Bool :=
  decide (x.sec < y.sec) || (x.sec == y.sec && (decide (x.off < y.off) || (x.off == y.off && decide (i < j))))

/-- Whether two receive records of different troughs take one NIBBLE (R319). -/
def nibbleShared : Option (Nat × Nat) → Option (Nat × Nat) → Bool
  | some x, some y => x.1 != y.1 && x.2 == y.2
  | _, _ => false

/-- Two entries that R294 and R319 do not allow together. -/
def Green.clash (x y : Green) : Bool :=
  x.stroke == y.stroke && x.gport == y.gport && x.pquad == y.pquad &&
    ((!x.rx && !y.rx) || nibbleShared x.nibble y.nibble)

/-- Whether the quad of a transmit entry is used, or that of a receive entry filled (R163, R294). -/
def State.greenUsed (t : State) (b : Nat) (e : Green) : Bool :=
  let n := 32 * e.gport
  if e.rx then t.namedAt b n 3 e.stroke (linkDelay t.level n 3) e.pquad
  else
    let u := e.stroke + handOffDelay t.level
    (upFrom 0 6).any (fun o => (upFrom 0 4).any (fun q => sourceField (t.routeEntry b u n o) q == 3 + 8 * e.pquad))

/-- R294 for every slot entry. -/
def State.greenFails (t : State) (b : Nat) (gs : List Green) : List LoadFail :=
  let all := numbered 0 gs
  all.map (fun (i, e) =>
    failIf (all.any (fun (j, x) => x.before e j i && x.clash e) || !t.greenUsed b e) e.code e.sec
      (locOf e.num 0 0 e.off))

/-! ## Routes (R158, R163) -/

/-- The dimension order of R158, hop by hop: input `i` may feed output `o` of router `n`. -/
def orderOk (n o i : Nat) : Bool :=
  match o with
  | 0 => i != 0
  | 1 => i == 3 || i == 4 || i == 5
  | 2 => i != 2
  | 3 => i == 1 || i == 4 || i == 5 || (n % 32 == 0 && (i == 0 || i == 2))
  | _ => true

/-- Whether quad `q` of input `i` of router `n` is filled at stroke `u` (R163, R216, R294). -/
def State.filled (t : State) (b : Nat) (gs : List Green) (n i q u : Nat) : Bool :=
  match i with
  | 4 => decide (1 ≤ u) && (upFrom 0 8).any (fun l => bits (t.injectEntry b (u - 1) n) (3 * l) 3 == 4 + q)
  | 5 =>
    match portAt n with
    | some p => bitAt (t.rxMarks b p u) q
    | none => false
  | _ =>
    match neighbour n i with
    | some (m, o) =>
      if 1024 ≤ m then
        gs.any (fun e => !e.rx && e.gport == m - 1024 && e.pquad == q && e.stroke + handOffDelay t.level == u)
      else t.namedAt b m o u (linkDelay t.level m o) q
    | none => false

/-- The joins of one route entry. -/
def State.routeJoin (t : State) (secs : List Sec) (rota b : Nat) (gs : List Green) (key e : Nat) : LoadFail :=
  let o := key % 8
  let n := key / 8 % 1024
  let u := key / 8 / 1024 % 1024
  let sec := idxOf secs 0x20 n
  let loc := locOf u 0 0 (3 * (o * rota + u))
  firstOf ((upFrom 0 4).flatMap (fun q =>
    let f := sourceField e q
    let i := f % 8
    if i = 7 then []
    else [failIf (!orderOk n o i) 0x0505 sec loc, failIf (!t.filled b gs n i (f / 8 % 4) u) 0x0502 sec loc]))

/-- The joins of every route entry of bank `b`. -/
def State.routeFails (t : State) (secs : List Sec) (rota b : Nat) (gs : List Green) : List LoadFail :=
  (t.opn.routes.filter (fun e => e.1 / (8 * 1024 * 1024) == b)).map (fun e =>
    t.routeJoin secs rota b gs e.1 e.2.toNat)

/-! ## Arrivals (R48, R264) -/

/-- The landings at router `n`, as `stroke * 256 + nibble`, in order (R264). -/
def State.landings (t : State) (rota b n : Nat) : List Nat :=
  (upFrom 0 rota).flatMap (fun u =>
    let route := t.routeEntry b u n 4
    let entry := (Tbl.get 0 t.opn.ejects (tableKey b u n)).toNat
    let hits := (upFrom 0 4).flatMap (fun q =>
      let f := bits entry (18 * q) 18
      if sourceField route q % 8 = 7 then []
      else ((upFrom 0 8).filter (fun m => bitAt f m)).map (fun m => bits f 8 8 + m))
    (upFrom 0 256).flatMap (fun nib => List.replicate (hits.filter (fun x => x == nib)).length (u * 256 + nib)))

/-- The first place where two lists differ. -/
def firstDiff : Nat → List Nat → List Nat → Option Nat
  | _, [], [] => none
  | i, a :: s, b :: t => if a = b then firstDiff (i + 1) s t else some i
  | i, _, _ => some i

/-- The arrival map of croft `k`, as `stroke * 256 + nibble` (R264): that of the image, or, for a croft whose map an
earlier image gave, the landings of the tables in use, which that map listed exactly. A croft without a map has no
landing that R48 counts. -/
def State.arrivalMap (t : State) (h : Header) (secs : List Sec) (b k : Nat) : List Nat :=
  match findSec secs 0x11 k with
  | some e => (entriesOf 4 e.data).map (fun v => bits v 0 10 * 256 + bits v 10 8)
  | none => if h.kind = 1 then [] else t.landings h.rota (1 - b) (nodeOf k)

/-- R264 for croft `k`: the map lists exactly what the tables land. -/
def State.mapFail (t : State) (h : Header) (secs : List Sec) (b k : Nat) : LoadFail :=
  let n := nodeOf k
  let map := t.arrivalMap h secs b k
  let got := t.landings h.rota b n
  match findSec secs 0x11 k with
  | some e => (firstDiff 0 map got).map (fun i => (0x0508, e.idx, locOf i 0 0 (4 * i)))
  | none => failIf (decide (map ≠ got)) 0x0508 (idxOf secs 0x20 n) 0

/-- R48 for one word: an operand that reads an arrival bit with no earlier landing. -/
def CroftRec.arrivalEarly (c : CroftRec) (lands : List Nat) (b w : Nat) : Option Nat :=
  (c.selectors b w).findSome? (fun e =>
    let nib := e.2 % 1024 / 4
    if e.2 / 1024 = 2 ∧ !lands.any (fun x => x % 256 == nib && decide (x / 256 < w)) then some e.1 else none)

/-- R48 and R62 for the words of croft `k`. -/
def State.croftJoin (t : State) (h : Header) (secs : List Sec) (b k : Nat) : LoadFail :=
  let c := t.croft k
  let sec := idxOf secs 0x10 k
  let lands := t.arrivalMap h secs b k
  firstOf (c.words.map (fun e =>
    let bp := e.1 / 1024
    let w := e.1 % 1024
    let off := wordOff h.rota bp w
    let unsent := (sendLanes c.xmode (c.payload bp w)).any (fun l =>
      decide (bits (t.injectEntry b w (nodeOf k)) (3 * l) 3 < 4))
    match c.arrivalEarly lands bp w with
    | some p => some (0x0306, sec, locOf w bp p off)
    | none => failIf unsent 0x030A sec (locOf w bp 0 off)))

/-! ## Franel ports (R216) -/

/-- Whether the source of a transmit field at stroke `u` is filled. -/
def State.txFilled (t : State) (b p u f : Nat) : Bool :=
  let q := f / 8 % 4
  match f % 8 with
  | 7 => true
  | 0 => t.namedAt b (portNode p) 5 u 1 q
  | c => decide (1 ≤ u) && bitAt (t.rxMarks b (p / 4 * 4 + (c - 1)) (u - 1)) q

/-- R216 for every transmit entry of port `p`. -/
def State.txFails (t : State) (secs : List Sec) (b p : Nat) : List LoadFail :=
  ((t.port p).tx.filter (fun e => e.1 / 1024 == b)).map (fun e =>
    let u := e.1 % 1024
    failIf (!(upFrom 0 4).all (fun q => t.txFilled b p u (sourceField e.2.toNat q))) 0x0602 (idxOf secs 0x30 p)
      (locOf u 0 0 (16 + 3 * u)))

/-! ## Cellars (R137) -/

/-- The sender of quad `q` that output `o` of router `n` places at stroke `u`, and its stroke (R162): a croft,
or `2048 + 4 * g + q` for a green hand-off. -/
def State.traceBack (t : State) (b : Nat) : Nat → Nat → Nat → Nat → Nat → Option (Nat × Nat)
  | 0, _, _, _, _ => none
  | fuel + 1, n, o, u, q =>
    let f := sourceField (t.routeEntry b u n o) q
    let i := f % 8
    let sq := f / 8 % 4
    if i = 4 then (if u = 0 then none else some (croftAt n, u - 1))
    else if 5 ≤ i then none
    else
      match neighbour n i with
      | none => none
      | some (m, o') =>
        if 1024 ≤ m then
          (if u < handOffDelay t.level then none else some (2048 + 4 * (m - 1024) + sq, u - handOffDelay t.level))
        else if u < linkDelay t.level m o' then none
        else t.traceBack b fuel m o' (u - linkDelay t.level m o') sq

/-- The sender of the quad that the green takes at port `g`, position `q`, at the end of stroke `u`. -/
def State.traceGreen (t : State) (b g q u : Nat) : Option (Nat × Nat) :=
  let d := linkDelay t.level (32 * g) 3
  if u < d then none else t.traceBack b 80 (32 * g) 3 (u - d) q

/-- Whether a sender is the requester `req` of a binding (R267): a croft, or a transmit entry of a hedgerow
initiator. -/
def State.isRequester (t : State) (b req : Nat) (o : Nat × Nat) : Bool :=
  if req < 1024 then o.1 == req
  else (t.hinit (req - 1024)).slots.any (fun e =>
    e.bank == b && !e.dir && e.stroke == o.2 && 2048 + 4 * e.gport + e.pquad == o.1)

/-- Request slot nibbles of a binding (R136). -/
def Binding.asks (x : Binding) : Nat :=
  (if x.wr then 30 else if x.rd then 10 else 0) * (if x.xpair then 2 else 1)

/-- Return slot nibbles of a binding (R136, R137). -/
def Binding.returns (x : Binding) : Nat := (if x.rd then 16 else 0) * (if x.xpair then 2 else 1)

/-- The lanes of an entry, each with the slot nibble it carries (R136). -/
def CSlot.carries (e : CSlot) : List (Nat × Nat) :=
  let ms := (upFrom 0 8).filter (fun m => e.mask.getLsbD m)
  (numbered e.first ms).map (fun (v, m) => (m, v))

/-- R137 on how entry `e` carries its nibbles; `earlier` are the entries before it. -/
def coverBad (x : Binding) (earlier : List CSlot) (e : CSlot) : Bool :=
  let need := if e.dir then x.returns else x.asks
  e.carries.any (fun (m, v) =>
    decide (need ≤ v) ||
    earlier.any (fun f => f.binding == e.binding && f.dir == e.dir && f.carries.any (fun p => p.2 == v)) ||
    (x.xpair && (v % 2 != m % 2 || !e.mask.getLsbD (m ^^^ 1))))

/-- R137: the contract stroke at which a read of a binding lands. -/
def State.landStroke (t : State) (x : Binding) : Nat :=
  (x.rstroke + readLatency t.level t.strokeClock) % t.rotaLen

/-- R137: hand-off entry `e` lands at the requester at the contract stroke. -/
def State.handOffLands (t : State) (b : Nat) (x : Binding) (e : CSlot) : Bool :=
  let u := t.landStroke x
  let from' := some (2048 + 4 * e.gport + e.pquad, e.stroke)
  if x.req < 1024 then
    let n := nodeOf x.req
    let entry := (Tbl.get 0 t.opn.ejects (tableKey b u n)).toNat
    (upFrom 0 4).any (fun q =>
      decide (t.traceBack b 80 n 4 u q = from') &&
        (upFrom 0 8).all (fun m => !e.mask.getLsbD m || bitAt entry (18 * q + m)))
  else (t.hinit (x.req - 1024)).slots.any (fun a =>
    a.bank == b && a.dir && a.stroke == u && decide (t.traceGreen b a.gport a.pquad u = from'))

/-- R137 for one entry. -/
def State.cslotJoin (t : State) (b : Nat) (x : Binding) (earlier : List CSlot) (e : CSlot) : Nat :=
  if coverBad x earlier e then 0x0E02
  else if e.dir then (if t.handOffLands b x e then 0 else 0x0E03)
  else
    match t.traceGreen b e.gport e.pquad e.stroke with
    | none => 0x0E04
    | some o =>
      if !t.isRequester b x.req o then 0x0E04
      else if e.carries.any (fun p => p.2 + 1 == x.asks) ∧ o.2 ≠ x.rstroke then 0x0E03
      else 0

/-- A nibble of a binding that no entry carries (R137). -/
def uncovered (es : List CSlot) (i : Nat) (x : Binding) : Bool :=
  let has := fun (dir : Bool) (v : Nat) =>
    es.any (fun e => e.binding == i && e.dir == dir && e.carries.any (fun p => p.2 == v))
  !(upFrom 0 x.asks).all (has false) || !(upFrom 0 x.returns).all (has true)

/-- R137 for cellar `n`. -/
def State.cellarJoin (t : State) (secs : List Sec) (b n : Nat) : List LoadFail :=
  let c := t.cellar n
  let es := c.slots.filter (fun e => e.bank == b)
  let agent := findSec secs 0x21 (1123 + n)
  let sec := idxOf secs 0x21 (1123 + n)
  let entries := (numbered 0 es).map (fun (j, e) =>
    match c.bindings[e.binding]? with
    | none => none
    | some x =>
      let code := t.cslotJoin b x (es.take j) e
      failIf (code != 0) code sec (locOf j 0 0 (8 * j)))
  let missing := (numbered 0 c.bindings).map (fun (i, x) =>
    match agent with
    | some a => failIf (uncovered es i x) 0x0E02 a.idx (locOf es.length 0 0 a.size)
    | none => failIf (uncovered es i x) 0x0E02 (idxOf secs 0x38 n) (locOf i 0 0 (0x1010 + 8 * i)))
  entries ++ missing

/-- The budgets of a CELLAR section (R127, R261, R267): each pseudo-channel's, and no access in a refresh slot. -/
def State.budgetFail (t : State) (h : Header) (secs : List Sec) (n : Nat) : LoadFail :=
  match findSec secs 0x38 n with
  | none => none
  | some e =>
    let bs := (t.cellar n).bindings
    let refresh := fun k => fieldAt e.data (0x10 + 128 * k) 128
    let at' := fun (bad : Bool) (n off : Nat) => failIf bad 0x0701 e.idx (locOf n 0 0 off)
    firstOf ((upFrom 0 32).map (fun k => at' (budgetBad h.rota bs k (refresh k)) k (0x10 + 128 * k)) ++
      (numbered 0 bs).map (fun (i, b) => at' (bitAt (refresh b.pch) b.rstroke) i (0x1010 + 8 * i)))

/-! ## Report lag and bell (R238, R240 to R244) -/

/-- The least report lag (R238, R269): 20, or the time by which an uncorrectable cellar read of the latest read
request is held. -/
def State.leastLag (t : State) : Nat :=
  let last := (upFrom 0 4).foldl (fun m n =>
    ((t.cellar n).bindings.filter (·.rd)).foldl (fun a x => max a (x.rstroke + 1)) m) 0
  let late := if t.level = 2 then (if t.strokeClock = 13 then 119 else 145)
    else (if t.strokeClock = 13 then 147 else 177)
  if last = 0 then 20 else max 20 (last - 1 + late - t.rotaLen)

/-- R238: the declared report lag. -/
def State.lagFail (t : State) : LoadFail := failIf (decide (t.obj 0x2401 1 < t.leastLag)) 0x0801 noSec (0x0E * 2 ^ 32)

/-- A bell message can be sent on port `p` at window stroke `u` (R240, R241). -/
def State.bellTxOk (t : State) (b p u : Nat) : Bool :=
  let v := u % t.rotaLen
  decide (u < t.lag * t.rotaLen) && decide (v + t.obj (pObj p + 1) 2 < t.rotaLen) &&
    sourceField (t.txFields b p v) 0 % 8 == 7

/-- A bell message can be received on port `p` at window stroke `u` (R240). -/
def State.bellRxOk (t : State) (b p u : Nat) : Bool :=
  decide (u < t.lag * t.rotaLen) && !bitAt (t.rxMarks b p (u % t.rotaLen)) 0

/-- R240 to R244, port by port. -/
def State.bellJoin (t : State) (secs : List Sec) (b : Nat) : LoadFail :=
  let sec := idxOf secs 0x40 0
  let q := t.obj 0x2401 1
  let window := t.lag * t.rotaLen
  let fail := fun (bad : Bool) (code p off : Nat) => failIf bad code sec (locOf p 0 0 (6 * p + off))
  let up := fun p => t.bellUp p
  let down := fun p => t.bellDown p false
  let least := match t.bellParent with
    | none => t.bellForm + 3
    | some p => down p + 6
  firstOf ((upFrom 0 32).flatMap (fun p =>
      match t.bellRole p with
      | 1 =>
        [fail (decide (up p < q + 3) || t.bellChildren.any (fun c => decide (up p < up c + 6)) ||
            !t.bellTxOk b p (up p)) 0x0803 p 2,
          fail (decide (window ≤ down p + 19)) 0x0804 p 4,
          fail (!t.bellRxOk b p (down p) || !t.bellRxOk b p (down p + 16)) 0x0803 p 4]
      | 2 =>
        [fail (!t.bellRxOk b p (up p)) 0x0803 p 2,
          fail (decide (down p < least) || !t.bellTxOk b p (down p) || !t.bellTxOk b p (down p + 16)) 0x0803 p 4]
      | _ => []) ++
    [failIf (t.bellParent.isNone && decide (window ≤ t.bellForm)) 0x0804 sec 0])

/-- A bell role on a port without a FRANEL_PORT section (R256). -/
def bellPortFails (secs : List Sec) : List LoadFail :=
  (secsWith secs 0x40).flatMap (fun e => (upFrom 0 32).map (fun p =>
    failIf (fieldAt e.data (6 * p) 1 != 0 && (findSec secs 0x30 p).isNone) 0x0802 e.idx (locOf p 0 0 (6 * p))))

/-- A checked trough whose tally takes its bytes from elsewhere (R319, R332). -/
def State.checkedFails (t : State) (secs : List Sec) : List LoadFail :=
  (secsWith secs 0x50).flatMap (fun e => (upFrom 0 256).map (fun i =>
    let v := troughDesc e.data i
    failIf (bitAt v 3 && t.obj (yObj (bits v 4 4)) 6 % 16 != 0) 0x0922 e.idx (locOf i 0 0 (16 * i))))

/-! ## Hedgerow (R290, R293) -/

/-- Lines driven twice and initiators owned twice. -/
def State.hedgeJoin (t : State) (secs : List Sec) (r : Nat) : LoadFail :=
  match findSec secs 0x52 r with
  | none => none
  | some e =>
    let g := t.frames r
    let (lines, owned) := t.othersOf r
    (orFail (driversFail g lines [] (t.cells r)) (ownersFail g owned)).map (fun f => (f.1, e.idx, locOf 0 0 0 f.2))

/-! ## Stage 5 -/

/-- The rank of a failure (R261): the header, then section-table order, then byte offset. -/
def failRank (f : Nat × Nat × Nat) : Nat :=
  (if f.1 = 0x0801 then 0 else f.2.1 + 1) * 2 ^ 32 + f.2.2 / 2 ^ 32

/-- The failure of lowest rank. -/
def leastFail : List LoadFail → LoadFail
  | [] => none
  | none :: t => leastFail t
  | some f :: t =>
    match leastFail t with
    | some g => if failRank g < failRank f then some g else some f
    | none => some f

/-- Stage 5. -/
def stage5Fail (t : State) (h : Header) (secs : List Sec) (b : Nat) : LoadFail :=
  let gs := t.greens secs b
  leastFail ([t.lagFail, t.bellJoin secs b] ++ bellPortFails secs ++ t.checkedFails secs ++ t.routeFails secs h.rota b gs ++
    (upFrom 0 1024).map (t.mapFail h secs b) ++
    (t.crofts.filter (fun e => e.2.mode != 0)).map (fun e => t.croftJoin h secs b e.1) ++
    (upFrom 0 32).flatMap (t.txFails secs b) ++ t.greenFails b gs ++
    (upFrom 0 4).map (t.budgetFail h secs) ++ (upFrom 0 4).flatMap (t.cellarJoin secs b) ++
      (upFrom 0 12).map (t.hedgeJoin secs))

end Sys2Proof.Machine
end

