-- ==== Sys2Proof/Machine/Loader.lean ====
section
/-!
DEFINITION. The load command and its completion (R261, R415 to R417), and ALLSET (R418 to R420).
-/

namespace Sys2Proof.Machine

/-! ## ALLSET (R418 to R420) -/

/-- Drive CFGFAIL_L and the ALLSET pin. -/
def State.setAllset (s : State) (released seen : Bool) : State :=
  { s with allset := { s.allset with released := released, seen := seen } }

/-- Every region stops, with its flip-flops at INIT (R301, R302). -/
def State.stopRegions (s : State) : State :=
  (upFrom 0 12).foldl (fun st r =>
    if (st.region r).running then (st.setRegion r { st.region r with running := false }).initRegion r else st) s

/-- ALLSET low and the seen latch cleared (R419, R420): the banks leave ACTIVE, the region clocks stop. -/
def State.allsetDown (s : State) : State := (s.setAllset false false).stopRegions.banksUpdate

/-- R220: port `p` may carry the stencil's traffic: it is UP (R211), its measured minimum pace is valid and lies at
least 2 strokes below the receive pace, and each end declares the other's pace. -/
def State.portReady (s : State) (p : Nat) : Bool :=
  s.portState p == 3 && decide (s.measuredPace p + 2 ≤ s.obj (pObj p + 1) 1) &&
    s.obj (pObj p) 8 == s.obj (pObj p + 1) 1 &&
    s.obj (pObj p + 1) 2 == bits (s.port p).out.status.toNat 44 8

/-- The fabric PLLs that the clock lines of region `r` use (R288). -/
def State.regionPlls (s : State) (r : Nat) : List Nat :=
  ((upFrom 0 8).map (fun l => clockSource (s.frames r) l % 16)).filterMap (fun c =>
    if 2 ≤ c ∧ c < 6 then some (c - 2) else none)

/-- The unmet conditions of R419, as 0x2304.06 shows them. -/
def State.allsetWaits (s : State) : Nat :=
  let l := s.load
  let plls := (upFrom 0 12).all (fun r =>
    !(s.region r).configured || (s.regionPlls r).all (fun j => bitAt (s.obj 0x5001 5) j))
  let cores := (upFrom 0 16).all (fun k => !bitAt l.cores k || !(s.core k).held)
  b2n (s.dev != .set) + 2 * b2n (!l.ports.all s.portReady) +
    4 * b2n (!l.cellars.all (fun n => s.obj (cObj n) 1 == 2)) + 8 * b2n (!plls) + 16 * b2n (!cores) +
    32 * b2n (s.obj 0x2304 5 != 0)

/-- ALLSET_RELEASE (R419): the first release after a load. -/
def execAllsetRelease (s : State) : Host.Outcome State Fault Refusal :=
  .next (if s.allsetWaits = 0 ∧ !s.tapDriving then s.setAllset true s.allset.seen else s)

/-- R419: ALLSET is released again after a host hold or a driving instruction. -/
def State.allsetAgain (s : State) : State :=
  let stateOk := s.dev == .set || s.dev == .run || s.dev == .hold || s.dev == .halt
  if s.allsetWaits / 2 = 0 ∧ stateOk ∧ !s.tapDriving then s.setAllset true s.allset.seen
  else s

/-- A write of 0x2304.05 (R419). -/
def State.writeHold (s : State) (v : Nat) : WriteResult :=
  if 1 < v then .error abInvalid
  else
    let s1 := s.setObj 0x2304 5 v
    .ok (if v = 1 then s1.setAllset false s.allset.seen else if s.obj 0x2304 5 = 1 then s1.allsetAgain else s1)

/-- The filtered level of ALLSET (R419, R420): the first high level in SET sets the seen latch, and the regions start. -/
def State.takeAllset (s : State) (level : Bool) : State :=
  let s1 := { s with allset := { s.allset with input := level } }
  if level ∧ s.dev = .set ∧ s.allset.released ∧ !s.allset.seen then
    let s2 := (s1.setAllset true true).banksUpdate
    (upFrom 0 12).foldl (fun st r =>
      if (st.region r).configured && decide ((st.region r).sheet = Sheet.down) then st.startRegion r else st) s2
  else s1

/-! ## The load command (R416, R417) -/

/-- Device state codes that take a load command (R416). -/
def loadState (code : Nat) : Bool := code == 3 || code == 4 || code == 5 || code == 6 || code == 7

/-- Core 15 runs the loader (R415). -/
def State.loaderRuns (s : State) : Bool :=
  let c := s.core 15
  s.load.entry.isSome && !c.held && c.entry == s.load.entry

/-- The byte at address `a` of a cellar as a non-BP read delivers it (R123); for a word that is uncorrectable the loader
gets an error response, and what it takes for its bytes is free (assumption log 3). -/
def State.stagedByte (s : State) (a : Nat) : Byte :=
  match s.readEcc (a / 8) with
  | .bad => Config.freeBits 8 (s.freeKey a)
  | d => BitVec.ofNat 8 (bits d.data (8 * (a % 8)) 8)

/-- `n` staged bytes from `a` up. -/
def State.staged (s : State) (a n : Nat) : List Byte := (upFrom a n).map s.stagedByte

/-- Whether the cellars that hold the staged bytes are ready (R416). -/
def State.stageReady (s : State) (a n : Nat) : Bool :=
  (upFrom (a / cellarBytes) ((a + n - 1) / cellarBytes + 1 - a / cellarBytes)).all (fun c => s.obj (cObj c) 1 == 2)

/-- Whether the staged bytes meet a design-RAM region (R416). -/
def State.stageOverlaps (s : State) (a n : Nat) : Bool :=
  (upFrom 0 4).any (fun c => (s.cellar c).regions.any (fun r => rangesMeet a n (8 * r.1) (8 * r.2)))

/-- What acceptance of a command for a full stencil does (R417): PREP, ALLSET low, every croft in mode 0. -/
def State.beginFull (s : State) : State := (s.cancelStart.enter .prep).allsetDown.unload

/-- A write of 0x2304.03 (R415, R416). -/
def State.writeLoad (s : State) (v : Nat) : WriteResult :=
  let base := s.obj 0x2304 1
  let length := s.obj 0x2304 2
  let bind := s.obj 0x2304 4
  if v ≠ 1 ∨ base % 65536 ≠ 0 ∨ length < 64 ∨ 4 * cellarBytes < base + length + bind then .error abInvalid
  else if !s.stageReady base (length + bind) ∨ (s.dev = .run ∧ s.stageOverlaps base (length + bind)) ∨
      !loadState s.dev.code ∨ s.load.running ∨ !s.loaderRuns then .error abState
  else
    let code := s.dev.code
    let s1 := [(2, 0), (3, 0xFFFF), (4, 0), (1, 1)].foldl (fun st e => st.setObj 0x2380 e.1 e.2) s
    let s2 := if s.stagedByte (base + 6) = 1 ∧ code ≠ 5 then s1.beginFull else s1
    .ok { s2 with load := { s2.load with
            running := true, base := base, length := length, bind := bind, state := code } }

/-! ## Completion (R261, R262, R409, R417) -/

/-- The state before an image's own writes: the firmware and the digests of an accepted image. -/
def State.accept (s : State) (h : Header) (digest : Nat) : State :=
  let s1 := (s.setObj 0x2380 1 2).setObj 0x2380 5 h.kind
  if h.kind = 1 then ({ s1 with load := { s1.load with full := digest } }.enter .set).banksUpdate
  else { s1 with load := { s1.load with last := digest } }

/-- A rejected image (R261, R278): a croft image leaves its croft's lower command shut, and either partial kind
leaves command 1 of R188 shut. -/
def State.reject (s : State) (kind : Nat) (f : Nat × Nat × Nat) (secs : List Sec) : State :=
  let s1 := [(1, 3), (2, f.1), (3, f.2.1), (4, f.2.2)].foldl (fun st e => st.setObj 0x2380 e.1 e.2) s
  let s2 := (secsWith secs 0x10).foldl (fun st e =>
    st.setCroft e.inst { st.croft e.inst with newSection := false }) s1
  if kind = 2 ∨ kind = 3 then { s2 with opn := { s2.opn with shadowOk := false } } else s2

/-- The first failure of stages 1 to 3 of R261, with the kind and system after stage 1 (R262, R417). -/
def State.earlyFail (s : State) (img : List Byte) (h : Header) (secs : List Sec) (bind : List Byte) : LoadFail :=
  match s.headerFail img s.load.length with
  | some f => some f
  | none => firstOf [tableFail h secs, s.systemFail h secs, s.signatureFail img h secs, stage3Fail h secs bind]

/-- First word and words of the region of symbol `i` (R272). -/
def extentOf (secs : List Sec) (bind : List Byte) (i : Nat) : Nat × Nat :=
  let data := ((findSec secs 0x60 0).map (·.data)).getD []
  (symbolValue bind i, bits (rec16 data i) 64 64)

/-- The verdict on the staged image: a failure, or the device after acceptance. -/
def State.judgeImageLoad (s : State) (img bind : List Byte) : Except (Nat × Nat × Nat) State :=
  let h := headerOf img
  let raw := secsOf img h
  match s.earlyFail img h raw bind with
  | some f => .error f
  | none =>
    let secs := patched h bind raw
    let t := s.install h secs (extentOf secs bind)
    let b := if h.kind = 1 then t.opn.active else 1 - t.opn.active
    match firstOf [stage4Fail t h secs b, stage5Fail t h secs b] with
    | some f => .error f
    | none =>
      let signed := match findSec raw 0xF0 0 with
        | some e => Config.sha3_256 (signedBytes img h e)
        | none => 0
      .ok (t.accept h signed)

/-- LOAD_COMPLETE (R417). The loader's reads of the staged bytes count errors like any others, each word once (R122, R123;
DESIGN CHOICE, assumption log 105). -/
def execLoadComplete (s : State) : Host.Outcome State Fault Refusal :=
  let l := s.load
  if !l.running then .next s
  else
    let h0 := headerOf (s.staged l.base 64)
    let img := s.staged l.base (min l.length h0.length)
    let bind := s.staged (l.base + l.length) l.bind
    let s0 := (s.countCellarReads (l.base / 8) ((l.base + min l.length h0.length + 7) / 8)).countCellarReads
      ((l.base + l.length) / 8) ((l.base + l.length + l.bind + 7) / 8)
    let s1 := { s0 with load := { l with running := false } }.setObj 0x2380 7 (Config.sha3_256 bind)
    match s1.judgeImageLoad img bind with
    | .ok t => .next t.freeNext
    | .error f => .next (s1.reject h0.kind f (if h0.kind = 1 then [] else secsOf img h0)).freeNext

/-- A load that is cut short by a reset, a fault or loss of supply is gone (R416). -/
def State.dropLoad (s : State) : State := { s with load := { s.load with running := false } }

end Sys2Proof.Machine
end

