-- ==== Sys2Proof/Machine/Rota.lean ====
section
/-!
DEFINITION. The stroke, the rota and the fallow (R40, R76 to R98, R108), verdicts (R82, R96, R245 to R249),
and the start of a run (R252).
-/

namespace Sys2Proof.Machine

/-! ## Entry to RUN and the exit from it (R86, R98, R252, R475, R476) -/

/-- Whether the stroke clock runs: the green has power and the device is not in PARK. -/
def State.clocked (s : State) : Bool := s.power.green && !s.power.waits && decide (s.obj 0x2100 1 < 3)

/-- The next execution begins at stroke 0 of rota `s.rota` (R76, R77, R296, R314, R394, R449). -/
def State.startRota (s : State) : State :=
  let again := match s.highest with
    | some h => decide (s.rota ≤ h)
    | none => false
  let top := max s.rota (s.highest.getD 0)
  let s1 := { s with
    exec := s.exec + 1, replay := again, highest := some top, phase := .rota 0
    opn := { s.opn with flits := [], agentOut := [] }
    bell := { s.bell with swapW := none }
    ports := s.ports.map (fun (e : Nat × PortRec) => (e.1, { e.2 with delivered := .none, att := .none })) }
  let s2 := (upFrom 0 12).foldl (fun st r => st.regionStart r) s1.stampRota.resumeB
  s2.troughsStart.thermalRota

/-- What an entry to RUN from SET resets and arms (R86, R108, R296, R352, R380). -/
def State.freshRun (s : State) : State :=
  let s1 := [4, 5, 6, 7].foldl (fun st i => st.setObj 0x2400 i 0) s.freshCrofts
  let s2 := { s1 with bell := s1.bell.idle, rota := 0, highest := none, uncorrected := [] }.hedgeFresh
  let s3 := s2.load.tasks.foldl (fun st t => st.armTask t) s2
  s3.load.units.foldl (fun st u => match st.watchArm u with
    | .ok x => x
    | .error _ => st) s3

/-- What any other entry to RUN does (R98): every uncommitted rota is discarded as at a FOUL, and the rota
after the last committed one is next. -/
def State.resumeRun (s : State) : State :=
  let next := s.obj 0x2400 4
  let s1 := { s with
    crofts := Tbl.mapVals .blank (CroftRec.resume next) s.crofts, rota := next
    uncorrected := [], bell := { s.bell with fouls := [], windows := [], tx := [] } }
  (s1.cellarsVerdict (.foul next)).troughsBack

/-- Enter RUN (R252, R475). -/
def State.enterRun (s : State) : State :=
  let s1 := { s with alignSpoiled := true, halts := [] }.setObj 0x2001 2 0
  let s2 := if s1.dev = .set then s1.freshRun else s1.resumeRun
  (s2.enter .run).startRota

/-- Leave RUN at a boundary for HOLD or HALT (R98): nothing is fetched, and the windows under way are
abandoned. -/
def State.leaveRun (s : State) (d : DevState) : State :=
  { s.abandonWindows with phase := .idle, halts := [] }.enter d

/-- START_SAMPLE (R252): at count S0 − 4,096. -/
def execStartSample (s : State) : Host.Outcome State Fault Refusal :=
  .next (if s.obj 0x2403 6 = 1 ∧ s.count + 4096 = s.obj 0x2403 4 ∧ !s.allset.input then s.setObj 0x2403 6 3
    else s)

/-- START_RUN (R252): at count S0. -/
def execStartRun (s : State) : Host.Outcome State Fault Refusal :=
  .next (if s.obj 0x2403 6 = 1 ∧ s.count = s.obj 0x2403 4 ∧ (s.dev = .set ∨ s.dev = .hold) then
      (s.setObj 0x2403 6 2).enterRun
    else s)

/-! ## Boundaries (R77, R82, R96, R245, R248, R249) -/

/-- What the commit of rota `k` records (R79, R108, R123, R188, R394). -/
def State.commitRota (s : State) (k : Nat) : State :=
  let s1 := ((s.bump 0x2400 4).stampCommit k).swapCommit k
  { s1 with uncorrected := s1.uncorrected.filter (fun e => decide (k < e.1)) }

/-- A verdict at boundary `n`, at every unit of the device (R77, R79, R82). -/
def State.applyVerdict (s : State) (n : Nat) (v : Verdict) : State :=
  let s1 := s.boundaryCrofts v s.crofts
  let s2 := (((s1.cellarsVerdict v).troughsVerdict n v).hedgeVerdict v).watchesVerdict v
  let s3 := match v with
    | .none => s2
    | .clear k => s2.commitRota k
    | .foul _ => s2.bump 0x2400 5
  (upFrom 0 12).foldl (fun st r => st.regionBoundary n v r) (s3.swapBoundary n)

/-- The rota that is next after boundary `n` (R77). -/
def nextRota (n : Nat) : Verdict → Nat
  | .foul k => k
  | _ => n + 1

/-- A lost bell at a boundary (R242, R249): no verdict, HALT, and the undecided rota is named. The boundary
clears what every boundary clears (R42, R77). -/
def State.loseBell (s : State) (w : Window) : State :=
  let cause := (4 :: s.halts).foldl min 4
  let s1 := ((s.clearCrofts.setObj 0x2401 9 w.rota).fire 1361 0).setObj 0x2001 2 cause
  let s2 := s1.leaveRun .halt
  { s2 with bell := { s2.bell with lost := some w } }

/-- The fallow that a bell selects, or stroke 0 of the next rota (R78, R140, R228, R245). -/
def State.afterBoundary (s : State) (b : BitVec 8) : State :=
  let f := s.fallowLength b
  if f = 0 then s.startRota
  else
    let n := b.toNat
    let s1 := if bitAt n 2 then s.repayRefresh (if bitAt n 0 then 8 else 4) else s
    let s2 := if bitAt n 3 then s1.fixSwaps else s1
    let s3 := if bellRequests b then s2.bump 0x2402 6 else s2
    { s3 with phase := .fallow 0 f }

/-- R248: the FOUL verdicts since the last CLEAR have reached the replay limit. -/
def State.replayLimit (s : State) (b : BitVec 8) : Bool :=
  b.getLsbD 0 && decide (s.obj 0x2401 8 ≤ s.obj 0x2401 7)

/-- What follows a verdict at a boundary (R245, R248, R476): a halt cause of the module's own, then STOP, then
the replay limit, then the fallow. -/
def State.boundaryNext (s : State) (b : BitVec 8) : State :=
  let limit := s.replayLimit b
  if s.halts ≠ [] then
    let also := limit && !b.getLsbD 1
    let s1 := s.setObj 0x2001 2 ((if also then 3 :: s.halts else s.halts).foldl min 7)
    (if also then s1.fire 1361 1 else s1).leaveRun .halt
  else if b.getLsbD 1 then (if limit then s.setObj 0x2401 7 0 else s).leaveRun .hold
  else if limit then ((s.setObj 0x2001 2 3).fire 1361 1).leaveRun .halt
  else s.afterBoundary b

/-- The boundary that ends rota `n`, with the window of that rota opened (R238). -/
def State.openWindow (s : State) (n : Nat) : State :=
  let w : Window := ⟨s.exec, n, 0, [], [], none, none⟩
  s.setWindows (s.bell.windows ++ [w])

/-- ROTA_BOUNDARY (R77). -/
def execRotaBoundary (s : State) : Host.Outcome State Fault Refusal :=
  .next (if s.dev ≠ .run ∨ s.phase ≠ .boundary then s
    else
      let n := s.rota
      match s.judge with
      | .lost w => s.loseBell w
      | .none => ({ s.applyVerdict n .none with rota := n + 1 }.openWindow n).boundaryNext 0x40
      | .bell w b =>
        let v := bellVerdict w.rota b
        let s1 := { s.applyVerdict n v with rota := nextRota n v }.recordBell w b
        let s2 := s1.setWindows (s1.bell.windows.drop 1)
        (match v with
          | .foul _ => s2.abandonWindows
          | _ => s2.openWindow n).boundaryNext b)

/-- BELL_LOST (R242, R249): both copies were invalid by the deciding boundary. -/
def execBellLost (s : State) : Host.Outcome State Fault Refusal :=
  .next (if s.dev ≠ .run ∨ s.phase ≠ .boundary then s
    else
      match s.judge with
      | .lost w => s.loseBell w
      | _ => s)

/-- FALLOW_END (R78): after the last fallow stroke the croft executes stroke 0 of the next rota. -/
def execFallowEnd (s : State) : Host.Outcome State Fault Refusal :=
  .next (match s.phase with
    | .fallow i f => if s.dev = .run ∧ f ≤ i then s.startRota else s
    | _ => s)

/-- The bell byte that a verdict repair stands for (R249, 0x2401.0A). -/
def repairByte (v : Nat) : Option (BitVec 8) :=
  if v = 1 then some 0x40 else if v = 2 then some 0x41
  else if 0x40 ≤ v ∧ v < 0x80 then some (BitVec.ofNat 8 v) else none

/-- A write of 0x2401.0A (R249). -/
def State.writeVerdictRepair (s : State) (v : Nat) : WriteResult :=
  match repairByte v, s.bell.lost with
  | none, _ => .error abInvalid
  | some _, none => .error abState
  | some b, some w =>
    let verdict := bellVerdict w.rota b
    let n := w.rota + s.lag
    let s1 := { s.applyVerdict n verdict with rota := nextRota n verdict }.recordBell w b
    .ok ({ s1 with bell := { s1.bell with lost := none } }.setObj 0x2401 9 (2 ^ 64 - 1))

/-- A write of 0x2001.01 = 1 (R476): HALT to HOLD. -/
def State.settle (s : State) : WriteResult :=
  if s.dev ≠ .halt ∨ s.obj 0x2401 9 ≠ 2 ^ 64 - 1 then .error abState
  else .ok ((s.setObj 0x2401 7 0).enter .hold)

/-! ## Strokes (R40, R78, R92, R116, R164) -/

/-- What the commit ports do in a stroke, and the occupancy of the write buffer at its end (R92, R107, R108). -/
def State.drainStroke (s : State) (k : Nat) : State :=
  let s1 := s.drain k
  let n := (s1.croft k).wbuf.length
  (s1.peak (kObj k) 5 n).peak 0x2400 7 n

/-- Croft `k` in a stroke in which its BPs do nothing: drain, and every bank is idle. -/
def State.croftIdle (s : State) (k : Nat) : State := (s.drainStroke k).serveWaiters k []

/-- Record what the croft sends at stroke `t` of its raise rota (R103). -/
def State.recordSends (s : State) (t k : Nat) : State :=
  let c := s.croft k
  if c.sheet = .raising ∧ c.sheetRota = s.rota then s.setCroft k (c.recordLast t (upFrom 0 8)) else s

/-- Croft `k` at stroke `t` of a rota (R40, R92, R103, R116). -/
def State.croftActive (s : State) (t k : Nat) : State :=
  if !(s.croft k).runs s.rota then (s.recordSends t k).croftIdle k
  else
    let (s1, busy) := s.croftStroke k t
    ((s1.recordSends t k).drainStroke k).serveWaiters k busy

/-- Ports at a stroke. -/
def State.portsSend (s : State) (rota : Option Nat) : State := (upFrom 0 32).foldl (fun st p => st.portSend rota p) s

/-- What the ports receive for stroke `t` (R217 to R225). -/
def State.portsReceive (s : State) (t : Nat) : State :=
  let s1 := { s with ports := s.ports.map (fun (e : Nat × PortRec) => (e.1, { e.2 with att := .none })) }
  (upFrom 0 32).foldl (fun st p => (st.portDeliver t p).portTablesFoul p) s1

/-- The G traffic of stroke `t` from the routers to the agents (R160, R164, R165); the routers of a hamlet whose
uncore is off pass none (R32). -/
def State.routeStroke (s : State) (t : Nat) : State :=
  let key := tableKey s.bankNow t 0
  let routes := Tbl.slice (key * 8) ((key + 1024) * 8) s.opn.routes
  s.routeAll s.bankNow t (if routes = [] then [] else
    let dark := (upFrom 0 8).filter (fun h => !s.uncoreUsed h)
    routes.filter (fun e => !dark.contains (croftAt (e.1 / 8) / 128)))

/-- The G traffic of stroke `t` from the crofts and agents into the routers (R156, R159). -/
def State.injectStroke (s : State) (t : Nat) : State :=
  let key := tableKey s.bankNow t 0
  let s1 := s.injectAll t (Tbl.slice key (key + 1024) s.opn.injects)
  s1.agentInject t s1.opn.agentOut

/-- The green agents at stroke `t`: operations that came before act and hand off, then receptions. -/
def State.agentStroke (s : State) (t : Nat) : State :=
  let s1 := (s.troughStroke t false).hedgeStroke t true
  ((s1.cellarsReceive t).troughStroke t true).hedgeStroke t false

/-- The windows under way pass a stroke (R238). -/
def State.ageWindows (s : State) : State :=
  { s with bell := { s.bell with
             tx := [], windows := s.bell.windows.map (fun w => { w with elapsed := w.elapsed + 1 }) } }

/-- What every stroke ends with: the watch units sample, the verger executes its commands (R346), waits grow
older. -/
def State.strokeEnd (s : State) : State :=
  let s1 := (upFrom 0 32).foldl (fun st p => st.portDropFrames p) s.watchStroke
  let s2 := [0, 1, 2, 3].foldl (fun st n => st.debtStroke n) s1.vergerStroke.ageTransactions.ageShuts.powerFollow
  { s2 with steeple := { s2.steeple with sub := s2.steeple.sub + 1 } }.freeNext

/-- Stroke `t` of a rota. -/
def State.rotaStroke (s : State) (t : Nat) (errs : List (Nat × Nat × BitVec 144)) : State :=
  let s1 := ((s.portsSend (some t)).portsReceive t).checkErrors t errs
  let s2 := s1.crofts.foldl (fun st e => st.croftActive t e.1) s1
  let s3 := ((s2.routeStroke t).agentStroke t).injectStroke t
  let s4 := (s3.ageWindows.strokeEnd).dropFlits t
  { s4 with
    count := s.count + 1
    phase := if t + 1 < s.rotaLen then .rota (t + 1) else .boundary }

/-- A stroke outside the strokes of a rota (R78). The crofts do nothing in a power state that gates their clocks (R440). -/
def State.heldStroke (s : State) : State :=
  let s1 := s.showQuads.portsSend none
  let s2 := if s.obj 0x2100 1 = 0 then s1.crofts.foldl (fun st e => st.croftIdle e.1) s1 else s1
  { ({ s2 with bell := { s2.bell with tx := [] } }.strokeEnd) with count := s.count + 1 }

/-- Whether a stroke passes (R40, R78): the stroke clock runs, and no boundary or end of a fallow is due. -/
def State.strokeRuns (s : State) : Bool :=
  s.clocked && (match s.phase with
    | .rota _ => true
    | .idle => true
    | .fallow i f => decide (i < f)
    | .boundary => false)

/-- A stroke of the rota or of the fallow that is under way, or of a device that is not in RUN (R40, R78). -/
def State.strokeStep (s : State) (errs : List (Nat × Nat × BitVec 144)) : State :=
  match s.phase with
  | .rota t => s.rotaStroke t errs
  | .idle => s.heldStroke
  | .fallow i f => { (s.bump 0x2400 6).heldStroke with phase := .fallow (i + 1) f }
  | .boundary => s

end Sys2Proof.Machine
end

