-- ==== Sys2Proof/Machine/Upkeep.lean ====
section
/-!
DEFINITION. Upkeep of the stores: upsets, the instruction scrub (R424), croft remap (R423), the scratchpad's
scrub (R339), and the yield of a background test (R147).
-/

namespace Sys2Proof.Machine

/-! ## Upsets (R121, R424, R425) -/

/-- Flip bit `b` of the stored 72-bit word at word address `w`. -/
def State.flipStored (s : State) (w b : Nat) : State := s.setErr w (s.err w ^^^ (1#72 <<< b))

/-- UPSET: one stored bit flips. -/
def execUpset (loc : UpsetAt) (s : State) : Host.Outcome State Fault Refusal :=
  .next (match loc with
    | .instruction h c b w bit =>
      let k := h.val * 128 + c.val
      let r := s.croft k
      s.setCroft k (r.setWord b.val w.val (r.word b.val w.val ^^^ (1#80 <<< bit.val)))
    | .frame r f w bit => ((s.flipStored (hedgeBase r.val / 8 + 16 * f.val + w.val) bit.val).frameChanged r.val).freeNext
    | .larder h c word bit => s.flipStored (croftBase (h.val * 128 + c.val) / 8 + word.val) bit.val
    | .cellar n word bit => s.flipStored (n.val * cellarWords + word.val) bit.val
    | .scratchpad word bit => s.flipStored (scratchBase / 8 + word.val) bit.val)

/-! ## Instruction scrub (R424) -/

/-- Whether the care map cares for word `w` of BP `b` of croft `k` (R276). -/
def State.wordCared (s : State) (k b w : Nat) : Bool :=
  decide (w < s.rotaLen) && bitAt (Tbl.get 0 s.load.care k) (b * s.rotaLen + w)

/-- The place of an instruction word in 0x2306.06. -/
def scrubPlace (k b w : Nat) (bad : Bool) : Nat := 2 * b2n bad + k <<< 2 + b <<< 13 + w <<< 19

/-- R424 for one word. -/
def State.scrubInstruction (s : State) (k b w : Nat) : State :=
  let c := s.croft k
  let stored := c.word b w
  let note := fun (st : State) (sub cause : Nat) (bad : Bool) =>
    ((st.bump 0x2306 sub).setObj 0x2306 6 (scrubPlace k b w bad)).fire 1358 cause
  if s.wordCared k b w then
    match decodeWord stored with
    | .clean _ => s
    | .corrected d => note (s.setCroft k (c.setWord b w (makeWord (BitVec.ofNat 72 d)))) 3 3 false
    | .bad => note s 4 4 true
  else if stored = nopWord then s
  else (s.setCroft k (c.setWord b w nopWord)).bump 0x2306 5

/-- INSTRUCTION_SCRUB (R424): the visit of one word; a period of 0 disables it (0x2306.01). -/
def execInstructionScrub (h : Hamlet) (c : Croft) (b : Fin 64) (w : Fin 1024) (s : State) :
    Host.Outcome State Fault Refusal :=
  let k := h.val * 128 + c.val
  let r := s.croft k
  .next (if (r.mode = 1 ∨ r.mode = 2) ∧ (r.sheet = .down ∨ r.sheet = .raising) ∧ s.clocked ∧
        s.obj 0x2306 1 ≠ 0 then
      s.scrubInstruction k b.val w.val
    else s)

/-! ## Croft remap (R21, R22, R423) -/

/-- A write of 0x2307.03 (R423). -/
def State.writeRemap (s : State) (v : Nat) : WriteResult :=
  let k := s.obj 0x2307 1 % 1024
  let p := s.obj 0x2307 2
  let c := s.croft k
  if v ≠ 1 ∨ 131 < p then .error abInvalid
  else if !(s.dev = .prep ∨ s.dev = .set ∨ s.dev = .hold ∨ s.dev = .halt) ∨
      !(c.mode = 0 ∨ c.sheet = .upLoadable) ∨ (s.logicalCroft (k / 128) p).isSome ∨ s.remap.isSome then
    .error abState
  else .ok ({ s with remap := some (k, p) }.setObj 0x2307 4 1)

/-- The croft on its new physical croft: sheet state, sheet table and LAST values are carried, the larder is
zero. -/
def State.moveCroft (s : State) (k p : Nat) : State :=
  let c := s.croft k
  let r : CroftRec := { c with words := [], bps := [], wbuf := [], newSection := false }
  let s1 := (s.setCroft k r.clearLocal).zeroRange (croftBase k) (croftBase k + 0x40000)
  { s1 with croftMap := if p = k % 128 then Tbl.del k s1.croftMap else Tbl.put k p s1.croftMap }

/-- REMAP_COMPLETE (R423). -/
def execRemapComplete (s : State) : Host.Outcome State Fault Refusal :=
  .next (match s.remap with
    | none => s
    | some (k, p) => ({ s.moveCroft k p with remap := none }).setObj 0x2307 4 2)

/-! ## Scratchpad and tests (R146, R147, R339) -/

/-- SCRATCHPAD_SCRUB_VISIT (R339); an interval of 0 disables it (0x5320.03), and a test gives way to it (R147). -/
def execScratchpadScrubVisit (word : Fin 1048576) (s : State) : Host.Outcome State Fault Refusal :=
  .next (if s.granted 1145 ∧ s.obj 0x5320 3 ≠ 0 then
    (s.scratchYield (8 * word.val) 8).scrubWord (scratchBase / 8 + word.val) 0x5320 1 0x5320 2 1348 0 else s)

/-- TEST_BLOCK_YIELD (R147): the saved words are back, and the held accesses are performed. -/
def execTestBlockYield (u : TestUnit) (s : State) : Host.Outcome State Fault Refusal :=
  let k := testKey u
  let t := s.test k
  .next (if t.running ∧ !t.yielded ∧ t.held ≠ [] then
      t.held.foldl (fun st e => st.larderArrive e.1 e.2) (s.testYield k)
    else s)

end Sys2Proof.Machine
end

