-- ==== Sys2Proof/Machine/Dictionary.lean ====
section
/-!
DEFINITION. The object dictionary (R469 to R471): what every object reads, which writes the owning chapters
accept, the checks of R470 in their order, and the access codes of R10. The paths to it stand in Ring.lean
and Mirror.lean; what a write sets in motion beyond the dictionary stands in Undercoat.lean.
-/

namespace Sys2Proof.Machine

/-! ## Stiles and ports as objects show them (R463, R481, R499) -/

/-- The primary stile is closed (R463): no VSTBY, or a close by command in effect. -/
def State.primaryClosed (s : State) : Bool := !s.power.vstby || s.power.inReset || s.ring.closedP.isSome

/-- The branch stile is closed (R463). -/
def State.branchClosed (s : State) : Bool :=
  s.primaryClosed || s.obj 0x1010 6 == 0 || s.ring.lossB || s.ring.closedB

/-- 0x1010.05 (R481). -/
def State.stileState (s : State) : Nat :=
  b2n s.primaryClosed + 2 * b2n s.branchClosed + 4 * b2n s.ring.lockB

/-! ## Objects that are computed at the read -/

/-- Objects 0x1000 to 0x10FF. -/
def State.viewIdentity (s : State) (i sub : Nat) : Nat :=
  match i, sub with
  | 0x1000, 2 => s.fuse.stepping
  | 0x1000, 3 => s.fuse.grade
  | 0x1000, 4 => s.fuse.uid
  | 0x1000, 5 => if s.fuse.stepping = 0x43 then 2 else 1
  | 0x1010, 5 => s.stileState
  | 0x1020, 5 => b2n s.tap.testEn + 2 * b2n s.tapDriving
  | _, _ => s.obj i sub

/-- Objects 0x2000 to 0x22FF. -/
def State.viewPower (s : State) (i sub : Nat) : Nat :=
  match i, sub with
  | 0x2000, _ => s.dev.code
  | 0x2100, 4 => (s.nextEvent.map (·.2)).getD (2 ^ 64 - 1)
  | 0x2100, 5 => (s.nextEvent.map (·.1)).getD 0xFF
  | 0x2101, 2 => s.strokeClock
  | 0x2110, 0 => s.obj i 0
  | 0x2110, n => s.domainWord n
  | 0x2200, 2 => s.nowValue / 2 ^ 32 % 2 ^ 64
  | 0x2202, 3 => s.nowValue / 2 ^ 64 % 2 ^ 32
  | _, _ => s.obj i sub

/-- 0x2304.07 (R428). -/
def State.allsetStatus (s : State) : Nat :=
  b2n (!s.allset.released) + 2 * b2n s.allset.input + 4 * b2n s.allset.seen + 8 * b2n s.allset.cfgFail

/-- Objects 0x2300 to 0x2FFF; the hazard detector reads its defaults in production mode (R282). -/
def State.viewSystem (s : State) (i sub : Nat) : Nat :=
  match i, sub with
  | 0x2304, 6 => s.allsetWaits
  | 0x2304, 7 => s.allsetStatus
  | 0x2400, 3 => s.rota
  | 0x2300, 1 => if s.dev = .undercoat ∧ !s.power.inReset then 1 else s.obj 0x2300 1
  | 0x2403, 7 => s.count
  | 0x2410, _ => if s.debug then s.obj i sub else objDefault i sub
  | _, _ => s.obj i sub

/-- Objects of a logical croft (R107). -/
def State.viewCroft (s : State) (i sub : Nat) : Nat :=
  let k := (i - 0x3000) / 0x100 * 128 + (i % 0x100 - 0x80)
  let c := s.croft k
  match sub with
  | 1 => c.mode
  | 2 => c.sheet.code
  | 4 => c.sheetRota
  | _ => s.obj i sub

/-- Objects of a Franel port (R235). -/
def State.viewPort (s : State) (i sub : Nat) : Nat :=
  let p := (i - 0x4000) / 0x10
  match i % 0x10, sub with
  | 1, 3 => s.measuredPace p
  | 3, 4 => s.portTable p
  | r, 0xC => if 8 ≤ r ∧ s.obj i sub ≠ 0 then (Config.freeBits 16 (s.freeKey 0)).toNat else s.obj i sub
  | _, _ => s.obj i sub

/-- Objects of the on-package network (R189). -/
def State.viewOpn (s : State) (i sub : Nat) : Nat :=
  match i, sub with
  | 0x4801, 1 => s.bankNow
  | 0x4803, 5 => s.tStatus
  | 0x4804, 3 => s.shutState (s.obj 0x4804 1)
  | 0x4805, 5 => s.tableEntry % 2 ^ 64
  | 0x4805, 6 => s.tableEntry / 2 ^ 64 % 256
  | _, _ => if 0x4880 ≤ i ∧ i < 0x4900 then s.viewStat (i - 0x4880 + 1024) sub else s.obj i sub

/-- Objects of the hedgerow and the banks (R301, R302, R306). -/
def State.viewHedge (s : State) (i sub : Nat) : Nat :=
  if 0x5010 ≤ i ∧ i < 0x501C then
    let x := s.region (i - 0x5010)
    match sub with
    | 1 => x.sheet.code
    | 3 => x.sheetRota
    | _ => s.obj i sub
  else if 0x5020 ≤ i ∧ i < 0x502C ∧ sub = 3 then s.declared (i - 0x5020)
  else if 0x5020 ≤ i ∧ i < 0x502C ∧ sub = 4 then
    (if s.bankActive (i - 0x5020) then (s.region (i - 0x5020)).pins.toNat else 0)
  else if 0x5080 ≤ i ∧ i < 0x50C0 ∧ (sub = 1 ∨ sub = 2) then
    match s.ownerOf (i - 0x5080) with
    | some (r, m) => if sub = 1 then r else b2n (slotCommitted (s.frames r) m)
    | none => s.obj i sub
  else s.obj i sub

/-- Objects of a tally (R331). -/
def State.viewTally (s : State) (i sub : Nat) : Nat :=
  let n := i - 0x5200
  if sub = 8 then s.tallyResult n
  else if sub = 2 ∨ sub = 3 ∨ sub = 5 ∨ sub = 7 then s.tallyMasked n sub
  else s.obj i sub

/-- Objects of the verger and the cores (R354). -/
def State.viewVerger (s : State) (i sub : Nat) : Nat :=
  match i, sub with
  | 0x5300, 1 => (s.tasksIn tsReady).length
  | 0x5300, 2 => (s.tasksIn tsRunning).length
  | 0x5300, 3 => s.verger.queue.length
  | 0x5301, 5 => s.headWake 0
  | 0x5301, 6 => s.headWake 1
  | 0x5301, 7 => s.headWake 2
  | 0x5301, 8 => s.headWake 3
  | _, 1 => if 0x5310 ≤ i ∧ i < 0x5320 then (s.core (i - 0x5310)).code else s.obj i sub
  | _, 2 => if 0x5310 ≤ i ∧ i < 0x5320 then ((s.core (i - 0x5310)).task).getD 0xFFFF else s.obj i sub
  | _, _ => s.obj i sub

/-- Objects of the event controller (R480). -/
def State.viewEvent (s : State) (i sub : Nat) : Nat :=
  if i = 0x6000 ∧ 0x24 ≤ sub ∧ sub ≤ 0x33 then s.topPending (sub - 0x24)
  else if i = 0x6000 ∧ sub = 0x35 then s.evtPins
  else s.obj i sub

/-- The present value of object `i.sub`. -/
def State.view (s : State) (i sub : Nat) : Nat :=
  if i < 0x2000 then s.viewIdentity i sub
  else if i < 0x2300 then s.viewPower i sub
  else if i < 0x3000 then s.viewSystem i sub
  else if i < 0x3800 then (if i % 0x100 < 0x80 then s.obj i sub else s.viewCroft i sub)
  else if i < 0x3840 ∧ sub = 0xA then s.rowRepairs ((i - 0x3800) / 0x10)
  else if i < 0x4000 then s.obj i sub
  else if i < 0x4800 then s.viewPort i sub
  else if i < 0x5000 then s.viewOpn i sub
  else if i < 0x5100 then s.viewHedge i sub
  else if i < 0x5200 then s.obj i sub
  else if i < 0x5300 then s.viewTally i sub
  else if i < 0x5400 then s.viewVerger i sub
  else if i < 0x6000 then s.obj i sub
  else s.viewEvent i sub

/-! ## Abort codes (R470) -/

/-- Abort 0x0504_0003, SEQUENCE. -/
def abSequence : Nat := 0x05040003

/-- Abort 0x0602_0000, NO_OBJECT. -/
def abNoObject : Nat := 0x06020000

/-- Abort 0x0609_0011, NO_SUBINDEX. -/
def abNoSub : Nat := 0x06090011

/-- Abort 0x0607_0010, LENGTH. -/
def abLength : Nat := 0x06070010

/-- Abort 0x0606_00oo, MEMORY (R466). -/
def abMemory (op : Nat) : Nat := 0x06060000 + op

/-- Objects that are served in STANDBY (R447). -/
def servedAsleep (i : Nat) : Bool :=
  (decide (0x1000 ≤ i) && decide (i < 0x1100)) || i == 0x2000 || (decide (0x2100 ≤ i) && decide (i < 0x2104))

/-- Check 7 of R470 as far as it rests on STANDBY (R447). -/
def State.standbyRefuses (s : State) (i : Nat) : Bool := s.dev == .standby && !servedAsleep i

/-! ## Reads -/

/-- What an RC object restarts from after a read (R10): its default, or for a highest value what stands
now. -/
def State.restartValue (s : State) (i sub : Nat) : Nat :=
  if i = 0x2120 ∧ sub = 0xF then
    i8 (((upFrom 1 9).map (fun j => s.objInt 0x2120 j 8) ++ s.power.stack.take 4).foldl max (-128))
  else if i = 0x2400 ∧ sub = 7 then (s.crofts.map (fun e => e.2.wbuf.length)).foldl max 0
  else if 0x3000 ≤ i ∧ i < 0x3800 ∧ 0x80 ≤ i % 0x100 ∧ sub = 5 then
    (s.croft ((i - 0x3000) / 0x100 * 128 + (i % 0x100 - 0x80))).wbuf.length
  else if 0x3800 ≤ i ∧ i < 0x3880 ∧ sub = 9 then (s.cellar ((i - 0x3800) / 0x10)).pend.length
  else if i = 0x5300 ∧ sub = 4 then s.verger.queue.length
  else objDefault i sub

/-- The wander peak of a lane (R193, R235): the loop's wander is an analogue measurement that no command
carries, so it reads a free value (assumption log 12). -/
def isWander (i sub : Nat) : Bool :=
  decide (0x4000 ≤ i) && decide (i < 0x4200) && decide (8 ≤ i % 0x10) && sub == 0xC

/-- A READ of object `i.sub` (R470, R10): the state after it and the value, or the abort. A tally takes the
bytes that its source has moved before it is read (R326). -/
def State.dictRead (s : State) (i sub : Nat) : Except Nat (State × Nat) :=
  match objSubs i with
  | none => .error abNoObject
  | some subs =>
    match findSub sub subs with
    | none => .error abNoSub
    | some row =>
      if s.standbyRefuses i then .error abState
      else
        let s1 := if 0x5200 ≤ i ∧ i < 0x5210 then s.tallySettle (i - 0x5200) else s
        match row.acc with
        | .wo => .ok (s1, 0)
        | .rc =>
          if isWander i sub then
            .ok ((s1.setObj i sub (b2n (s1.obj i 1 != 0))).freeNext, s1.view i sub)
          else .ok (s1.setObj i sub (s1.restartValue i sub), s1.view i sub)
        | _ => .ok (s1, s1.view i sub)

/-! ## Writes: checks 6 and 7 and the effect of each object -/

/-- What a write sets in motion: the new state, and what follows the RESPONSE (R463, R476). -/
abbrev DictResult := Except Nat (State × After)

/-- Nothing follows the write. -/
def plainWrite : WriteResult → DictResult
  | .ok s => .ok (s, .nothing)
  | .error c => .error c

/-- A value between `lo` and `hi`, or the invalid-value abort. -/
def State.ranged (s : State) (i sub v lo hi : Nat) : WriteResult :=
  if lo ≤ v ∧ v ≤ hi then .ok (s.setObj i sub v) else .error abInvalid

/-- A period that 0 disables. -/
def State.periodic (s : State) (i sub v lo hi : Nat) : WriteResult :=
  if v = 0 then .ok (s.setObj i sub 0) else s.ranged i sub v lo hi

/-- A value without its reserved bits (R8). -/
def State.masked (s : State) (i sub v w : Nat) : WriteResult := .ok (s.setObj i sub (v % 2 ^ w))

/-- A stile command (R463, R481): what it does once its RESPONSE has left. -/
def State.stileCommand (s : State) (v : Nat) : DictResult :=
  match v % 4 with
  | 1 => if v / 256 = 0 then .error abInvalid else .ok (s, .closePrimary (v / 256))
  | 2 => .ok (s, .closeBranch)
  | 3 =>
    if s.obj 0x1010 6 = 0 ∨ !s.ring.lockB then .error abState
    else .ok ({ s with ring := { s.ring with closedB := false } }, .nothing)
  | _ => .error abInvalid

/-- A write to 0x1010 to 0x1110. -/
def State.writeIdentity (s : State) (i sub v : Nat) : DictResult :=
  match i, sub with
  | 0x1010, 7 => s.stileCommand v
  | 0x1010, _ => plainWrite (s.ranged i sub v 0 1)
  | 0x1020, _ =>
    if v % 0x1000000000 ≠ 0 ∨ 0xFFF000000000 < v then .error abInvalid else .ok (s.setObj i sub v, .nothing)
  | 0x1100, 7 => plainWrite (s.writeKey v)
  | 0x1110, 2 => plainWrite (s.writeAttest v)
  | _, _ => .ok (s.setObj i sub v, .nothing)

/-- A write to 0x2001.01 (R476). The effect of a reset follows the RESPONSE. -/
def State.writeDevice (s : State) (v : Nat) : DictResult :=
  match v with
  | 1 => plainWrite s.settle
  | 2 =>
    if s.dev = .standby ∨ s.dev = .waking ∨ s.dev = .undercoat ∨ s.dev = .run then .error abState
    else .ok (s, .reset)
  | _ => .error abInvalid

/-- A write to 0x2100 to 0x2148. The wake command (0x2100.06 = 2) is done by State.manage. The values 2 to 255 of
the WS objects 0x2101.01 and 0x2100.07, of which the manual lists 0 and 1 only, are stored as any other and use
up the one write (DESIGN CHOICE, assumption log 92). -/
def State.writePowerObj (s : State) (i sub v : Nat) : WriteResult :=
  match i, sub with
  | 0x2100, 6 => if v = 1 then s.standbyCommand else if v = 2 then .ok s else .error abInvalid
  | 0x2100, _ => s.writePower sub v
  | 0x2101, 1 => .ok ((s.setObj i sub v).setObj 0x2101 3 (b2n (v == 1)))
  | 0x2101, _ => s.writeStrokeClock v
  | 0x2102, _ => s.writeAlarm sub v
  | 0x2111, _ => s.writeDomain sub v
  | 0x2130, _ => s.writeAging sub v
  | _, _ => s.writeHeat i sub v

/-- A write to 0x2200 to 0x225F (R395). -/
def State.writeSteeple (s : State) (i sub v : Nat) : WriteResult :=
  if i = 0x2200 then
    let z := signed 32 v
    if z < -adjLimit ∨ adjLimit < z then .error abInvalid
    else if s.obj 0x2200 1 < 2 then .ok (s.setObj i sub v) else .error abState
  else if i = 0x2201 then
    if sub = 5 ∧ (12 < v % 16 ∨ 12 < v / 16 % 16) then .error abInvalid
    else .ok (s.setObj i sub (if sub = 5 then v % 4096 else v))
  else if 0x2210 ≤ i ∧ i < 0x2218 then
    if sub = 5 then s.writePulse (i - 0x2210) v
    else if s.pulseArmed (i - 0x2210) then .error abState
    else .ok (s.setObj i sub (if sub = 1 then v &&& 0x13 else v))
  else if 0x2220 ≤ i ∧ i < 0x2228 then
    if sub = 5 then s.writeCapturePop (i - 0x2220) v else s.ranged i sub v 0 3
  else .ok (s.setObj i sub v)

/-- A write to 0x2300 to 0x2307 (R428). The restart command is done by State.manage. -/
def State.writeConfig (s : State) (i sub v : Nat) : WriteResult :=
  match i, sub with
  | 0x2300, 4 => s.periodic i sub v 60 2592000
  | 0x2300, _ =>
    if v ≠ 1 then .error abInvalid
    else if s.dev = .fault ∨ s.dev = .prep then .ok s else .error abState
  | 0x2302, _ => s.writeStore sub v
  | 0x2304, 3 => s.writeLoad v
  | 0x2304, 5 => s.writeHold v
  | 0x2304, _ => .ok (s.setObj i sub v)
  | 0x2306, _ => s.periodic i sub v 1 86400000
  | 0x2307, 1 => s.masked i sub v 10
  | 0x2307, 3 => s.writeRemap v
  | _, _ => .ok (s.setObj i sub v)

/-- A write to 0x2401 to 0x2410. -/
def State.writeSystem (s : State) (i sub v : Nat) : WriteResult :=
  match i, sub with
  | 0x2401, 5 => s.writeStop v
  | 0x2401, 6 => s.writePause v
  | 0x2401, 8 => s.ranged i sub v 1 0xFFFF
  | 0x2401, _ => s.writeVerdictRepair v
  | 0x2403, 2 => s.writeAlign v
  | 0x2403, 5 => s.writeStart v
  | 0x2403, _ => .ok (s.setObj i sub v)
  | _, 1 => if 1 < v then .error abInvalid else if s.debug then .ok (s.setObj i sub v) else .error abState
  | _, _ => if s.debug then .ok (s.setObj i sub (v &&& 0x7FE)) else .error abState

/-- A write to 0x3000 to 0x3880. -/
def State.writeHamlet (s : State) (i sub v : Nat) : WriteResult :=
  let h := (i - 0x3000) / 0x100
  if i = 0x3880 then s.writeRepair v
  else
    match i % 0x100 with
    | 0x20 => s.writeBankMode (h * 128 + (sub - 1)) v
    | 0x26 => s.periodic i sub v 1 86400000
    | 0x27 => if sub = 1 then s.masked i sub v 9 else s.writeTest h v
    | o => s.writeSheet (h * 128 + (o - 0x80)) v

/-- A write to 0x4000 to 0x41FF (R235). -/
def State.writePortObj (s : State) (i sub v : Nat) : WriteResult :=
  let p := (i - 0x4000) / 0x10
  match i % 0x10, sub with
  | 0, 3 => s.writePortCommand p v
  | 0, _ => s.ranged i sub v 0 6
  | 1, _ => s.writeMeasure p v
  | 3, 1 => s.ranged i sub v 0 1
  | 3, 4 => s.writePortTable p v
  | 3, _ => .ok (s.setObj i sub v)
  | o, 3 => s.writeTestMode p (o - 8) v
  | o, 7 => s.writeInject p (o - 8) v
  | _, 8 => s.ranged i sub v 20 0xFFFFFFFF
  | _, _ => s.ranged i sub v 0 319

/-- A write to 0x4800 to 0x48FF (R189). -/
def State.writeOpn (s : State) (i sub v : Nat) : WriteResult :=
  match i, sub with
  | 0x4800, _ => s.ranged i sub v 1024 16777216
  | 0x4801, 4 => s.masked i sub v 10
  | 0x4801, 5 => s.writeSwap v
  | 0x4803, 1 => s.ranged i sub v 1024 1151
  | 0x4803, 2 => .ok (s.setObj i sub (nodeId v))
  | 0x4803, 3 => s.ranged i sub v 0 48
  | 0x4803, 4 => s.writeTCommand v
  | 0x4804, 1 => s.ranged i sub v 0 0x3FFF
  | 0x4804, 2 => s.writeShutter v
  | 0x4805, 2 => s.ranged i sub v 0 7
  | 0x4805, 5 => s.writeTable false v
  | 0x4805, 6 => s.writeTable true v
  | _, 0x18 => s.writeStatControl (i - 0x4880 + 1024) v
  | _, _ => .ok (s.setObj i sub v)

/-- A write to 0x5000 to 0x52FF. -/
def State.writeHedgeObj (s : State) (i sub v : Nat) : WriteResult :=
  if i = 0x5000 then s.writeReEnable v
  else if i = 0x5001 then s.writePll (sub - 1) v
  else if i < 0x5020 then s.writeRegionSheet (i - 0x5010) v
  else if i < 0x5080 then s.writePeephole (i - 0x5040) (sub - 1) v
  else if i < 0x5200 then s.writeTrough (i - 0x5100) sub v
  else s.writeTally (i - 0x5200) sub v

/-- A write to 0x5300 to 0x5FFF. -/
def State.writeVergerObj (s : State) (i sub v : Nat) : WriteResult :=
  if i = 0x5300 then s.writeVerger sub v
  else if i = 0x5301 then s.writeTick sub v
  else if i < 0x5320 then s.writeCore (i - 0x5310) sub v
  else if i = 0x5320 then s.writeScratch sub v
  else s.writeWatch ((i - 0x5400) / 0x10) (i % 0x10) sub v

/-- Checks 6 and 7 of the owning chapter and the effect of a write of `v`. -/
def State.writeObj (s : State) (i sub v : Nat) : DictResult :=
  if i < 0x2000 then s.writeIdentity i sub v
  else if i < 0x2100 then s.writeDevice v
  else if i < 0x2200 then plainWrite (s.writePowerObj i sub v)
  else if i < 0x2300 then plainWrite (s.writeSteeple i sub v)
  else if i < 0x2400 then plainWrite (s.writeConfig i sub v)
  else if i < 0x3000 then plainWrite (s.writeSystem i sub v)
  else if i < 0x4000 then plainWrite (s.writeHamlet i sub v)
  else if i < 0x4800 then plainWrite (s.writePortObj i sub v)
  else if i < 0x5000 then plainWrite (s.writeOpn i sub v)
  else if i < 0x5300 then plainWrite (s.writeHedgeObj i sub v)
  else if i < 0x6000 then plainWrite (s.writeVergerObj i sub v)
  else plainWrite (s.writeEvent i sub v)

/-- A write that R189 or R223 treats as one to an RO object: the active bank, or a swap under way. -/
def State.tableShut (s : State) (i sub : Nat) : Bool :=
  if i = 0x4805 ∧ (sub = 5 ∨ sub = 6) then !s.shadowOpen (s.obj 0x4805 3)
  else if 0x4000 ≤ i ∧ i < 0x4200 ∧ i % 0x10 = 3 ∧ sub = 4 then !s.shadowOpen (s.obj i 2)
  else false

/-- Check 4 of R470. -/
def State.accessRefused (s : State) (i sub : Nat) (acc : Acc) : Bool :=
  match acc with
  | .ro => true
  | .rc => true
  | .ws => s.power.ws.contains (objKey i sub)
  | _ => s.tableShut i sub

/-- A command that would move the device to another state is refused while a driving instruction is in
effect (R501): settle, restart, and a load of a full stencil. -/
def State.tapRefuses (s : State) (i sub v : Nat) : Bool :=
  s.tapDriving &&
    ((i == 0x2001 && sub == 1 && v == 1) || (i == 0x2300 && sub == 6) ||
      (i == 0x2304 && sub == 3 && s.stagedByte (s.obj 0x2304 1 + 6) == 1))

/-- The effect of a write by the access code of the object (R10). -/
def State.writeByCode (s : State) (i sub v : Nat) (acc : Acc) : DictResult :=
  match acc with
  | .w1c => .ok (s.setObj i sub (s.obj i sub &&& (s.obj i sub ^^^ v)), .nothing)
  | .ws =>
    match s.writeObj i sub v with
    | .ok (t, a) => .ok ({ t with power := { t.power with ws := objKey i sub :: t.power.ws } }, a)
    | .error c => .error c
  | _ => s.writeObj i sub v

/-- A WRITE of `n` bytes of value `v` to object `i.sub`, judged in the order of R470. -/
def State.dictWrite (s : State) (i sub n v : Nat) : DictResult :=
  match objSubs i with
  | none => .error abNoObject
  | some subs =>
    match findSub sub subs with
    | none => .error abNoSub
    | some row =>
      if s.accessRefused i sub row.acc then .error abAccess
      else if n ≠ row.size then .error abLength
      else
        match s.writeByCode i sub v row.acc with
        | .error c => .error c
        | .ok r => if s.standbyRefuses i || s.tapRefuses i sub v then .error abState else .ok r

/-- What a refusal leaves where its chapter says so: the code of frames that refuse a lower (R302), and the
status of a refused remap (R428). -/
def State.noteRefusal (s : State) (i sub v c : Nat) : State :=
  if i = 0x2307 ∧ sub = 3 ∧ c = abState ∧ s.remap.isNone then s.setObj 0x2307 4 3
  else if 0x5010 ≤ i ∧ i < 0x501C ∧ sub = 2 ∧ v = 2 ∧ c = abState then s.noteLower (i - 0x5010)
  else s

end Sys2Proof.Machine
end

