-- ==== Sys2Proof/Machine/Undercoat.lean ====
section
/-!
DEFINITION. Start-up and what a management write sets in motion: UNDERCOAT (R411), restart (R414), the reset
of R476, WAKING (R432), the choice of power state and waking (R443 to R447), and `manage`, a dictionary write
with all that follows it.
-/

namespace Sys2Proof.Machine

/-! ## Units in reset (R413, R414, R476) -/

/-- Objects that return to their defaults when hamlets, cellars, ports and cores are put into reset: theirs,
those of the routers' swap and drains, the troughs of the stencil, and the watch units of the hamlets. -/
def unitObj (i : Nat) : Bool :=
  (decide (0x3000 ≤ i) && decide (i < 0x3880)) || (decide (0x4000 ≤ i) && decide (i < 0x4200)) ||
    i == 0x4801 || (decide (0x5100 ≤ i) && decide (i < 0x5200)) ||
    (decide (0x5310 ≤ i) && decide (i < 0x5320)) || (decide (0x5400 ≤ i) && decide (i < 0x5480))

/-- Bytes that go with those units: cellars, croft windows, troughs, hedgerow frames, the verger's successor
table, and the windows of watch units 0 to 7. -/
def unitByte (a : Nat) : Bool :=
  decide (a < greenBase) ||
    (decide (troughBase 0 ≤ a) && decide (a < watchBase 8) &&
      !(decide (tallyBase 0 ≤ a) && decide (a < vergerBase)))

/-- What stands at the pins of a hedgerow region is all that its unconfigured form keeps. -/
def RegionRec.pinsOnly (x : RegionRec) : RegionRec := { RegionRec.blank with pins := x.pins }

/-- Hamlets, ports, cellars and service cores are put into reset, and the stencil is discarded (R413, R414,
R476, R416). -/
def State.unitsReset (s : State) : State :=
  let s1 := s.dropLoad.unload.dropObjs unitObj
  let p : PowerRec := { s1.power with hamlets := false, cellars := false, awake := [], down := [] }
  let l : LoadRec := { s1.load with entry := none }
  let h : HedgeRec := { HedgeRec.blank with
    regions := Tbl.mapVals .blank RegionRec.pinsOnly s1.hedge.regions }
  { s1 with
    bell := .rest, power := p, load := l, hedge := h, crofts := [], cellars := [], tests := [], ports := [], troughs := []
    snooped := [], cores := [], tasks := [], ready := [], verger := .rest, heldWrites := [], remap := none, opn := .rest
    watches := s1.watches.filter (fun e => e.1 == 8)
    mem := s1.mem.filter (fun e => !unitByte e.1)
    errs := s1.errs.filter (fun e => !unitByte (8 * e.1)) }.steepleSelect

/-- CFGFAIL_L (R413). -/
def State.cfgFail (s : State) (on : Bool) : State := { s with allset := { s.allset with cfgFail := on } }

/-- Entry to UNDERCOAT: the units wait in reset for their steps. -/
def State.enterUndercoat (s : State) : State :=
  (((s.unitsReset.setAllset false false).cfgFail false).enter .undercoat).banksUpdate

/-- The effect of a reset command (R476): the device is held in reset, with its primary stile closed (R33, R463), until
UNDERCOAT begins. -/
def State.resetDevice (s : State) : State :=
  if s.dev = .standby ∨ s.dev = .waking ∨ s.dev = .undercoat then s
  else
    let s1 := s.enterUndercoat
    { s1 with power := { s1.power with inReset := true } }

/-- What follows the RESPONSE of a command, or a write that sends none (R463, R476). -/
def State.afterEffect (s : State) : After → State
  | .nothing => s
  | .closePrimary ms => { s with ring := { s.ring with closedP := some ms } }
  | .closeBranch => { s with ring := { s.ring with closedB := true } }
  | .reset => s.resetDevice

/-! ## The steps of UNDERCOAT (R411) -/

/-- One DICT_DEFAULTS entry, as a management write: a refused one is skipped and counted (R411 step 9). -/
def State.writeDefault (s : State) (e : DictEntry) : State × After :=
  match s.dictWrite e.index e.sub e.size e.value with
  | .ok r => r
  | .error c => (((s.noteRefusal e.index e.sub e.value c).bump 0x2300 9).fire 1358 1, .nothing)

/-- Step 9: the entries in order; what follows a write comes after the last of them. -/
def State.writeDefaults (s : State) : State :=
  let r := s.defaults.foldl (fun (x : State × List After) e =>
    let (t, a) := x.1.writeDefault e
    (t, x.2 ++ [a])) (s, [])
  r.2.foldl (fun st a => st.afterEffect a) r.1

/-- Step 4: croft map, repairs, and the hamlets out of reset. -/
def State.step4 (s : State) : State :=
  let s1 := { s with softRepairs := [] }.applyCroftMap.applyRepairs
  { s1 with power := { s1.power with hamlets := true } }

/-- Step 5: modes and equalisation; every port then begins bring-up. -/
def State.step5 (s : State) : State :=
  ((upFrom 0 32).foldl (fun st p => st.setObj (pObj p) 9 st.power.brdid) s).reloadPorts

/-- Step 6: the cellars come up. -/
def State.step6 (s : State) : State :=
  let s1 := { s with power := { s.power with cellars := true } }
  (upFrom 0 4).foldl (fun st n => st.cellarUp n) s1

/-- Step 7: the HEDGEROW_BASE regions. -/
def State.step7 (s : State) : State := (upFrom 0 12).foldl (fun st r => st.applyBase r) s

/-- Step 8: the firmware, and the cores that it names are released. -/
def State.step8 (s : State) : State :=
  let mask := s.firmware.foldl (fun m e => m ||| e.mask) 0
  (upFrom 0 16).foldl (fun st k => if bitAt mask k then st.releaseCore k else st) s.applyFirmware

/-- The cores that the firmware in force names start again at their entries: step 8 for an apply of BOOT (R405). -/
def State.restartCores (s : State) : State :=
  let mask := s.firmware.foldl (fun m e => m ||| e.mask) 0
  (upFrom 0 16).foldl (fun st k =>
    if !bitAt mask k then st else (if (st.core k).held then st else st.resetCore k).releaseCore k) s

/-- Steps 1 to 3 up to the decision: every area judged, the default pulls applied, the skim coat chosen. -/
def State.steps1to3 (s : State) : State × Option Force :=
  let s1 := (upFrom 1 20).foldl (fun st a => st.judgeArea a)
    ((s.setObj 0x2300 2 0xFF).setObj 0x2300 3 0)
  let (s2, skim) := s1.selectSkim
  let s3 := s2.forceArea skim 3
  (s3.applyPulls, skim)

/-- The area that calls for FAULT (R400): the lowest that is BAD among those read, or an ABSENT area 1. -/
def State.faultArea (s : State) : Option Nat :=
  let n := s.bootSkim
  let read := upFrom 1 20 ++ (if n = 0 then [] else [20 + n])
  read.find? (fun a => s.areaBad a || (a == 1 && s.areaAbsent a))

/-- The records of every area in force (R402). -/
def State.forceAll (s : State) (skim : Option Force) : State :=
  ([1, 2, 4, 5, 6, 7, 8] ++ upFrom 9 12).foldl (fun st a => st.forceArea skim a) s

/-- The records in force are those that this UNDERCOAT selects (R446). -/
def State.noteBooted (s : State) : State := { s with store := { s.store with booted := s.store.force } }

/-- Entry to FAULT (R400, R413). -/
def State.enterFault (s : State) (a : Nat) : State :=
  let s1 := (s.setObj 0x2300 2 a).setObj 0x2300 3 (s.obj 0x2301 a % 256)
  ((s1.cfgFail true).enter .fault).banksUpdate

/-- UNDERCOAT (R411): the ten steps, to PREP or FAULT. The primary stile reopens as it begins (R476). -/
def execUndercoat (s : State) : Host.Outcome State Fault Refusal :=
  .next (if s.dev ≠ .undercoat then s
    else
      let (s1, skim) := { s with power := { s.power with inReset := false } }.steps1to3
      match s1.faultArea with
      | some a => s1.enterFault a
      | none => ((s1.forceAll skim).noteBooted.step4.step5.step6.step7.step8.writeDefaults.enter .prep).banksUpdate)

/-! ## WAKING (R432) -/

/-- WAKING ends: clock, green core, store and PCIe domains are ON and the reference is present. -/
def State.wakingDone (s : State) : State :=
  if s.dev ≠ .waking ∨ !s.power.reference ∨ !s.power.vmain then s
  else { s with power := { s.power with waits := false } }.enterUndercoat

/-- WAKING (R432, R206): the straps are sampled, and the clock, green core, store and PCIe domains brought up in their order;
without the reference the device stays in WAKING. -/
def execWaking (brdid : Fin 16) (reference : Bool) (s : State) : Host.Outcome State Fault Refusal :=
  .next (if s.dev ≠ .waking then s
    else
      let s1 := { s with power := { s.power with
        brdid := brdid.val, reference := reference, waits := !reference, green := true } }
      if reference then s1.wakingDone else s1.setObj 0x2101 5 (s1.obj 0x2101 5 ||| 1))

/-- REFERENCE_ARRIVAL (R432): it ends a WAKING that waits for it. -/
def execReferenceArrival (s : State) : Host.Outcome State Fault Refusal :=
  let s1 := if s.power.reference then s else { s.keepHeldTime with power := { s.power with reference := true } }
  .next (if s.power.waits then s1.wakingDone else s1)

/-! ## Waking from sleep (R444 to R447) -/

/-- Leaving PARK (R446): steps 4, 5 and 7 to 9 again from the copies of the last UNDERCOAT; the count
restarts, the alignment status reads 0, every port retrains. -/
def State.parkWake (s : State) (why : Nat) : State :=
  let s1 := { s.selfRefresh false with count := 0, store := { s.store with force := s.store.booted } }.setObj 0x2403 3 0
  ((s1.wakeMark why).step4.step5.step7.step8.writeDefaults).banksUpdate

/-- Leave power state IDLE, NAP or PARK. -/
def State.wakeUp (s : State) (why : Nat) : State :=
  match s.obj 0x2100 1 with
  | 1 => s.wakeLight why
  | 2 => s.wakeLight why
  | 3 => s.parkWake why
  | _ => s

/-- The wake command (R447, R432): in STANDBY it is a wake cause. -/
def State.wakeCommand (s : State) : State := if s.dev = .standby then s.wakeCause 2 else s.wakeUp 2

/-- POWER_STATE_WAKE (R444, R445): a known event whose wake is armed and due, or an unknown event: a capture edge where an
input is enabled, an event source where one that targets a service core is pending. -/
def execPowerStateWake (cause : WakeCause) (s : State) : Host.Outcome State Fault Refusal :=
  .next (match cause with
    | .armed =>
      match s.power.armed with
      | some t => if (s.nowNs + 2 ^ 32 - t % 2 ^ 32) % 2 ^ 32 < 2 ^ 31 then s.wakeUp 1 else s
      | none => s
    | .tcap => if (upFrom 0 8).any (fun i => s.obj (0x2220 + i) 1 != 0) then s.wakeUp 4 else s
    | .eventSource => if (upFrom 0 16).any (fun k => s.topPending k != 0xFFFF) then s.wakeUp 5 else s
    | c => s.wakeUp (WakeCause.code c))

/-- CAPTURE_EDGE (R393, R444): an edge that is first seen at the present stroke. An edge of the kind that its input's mode
selects wakes the device. -/
def execCaptureEdge (i : Fin 8) (rising : Bool) (s : State) : Host.Outcome State Fault Refusal :=
  .next (if s.captures i.val rising then
      let t := s.captureEdge i.val
      if 1 ≤ t.obj 0x2100 1 ∧ t.obj 0x2100 1 ≤ 3 then t.wakeUp 4 else t
    else s)

/-- ALLSET_SEEN (R419, R420, R444): the level of the line after its filter; a change wakes the device. Without VSTBY nothing
looks at the line (R430). -/
def execAllsetSeen (level : Bool) (s : State) : Host.Outcome State Fault Refusal :=
  .next (if !s.power.vstby then s
    else
      let t := s.takeAllset level
      if level ≠ s.allset.input ∧ 1 ≤ t.obj 0x2100 1 ∧ t.obj 0x2100 1 ≤ 3 then t.wakeUp 6 else t)

/-- POWER_STATE_CHOICE (R443, R444): a state is chosen from RUN; asleep, the choice is made again, and a
known event within the present wake lead, or a cause of R441, wakes the device at once. -/
def execPowerStateChoice (s : State) : Host.Outcome State Fault Refusal :=
  let st := s.obj 0x2100 1
  let best := s.chosenState
  .next (if s.dev = .standby then s
    else if st = 0 then (if s.mustRun ∨ best = 0 then s else s.enterSleep best)
    else if s.mustRun then s.wakeUp 2
    else
      match s.nextEvent with
      | some e =>
        if e.2 < leadNs st e.2 then s.wakeUp 1
        else if st < best then s.enterSleep best
        else { s with power := { s.power with armed := some (s.nowNs + e.2 - leadNs st e.2) } }
      | none =>
        if st < best then s.enterSleep best else { s with power := { s.power with armed := none } })

/-! ## A write with all that follows it -/

/-- A write of `n` bytes of value `v` to object `i.sub` (R470): restart, wake command and the writes of
DICT_DEFAULTS included; the second part is left until its RESPONSE has left. -/
def State.manage (s : State) (i sub n v : Nat) : DictResult :=
  match s.dictWrite i sub n v with
  | .error c => .error c
  | .ok (t, a) =>
    if i = 0x2300 ∧ sub = 6 then .ok (t.enterUndercoat, a)
    else if i = 0x2100 ∧ sub = 6 ∧ v = 2 then .ok (t.wakeCommand, a)
    else if i = 0x2302 then
      match s.store.command, t.store.command with
      | none, some (4, 5, _) => .ok (t.restartCores.writeDefaults.storeEnd 2 0, a)
      | none, some (4, _, _) => .ok (t.writeDefaults.storeEnd 2 0, a)
      | _, _ => .ok (t, a)
    else .ok (t, a)

end Sys2Proof.Machine
end

