-- ==== Sys2Proof/Machine/Mirror.lean ====
section
/-!
DEFINITION. The dictionary mirror (R472, R473): object slots, the octet block, the refusal record, and the
MSI-X table, as the host reaches them through BAR0 and packet initiators in the device address space.
-/

namespace Sys2Proof.Machine

/-- Offset of the octet selector (R472). -/
def offSelector : Nat := 0x3000000

/-- Offset of the octet data block (R472). -/
def offOctet : Nat := 0x3000020

/-- Record a refused access (R470, R473): `who` is the initiator, 1112 the host. -/
def State.noteMirror (s : State) (who i sub code : Nat) : State :=
  let w := if who = 1112 then 0xFF else who % 256
  let m := s.mirror
  { s with mirror := { m with
             refusal := code + i <<< 32 + sub <<< 48 + w <<< 56
             refusals := satAdd 64 m.refusals 1 } }

/-- A management write by the mirror (R470, R471): what follows the access is done at once, since a mirror
write has no RESPONSE; a refusal is recorded. Check 3 does not apply to the mirror (R473), so a slot that holds
no object is refused as NO_OBJECT. -/
def State.mirrorManage (s : State) (who i sub n v : Nat) : State :=
  match s.manage i sub n v with
  | .ok (t, a) => t.afterEffect a
  | .error c => (s.noteRefusal i sub v c).noteMirror who i sub (if c = abNoSub then abNoObject else c)

/-- Whether an access of `n` bytes at `off` is one within a slot (R473). -/
def slotAccess (off n : Nat) : Bool := larderSize n && decide (off % 8 + n ≤ 8)

/-- A read of object bytes in a slot (R473): `n` bytes from byte `off % 8` of the object. -/
def State.slotRead (s : State) (who off n : Nat) : State × List Byte :=
  let i := 0x1000 + off / 0x800
  let sub := off % 0x800 / 8
  match s.dictRead i sub with
  | .ok (t, v) => (t, leBytes n (v >>> (8 * (off % 8))))
  | .error c =>
    (if c = abState then s.noteMirror who i sub c else s, List.replicate n 0)

/-- A write in a slot (R473): it takes effect when it starts at the slot, carries every byte, and its size is
the object's; any other size is judged as one that no object has. -/
def State.slotWrite (s : State) (who off : Nat) (data : List (Byte × Bool)) : State :=
  let whole := off % 8 == 0 && data.all (·.2)
  s.mirrorManage who (0x1000 + off / 0x800) (off % 0x800 / 8) (if whole then data.length else 0)
    (leNat (data.map (·.1)))

/-- Index and sub-index of the selected object (R472). -/
def State.selected (s : State) : Nat × Nat := (s.mirror.selector % 0x10000, s.mirror.selector / 0x10000 % 256)

/-- The present value of the selected object, zero beyond its bytes, with the state that a read of it
leaves (R473). -/
def State.octetValue (s : State) (who : Nat) : State × List Byte :=
  let (i, sub) := s.selected
  match s.dictRead i sub with
  | .ok (t, v) => (t, leBytes 32 v)
  | .error c => (if c = abState then s.noteMirror who i sub c else s, List.replicate 32 0)

/-- What the selector loads into the staging buffer (R473): the present value, without the effects of a
read. -/
def State.octetPresent (s : State) : List Byte :=
  let (i, sub) := s.selected
  match objRow i sub with
  | some r => leBytes 32 (if r.acc = .wo then 0 else s.view i sub)
  | none => List.replicate 32 0

/-- A write of the selector (R472, R473). -/
def State.writeSelector (s : State) (off : Nat) (data : List (Byte × Bool)) : State :=
  let put := fun (x : Nat × Nat) (e : Byte × Bool) =>
    (x.1 + 1, if e.2 then putByte x.2 x.1 e.1 else x.2)
  let v := (data.foldl put (off - offSelector, s.mirror.selector)).2 % 2 ^ 24
  let s1 := { s with mirror := { s.mirror with selector := v } }
  { s1 with mirror := { s1.mirror with buffer := s1.octetPresent } }

/-- Whether an access of `n` bytes at byte `rel` of the octet data block is one of R473. -/
def octetAccess (rel n : Nat) : Bool := (rel == 0 && n == 32) || (larderSize n && rel % n == 0 && decide (rel + n ≤ 32))

/-- Lay enabled bytes over a buffer from byte `i` on. -/
def overlay : List Byte → Nat → List (Byte × Bool) → List Byte
  | buf, _, [] => buf
  | buf, i, (b, en) :: t => overlay (if en then setAt buf i b else buf) (i + 1) t

/-- A write of the octet data block (R473): the one that covers byte 31 writes the object. -/
def State.writeOctet (s : State) (who rel : Nat) (data : List (Byte × Bool)) : State :=
  let s1 := { s with mirror := { s.mirror with buffer := overlay s.mirror.buffer rel data } }
  if rel + data.length < 32 then s1
  else
    let (i, sub) := s.selected
    let n := match objRow i sub with
      | some r => r.size
      | none => 0
    s1.mirrorManage who i sub n (leNat (s1.mirror.buffer.take n))

/-- The refusal record or the count of refusals as bytes (R472); a read of the count restarts it. -/
def State.refusalRead (s : State) (off n : Nat) : State × List Byte :=
  let pick := fun v : Nat => leBytes n (v >>> (8 * (off % 8)))
  if off / 8 = 0x3F00000 / 8 then (s, pick s.mirror.refusal)
  else ({ s with mirror := { s.mirror with refusals := 0 } }, pick s.mirror.refusals)

/-- The areas of R472. -/
inductive MirrorPlace where
  | slot
  | selector
  | octet
  | refusal
  | msixTable
  | msixPending
  | reserved
  deriving DecidableEq, Repr

/-- The area in which an offset lies (R472). -/
def mirrorPlace (off : Nat) : MirrorPlace :=
  if off < 0x2880000 then .slot
  else if off < offSelector then .reserved
  else if off < offSelector + 8 then .selector
  else if off < offOctet then .reserved
  else if off < offOctet + 32 then .octet
  else if off < 0x3F00000 then .reserved
  else if off < 0x3F00010 then .refusal
  else if off < 0x3F80000 then .reserved
  else if off < 0x3F80400 then .msixTable
  else if off < 0x3F81000 then .reserved
  else if off < 0x3F81008 then .msixPending
  else .reserved

/-- A read of `n` bytes at `off` of the mirror; `none` where R472 or R473 refuses the access. -/
def State.mirrorRead (s : State) (who off n : Nat) : State × Option (List Byte) :=
  let slot := slotAccess off n
  match mirrorPlace off with
  | .slot =>
    if slot then
      let (t, bs) := s.slotRead who off n
      (t, some bs)
    else (s, none)
  | .selector => (s, if slot then some (leBytes n (s.mirror.selector >>> (8 * (off % 8)))) else none)
  | .octet =>
    if octetAccess (off - offOctet) n then
      let (t, bs) := s.octetValue who
      (t, some ((bs.drop (off - offOctet)).take n))
    else (s, none)
  | .refusal =>
    if slot then
      let (t, bs) := s.refusalRead off n
      (t, some bs)
    else (s, none)
  | .msixTable =>
    (s, if slot then some ((upFrom (off - 0x3F80000) n).map s.msixByte) else none)
  | .msixPending =>
    (s, if slot then some (leBytes n (s.msixPending.toNat >>> (8 * (off % 8)))) else none)
  | .reserved => (s, none)

/-- Write enabled bytes of the MSI-X table from table offset `o` on. -/
def State.msixPut (s : State) : Nat → List (Byte × Bool) → State
  | _, [] => s
  | o, (b, en) :: t =>
    (if en then s.setByte (msixTable + o) (b ^^^ BitVec.ofNat 8 (msixFlip o)) else s).msixPut (o + 1) t

/-- A write at `off` of the mirror; the flag is false where R472 or R473 refuses the access. -/
def State.mirrorWrite (s : State) (who off : Nat) (data : List (Byte × Bool)) : State × Bool :=
  let slot := slotAccess off data.length
  match mirrorPlace off with
  | .slot => if slot then (s.slotWrite who off data, true) else (s, false)
  | .selector => if slot then (s.writeSelector off data, true) else (s, false)
  | .octet =>
    if octetAccess (off - offOctet) data.length then (s.writeOctet who (off - offOctet) data, true)
    else (s, false)
  | .refusal => (s, slot)
  | .msixTable => if slot then (s.msixPut (off - 0x3F80000) data, true) else (s, false)
  | .msixPending => (s, slot)
  | .reserved => (s, false)

/-- Whether the mirror serves `who` (R472, R498): the host once its endpoint is served, others while the green
has power. -/
def State.mirrorServes (s : State) (who : Nat) : Bool :=
  if who = 1112 then s.pcie.served else s.granted 1142 && s.obj 0x2100 1 != 3

end Sys2Proof.Machine
end

