-- ==== Sys2Proof/Machine/Bus.lean ====
section
/-!
DEFINITION. The device address space (R13) and the packets that reach it (R169 to R178): which target an
address names, whether that target answers, reads and writes at it, the accesses that initiators make with their
response buffers, PACKET_READ and PACKET_WRITE flit by flit, and snoop coherence.
-/

namespace Sys2Proof.Machine

/-! ## The address map (R13) -/

/-- The place at offset `o` of the green region (R13). -/
def greenPlace (o : Nat) : Option Place :=
  if o < 0x800000 then some (.scratch o)
  else if 0x10000000 ≤ o ∧ o < 0x11000000 then
    some (.trough ((o - 0x10000000) / 0x10000) (o % 0x10000))
  else if 0x20000000 ≤ o ∧ o < 0x20010000 then some (.tally ((o - 0x20000000) / 0x1000) (o % 0x1000))
  else if 0x30000000 ≤ o ∧ o < 0x30040000 then some (.verger (o - 0x30000000))
  else if 0x40000000 ≤ o ∧ o < 0x4C000000 then
    some (.hedge ((o - 0x40000000) / 0x1000000) (o % 0x1000000))
  else if 0x50000000 ≤ o ∧ o < 0x62000000 then
    some (.watch ((o - 0x50000000) / 0x2000000) ((o - 0x50000000) % 0x2000000))
  else if 0x70000000 ≤ o ∧ o < 0x74000000 then some (.mirror (o - 0x70000000))
  else if 0x80000000 ≤ o ∧ o < 0x84000000 then some (.config (o - 0x80000000))
  else none

/-- The place of device address `a` (R13). -/
def placeOf (a : Nat) : Option Place :=
  if a < 4 * cellarBytes then some (.cellar a)
  else if a < 0x200000000000 then none
  else if a < 0x208000000000 then
    some (.croft ((a - 0x200000000000) / 0x20000000) ((a - 0x200000000000) % 0x20000000))
  else if greenBase ≤ a ∧ a < greenBase + 0x100000000 then greenPlace (a - greenBase)
  else none

/-- The target of packets at a place (R177). -/
def Place.target : Place → Nat
  | .croft k _ => k
  | .cellar a => 1024 + a / cellarBytes
  | .scratch _ => 1028
  | .trough _ _ => 1029
  | .tally _ _ => 1030
  | .verger _ => 1031
  | .hedge _ _ => 1032
  | .mirror _ => 1033
  | .config _ => 1034
  | .watch u _ => 1040 + u

/-- The sizes and alignments of a READ or WRITE (R169). -/
def packetSize (a n : Nat) : Bool := larderSize n || ((n == 16 || n == 32 || n == 64) && a % n == 0)

/-! ## Whether a target answers -/

/-- The power of a place (R171, R411, R413, R444): 0, or the error response. A cellar that is cut off answers
SHUTTERED (R181). -/
def State.gate (s : State) : Place → Nat
  | .croft k _ =>
    if s.granted (k / 128 * 132 + s.physCroft k) && s.granted (1056 + k / 128) then 0 else opNotPowered
  | .cellar a =>
    if s.power.cut.contains (8 + a / cellarBytes) then opShuttered
    else if s.greenOn && s.cellarOn a && s.granted (1096 + a / cellarBytes) then 0
    else opNotPowered
  | .watch u _ =>
    if u = 8 then (if s.greenOn then 0 else opNotPowered)
    else if s.granted (1056 + u) then 0
    else opNotPowered
  | .mirror _ => if s.granted 1142 then 0 else opNotPowered
  | .config _ => if s.granted 1142 then 0 else opNotPowered
  | _ => if s.greenOn then 0 else opNotPowered

/-! ## Snoop coherence (R178) -/

/-- The coherence home of the byte at address `a`, and its offset there (R334); none for an uncached
address. -/
def State.homeOf (s : State) (a : Nat) : Option (Nat × Nat) :=
  match placeOf a with
  | some (.scratch off) => some (1028, off)
  | some (.cellar a) =>
    if s.declaredRegion (a / 64 * 64) 64 then none else some (1024 + a / cellarBytes, a % cellarBytes)
  | some (.croft k off) =>
    if off < 0x40000 ∧ ((s.croft k).mode = 0 ∨ (s.croft k).sheet = .upLoadable) then some (k, off) else none
  | _ => none

/-- The lines of a snoop filter, oldest first. -/
def filterLines (f : List (Nat × Nat)) : List Nat := (f.map (·.1)).eraseDups

/-- The entries that the home must have invalidated before core `k` can hold line `line` (R178): those of its oldest
line, when the filter is full of others. -/
def State.mustEvict (s : State) (t line : Nat) : List (Nat × Nat) :=
  let f := s.filterOf t
  match filterLines f with
  | [] => []
  | old :: rest =>
    if rest.length + 1 < filterSize t ∨ (old :: rest).contains line then []
    else f.filter (fun e => e.1 == old)

/-- Core `k` comes to hold line `line` of home `t`. -/
def State.noteHolder (s : State) (t line k : Nat) : State :=
  let f := s.filterOf t
  if f.contains (line, k) then s else s.setFilter t (f ++ [(line, k)])

/-! ## Reads and writes at a place -/

/-- A write to the scratchpad (R336, R338, R339). -/
def State.scratchWrite (s : State) (init off : Nat) (data : List (Byte × Bool)) : State × Nat :=
  if 0x800000 < off + data.length then (s, opDecode)
  else
    (((s.scratchYield off data.length).eccWriteBytes (scratchBase + off) data).breakReservations init off
      data.length, opAck)

/-- A read of region frames (R304, R425). -/
def State.regionRead (s : State) (r off n : Nat) : State × Nat × List Byte :=
  if 532480 < off + n then (s, opDecode, [])
  else
    let ws := wordsOf (hedgeBase r + off) n
    if ws.any (fun w => s.readEcc w == .bad) then (s, opUncorrectable, [])
    else (s, opData, ((ws.flatMap (fun w => leBytes 8 (s.readEcc w).data)).drop (off % 8)).take n)

/-- Whether `n` bytes at offset `off` of the configuration window lie in one listed range (R427). -/
def configListed (off n : Nat) : Bool :=
  decide (off + n ≤ 0x2000000) || (decide (0x2000000 ≤ off) && decide (off + n ≤ 0x2200000)) ||
    (decide (0x2400000 ≤ off) && decide (off + n ≤ 0x2402000)) ||
    (decide (0x2402000 ≤ off) && decide (off + n ≤ 0x2404000))

/-- Write enabled bytes from address `a` on. -/
def State.putEnabledBytes (s : State) : Nat → List (Byte × Bool) → State
  | _, [] => s
  | a, (b, en) :: t => (if en then s.setByte a b else s).putEnabledBytes (a + 1) t

/-- A write in the configuration window (R427): only the write buffer takes it. -/
def State.configWrite (s : State) (off : Nat) (data : List (Byte × Bool)) : State × Nat :=
  if !configListed off data.length then (s, opDecode)
  else if 0x2000000 ≤ off ∧ off < 0x2200000 then (s.putEnabledBytes (configBase + off) data, opAck)
  else (s, opAck)

/-- Whether an access of `n` bytes at a place lies in ranges that the owning chapters list (R13); the address
translator answers ERROR_DECODE for any other. -/
def State.listed (s : State) (n : Nat) : Place → Bool
  | .croft k off => decide (off < 0x40000) || (s.croftRead k off n).isSome
  | .cellar a => decide (a + n ≤ 4 * cellarBytes)
  | .scratch off => decide (off + n ≤ 0x800000)
  | .trough _ off => decide (off + n ≤ 0x40) || (decide (0x8000 ≤ off) && decide (off + n ≤ 0xA000))
  | .tally _ off =>
    decide (off + n ≤ 8) || (decide (0x10 ≤ off) && decide (off + n ≤ 0x28))
  | .verger off =>
    decide (off + n ≤ 0x28000) || (decide (0x30000 ≤ off) && decide (off + n ≤ 0x30008)) ||
      (decide (0x31000 ≤ off) && decide (off + n ≤ 0x31100) && decide (off % 16 + n ≤ 8))
  | .hedge _ off => decide (off + n ≤ 532480)
  | .watch _ off => (upFrom off n).all watchListed
  | .mirror off => (upFrom off n).all (fun o => mirrorPlace o != .reserved)
  | .config off => configListed off n

/-- A read of `n` bytes at a window, which answers at once. -/
def State.placeRead (s : State) (init n : Nat) : Place → State × Nat × List Byte
  | .croft k off =>
    match s.croftRead k off n with
    | some bs => (s, opData, bs)
    | none => (s, opDecode, [])
  | .trough t off => s.troughWindowRead t off n
  | .tally i off => s.tallyWindowRead i off n
  | .verger off => s.vergerRead init off n
  | .hedge r off => s.regionRead r off n
  | .watch u off => s.watchWindowRead u off n
  | .mirror off =>
    match s.mirrorRead init off n with
    | (t, some bs) => (t, opData, bs)
    | (t, none) => (t, opDecode, [])
  | .config off =>
    if configListed off n then (s, opData, s.configBytes off n) else (s, opDecode, [])
  | .cellar _ => (s, opDecode, [])
  | .scratch _ => (s, opDecode, [])

/-- A write at a window, which answers at once. -/
def State.placeWrite (s : State) (init : Nat) (data : List (Byte × Bool)) : Place → State × Nat
  | .croft k off => s.croftWrite k off data
  | .trough t off => s.troughWindowWrite t off data
  | .tally i off => s.tallyWindowWrite i off data
  | .verger off => s.vergerWrite init off data
  | .hedge r off => s.regionWrite r off data
  | .watch u off => s.watchWindowWrite u off data
  | .mirror off =>
    match s.mirrorWrite init off data with
    | (t, true) => (t, opAck)
    | (t, false) => (t, opDecode)
  | .config off => s.configWrite off data
  | .cellar _ => (s, opDecode)
  | .scratch _ => (s, opDecode)

/-- An access at a window, with its answer. -/
def State.windowAccess (s : State) (who : Asker) (p : Place) : PAccess → State
  | .read n =>
    let (t, op, bs) := s.placeRead who.init n p
    t.reply who op bs
  | .fill n =>
    let (t, op, bs) := s.placeRead who.init n p
    t.reply who op bs
  | .write data =>
    let (t, op) := s.placeWrite who.init data p
    t.reply who op []
  | .atomic _ _ _ => s.reply who opDecode []

/-! ## Accesses at a home (R178, R336) -/

/-- The value that an AMO stores, on operands of `8 * n` bits read as numbers. -/
def amoValue (f5 n old src : Nat) : Option Nat :=
  let lt := decide (signed (8 * n) old < signed (8 * n) src)
  match f5 with
  | 0 => some ((old + src) % 2 ^ (8 * n))
  | 1 => some src
  | 4 => some (old ^^^ src)
  | 8 => some (old ||| src)
  | 0xC => some (old &&& src)
  | 0x10 => some (if lt then old else src)
  | 0x14 => some (if lt then src else old)
  | 0x18 => some (min old src)
  | 0x1C => some (max old src)
  | _ => none

/-- Set or clear the reservation of core `k` (R336). -/
def State.setReservation (s : State) (k : Nat) (g : Option Nat) : State :=
  s.setCore k { s.core k with reservation := g }

/-- Whether core `k` holds the reservation on the granule of scratchpad offset `off` (R336). -/
def State.reserved (s : State) (k off : Nat) : Bool := (s.core k).reservation == some (off / 64)

/-- LR, SC or an AMO at the scratchpad bank (R336); an SC answers 0 when it has stored, else 1. -/
def State.atomicNow (s : State) (who : Asker) (off f5 n src : Nat) : State :=
  let k := who.init - 1088
  if f5 = 3 then
    let s1 := s.setReservation k none
    if s.reserved k off then
      let (t, op) := s1.scratchWrite who.init off ((leBytes n src).map (fun b => (b, true)))
      if op = opAck then t.reply who opData (leBytes n 0) else t.reply who op []
    else s1.reply who opData (leBytes n 1)
  else
    match s.scratchRead off n with
    | (t, op, bs) =>
      if op ≠ opData then t.reply who op []
      else if f5 = 2 then (t.setReservation k (some (off / 64))).reply who op bs
      else
        let v := (amoValue f5 n (leNat bs) src).getD 0
        ((t.scratchWrite who.init off ((leBytes n v).map (fun b => (b, true)))).1).reply who op bs

/-- A read of `n` bytes at home `t`. -/
def State.homeRead (s : State) (who : Asker) (t off n : Nat) : State :=
  if t < 1024 then s.larderArrive t (mkWaiter who off (.read n))
  else
    let (u, op, bs) := if t < 1028 then s.cellarBytesRead (homeBase t + off) n else s.scratchRead off n
    u.reply who op bs

/-- A write at home `t` that waits for no core. -/
def State.homeWrite (s : State) (who : Asker) (t off : Nat) (data : List (Byte × Bool)) : State :=
  if t < 1024 then s.larderArrive t (mkWaiter who off (.write data))
  else
    let (u, op) := if t < 1028 then s.cellarBytesWrite who.init (homeBase t + off) data
      else s.scratchWrite who.init off data
    u.reply who op []

/-- The entries of the filter that an access at home `t` must have invalidated first (R178): a write or an atomic
that stores, those of the other cores that hold a line of it; a read that gives a core a line, those of the oldest
line of a full filter. A larder judges the access itself (`larderArrive`). -/
def State.mustWait (s : State) (who : Asker) (t off : Nat) : PAccess → List (Nat × Nat)
  | .read _ => []
  | .fill _ => s.mustEvict t (off / 64)
  | .write data => if t < 1024 then [] else holdersIn (s.filterOf t) off data.length who.init
  | .atomic f5 n _ =>
    if f5 = 2 ∨ (f5 = 3 ∧ !s.reserved (who.init - 1088) off) then [] else holdersIn (s.filterOf t) off n who.init

/-- An access at a coherence home (R178): it waits for the INV_ACK of the lines that it must have invalidated. -/
def State.homeAccess (s : State) (who : Asker) (t off : Nat) (acc : PAccess) : State :=
  if s.mustWait who t off acc ≠ [] then s.holdAccess ⟨who, t, off, acc, s.mustWait who t off acc⟩
  else
    match acc with
    | .read n => s.homeRead who t off n
    | .fill n => (s.noteHolder t (off / 64) (who.init - 1088)).homeRead who t off n
    | .write data => s.homeWrite who t off data
    | .atomic f5 n src => if t = 1028 then s.atomicNow who off f5 n src else s.reply who opDecode []

/-! ## A target serves an access -/

/-- Bytes of an access, and whether it is a write. -/
def PAccess.size : PAccess → Nat
  | .read n => n
  | .fill n => n
  | .write data => data.length
  | .atomic _ n _ => n
def PAccess.isWrite : PAccess → Bool
  | .write _ => true
  | _ => false

/-- The enabled bytes that an access sends (R170). -/
def PAccess.sent : PAccess → List Byte
  | .write data => (data.filter (·.2)).map (·.1)
  | _ => []

/-- The offset of a place in its window, which has the alignment of its address. -/
def Place.offset : Place → Nat
  | .croft _ off => off
  | .cellar a => a
  | .scratch off => off
  | .trough _ off => off
  | .tally _ off => off
  | .verger off => off
  | .hedge _ off => off
  | .watch _ off => off
  | .mirror off => off
  | .config off => off

/-- The word that an access writes to COMMAND of the verger (R340, R345), if it does. -/
def PAccess.commandWord : PAccess → Option Nat
  | .write data => if data.length = 8 ∧ data.all (·.2) then some (leNat (data.map (·.1))) else none
  | _ => none

/-- An access that its target takes, with its answer. One that crosses from a cellar into the next is answered
ERROR_DECODE (DESIGN CHOICE, assumption log 91). -/
def State.serve (s : State) (who : Asker) (acc : PAccess) (p : Place) : State :=
  if !packetSize p.offset acc.size then s.reply who opDecode []
  else
    match p with
    | .croft k off =>
      if 0x40000 ≤ off then s.windowAccess who p acc
      else if larderSize acc.size then s.homeAccess who k off acc
      else s.reply who opDecode []
    | .cellar a =>
      if a / cellarBytes = (a + acc.size - 1) / cellarBytes then
        s.homeAccess who (1024 + a / cellarBytes) (a % cellarBytes) acc
      else s.reply who opDecode []
    | .scratch off => s.homeAccess who 1028 off acc
    | .verger off =>
      match decide (off = 0x30000), acc.commandWord with
      | true, some w => s.commandWrite who w
      | _, _ => s.windowAccess who p acc
    | _ => s.windowAccess who p acc

/-- An access at its target (R171, R411, R413, R441, R444): one whose target has no power, or is cut off, is answered
so. -/
def State.reach (s : State) (who : Asker) (acc : PAccess) (p : Place) : State :=
  if s.gate p ≠ 0 then s.reply who (s.gate p) [] else s.serve who acc p

/-! ## Initiators (R172 to R177, R186) -/

/-- Class of an initiator's packets (R154): 0 M for management, 1 T for watch spill, 2 B for the others. A hedgerow
initiator chooses (R298). -/
def initClass (init : Nat) : Nat := if init = 1113 then 0 else if 1114 ≤ init ∧ init ≤ 1122 then 1 else 2

/-- An access that has its buffer is sent (R172): under the initiator's next tag, with its write data, which a tally
may snoop (R326). A router answers it SHUTTERED (R186), or the target answers it. -/
def State.send (s : State) (p : Parked) : State :=
  let who := { p.asker with tag := s.freshTag p.asker.init }
  let t := p.place.target
  let s1 := s.openTrans ⟨who.init, who.tag, t, 0, who.user, false, .access who.size who.cls who.write⟩
  let s2 := s1.snoop 3 who.init p.acc.sent
  if s.targetShut t || s.pathShut who.init t then s2.reply who opShuttered [] else s2.reach who p.acc p.place

/-- The access waits at its initiator. -/
def State.park (s : State) (p : Parked) : State := { s with opn := { s.opn with parked := s.opn.parked ++ [p] } }

/-- Whether accesses of `init` for target `t` wait already. -/
def State.waitsFor (s : State) (t init : Nat) : Bool :=
  s.opn.parked.any (fun q => q.asker.home == t + 1 && q.asker.init == init)

/-- An access uses one of the buffers that its initiator holds at target `t`. -/
def State.useBuffer (s : State) (t init : Nat) : State :=
  s.setRsv t init { s.rsv t init with busy := (s.rsv t init).busy + 1 }

/-- Whether initiator `init` holds a buffer at target `t` that no request uses. -/
def State.hasBuffer (s : State) (t init : Nat) : Bool :=
  decide ((s.rsv t init).busy < (s.rsv t init).heldM + (s.rsv t init).heldTB)

/-- An initiator makes an access (R176): it uses a buffer that it holds, or sends RSV(1), which is granted at once
when a buffer is free; until it has one, which it awaits as a transaction (R175), or while no B packet is injected (R188),
the access waits. An RSV for a shuttered endpoint is answered SHUTTERED (R186). -/
def State.seek (s : State) (p : Parked) : State :=
  let t := p.place.target
  let i := p.asker.init
  let r := s.rsv t i
  if s.classHeld p.asker.cls || s.waitsFor t i then s.park p
  else if s.hasBuffer t i then (s.useBuffer t i).send p
  else if s.targetShut t || s.pathShut i t then s.refuseRsv p.asker
  else if r.want ≠ 0 ∨ 4 ≤ r.heldM + r.heldTB then s.park p
  else
    let s1 := s.askBuffers t i p.asker.cls 1 (s.freshTag i) false
    match s1.granted? t i with
    | some g => (((s1.setRsv t i g).sampleWait i true).useBuffer t i).send p
    | none => (s1.openTrans (.ask i (s.freshTag i) t)).park p

/-- The requester of an access as initiator `init` makes it. -/
def requester (init cls : Nat) (user : Bool) (acc : PAccess) : Asker :=
  { Asker.plain init with cls := cls, size := acc.size, write := acc.isWrite, user := user }

/-- An access by initiator `init` in class `cls`, for its user when `user` (R13, R154, R169): its address translator
answers ERROR_DECODE where nothing is listed. A number that is no packet initiator's holds no buffer (R177). -/
def State.requestIn (s : State) (init cls : Nat) (user : Bool) (place : Option Place) (acc : PAccess) : State :=
  let who := requester init cls user acc
  if !packetInit init then s.discardCode
  else
    match place with
    | none => s.arrive who opDecode []
    | some p =>
      if s.listed acc.size p then s.seek ⟨{ who with home := p.target + 1, lane := p.offset % 8 }, p, acc⟩
      else s.arrive who opDecode []

/-- An access by initiator `init` in its own class. -/
def State.request (s : State) (init : Nat) (user : Bool) (place : Option Place) (acc : PAccess) : State :=
  s.requestIn init (initClass init) user place acc

/-! ## The host's accesses through BAR2 (R498, R509) -/

/-- A write of the host is aborted (R509): it is counted, and Advanced Error Reporting keeps the header of the first one
until it is cleared (PRESUMED, assumption log 112). -/
def State.abortWrite (s : State) (e : AbortLog) : State :=
  let t := s.bump 0x1020 4
  { t with pcie := { t.pcie with aborted := t.pcie.aborted.or (some e) } }

/-- Record the completion of a host request: 0 Successful Completion, 2 Configuration Request Retry Status,
4 Completer Abort. -/
def State.complete (s : State) (status : Nat) (data : List Byte) : State :=
  { s with pcie := { s.pcie with completion := some (status, data) } }

/-- A host access to BAR `bar` has ended with answer `op` (R509): a read has its completion; a posted write has none. -/
def State.hostEnd (s : State) (bar off : Nat) (acc : Access) (op : Nat) (data : List Byte) : State :=
  match acc with
  | .read _ => if op = opData then s.complete 0 data else s.complete 4 []
  | .write bs => if op = opAck then s else s.abortWrite ⟨bar, off, bs.length⟩

/-- Bytes of the packet that moves `left` bytes from address `a` on (R169): all of them, or as many as the largest packet
from there takes. -/
def hostPart (a left : Nat) : Nat :=
  if packetSize a left then left
  else ([64, 32, 16, 8, 4, 2].find? (fun n => decide (n ≤ left) && decide (a % n = 0))).getD 1

/-- Bytes that the host moves. -/
def HostMove.size (m : HostMove) : Nat :=
  match m.acc with
  | .read n => n
  | .write bs => bs.length

/-- The packet that the move sends next. -/
def HostMove.packet (m : HostMove) : PAccess :=
  let n := hostPart (m.addr + m.moved) (m.size - m.moved)
  match m.acc with
  | .read _ => .read n
  | .write bs => .write (((bs.drop m.moved).take n).map (fun b => (b, true)))

/-- The host's access `m` sends its next packet; the accesses behind it wait. -/
def State.hostIssue (s : State) (m : HostMove) (rest : List HostMove) : State :=
  { s with pcie := { s.pcie with moves := { m with answer := none } :: rest } }.request 1112 true
    (placeOf (m.addr + m.moved)) m.packet

/-- The first access of the host has ended; the next begins. -/
def State.hostNext (s : State) (rest : List HostMove) : State :=
  match rest with
  | [] => { s with pcie := { s.pcie with moves := [] } }
  | m :: more => s.hostIssue m more

/-- The host's accesses go on as far as the answers of their packets have come; an error response ends an access, and what
has moved before it stands (DESIGN CHOICE, assumption log 112). -/
def State.hostPump (s : State) : Nat → State
  | 0 => s
  | fuel + 1 =>
    match s.pcie.moves with
    | [] => s
    | m :: rest =>
      match m.answer with
      | none => s
      | some (op, data) =>
        let m1 := { m with moved := m.moved + m.packet.size, got := m.got ++ data }
        if (op = opData ∨ op = opAck) ∧ m1.moved < m.size then (s.hostIssue m1 rest).hostPump fuel
        else ((s.hostEnd 2 m.off m.acc op m1.got).hostNext rest).hostPump fuel

/-- An access through BAR2, as packets of initiator 1112 (R498). A read is outstanding until its completion comes. -/
def State.bar2 (s : State) (off : Nat) (acc : Access) : State :=
  let s1 := match acc with
    | .read _ => { s with pcie := { s.pcie with completion := none } }
    | .write _ => s
  let m : HostMove := ⟨off, s.obj 0x1020 1 + off, acc, 0, [], none⟩
  match s.pcie.moves with
  | [] => (s1.hostIssue m []).hostPump 128
  | ms => { s1 with pcie := { s1.pcie with moves := ms ++ [m] } }

/-- The accesses of `init` that wait for target `t` are sent while it has buffers, and the next is asked for. -/
def State.startParked (s : State) (t init : Nat) : Nat → State
  | 0 => s
  | fuel + 1 =>
    match s.opn.parked.find? (fun q => q.asker.home == t + 1 && q.asker.init == init) with
    | none => s
    | some p =>
      let r := s.rsv t init
      if s.classHeld p.asker.cls then s
      else if s.hasBuffer t init then
        let s1 := { s with opn := { s.opn with parked := s.opn.parked.erase p } }
        ((s1.useBuffer t init).send p).startParked t init fuel
      else if r.want ≠ 0 ∨ 4 ≤ r.heldM + r.heldTB then s
      else s.sendRsv t init p.asker.cls

/-- The GRANT of the RSV under a tag of `init` comes to it (R175, R176): the wait is counted (R184), and the initiator
sends what waited for a buffer. One for a tag that has ended is discarded; the buffers stay allocated, and a later access
uses them (DESIGN CHOICE, assumption log 104). -/
def State.grantComes (s : State) (init tag : Nat) (wait : Option Nat) : State :=
  match s.opn.trans.find? (fun o => o.init == init && o.tag == tag && o.kind == .rsv) with
  | none => s
  | some o =>
    let s1 := s.endTrans init tag
    (if s.greenOn then s1.bumpStat init 6 (wait.getD o.waited) else s1).startParked o.tgt init 5

/-- Whether the transaction under a tag is an RSV (R175). -/
def State.asksUnder (s : State) (init tag : Nat) : Bool :=
  s.opn.trans.any (fun o => o.init == init && o.tag == tag && o.kind == .rsv)

/-- A flit of the response network comes to its initiator (R171, R173): a GRANT, the answer SHUTTERED of an RSV (R186), or
the answer of a READ or WRITE. -/
def State.responseComes (s : State) (h : Nat) (wait : Option Nat) (w : BitVec 144) : State :=
  let f := respOf w
  if netGood .response w && f.cls != 0 && f.op == 1 && !reservedInit f.dest.toNat then
    s.grantComes f.dest.toNat f.tag.toNat wait
  else if netGood .response w && f.cls != 0 && f.op.toNat == opShuttered && s.asksUnder f.dest.toNat f.tag.toNat then
    (s.endTrans f.dest.toNat f.tag.toNat).rsvRefused { Asker.plain f.dest.toNat with tag := f.tag.toNat }
  else s.takeResponse h wait w

/-- The GRANT flit of an entry that waits at target `t` (R171). -/
def State.grantFlit (s : State) (t init : Nat) : RespFlit :=
  let r := s.rsv t init
  answerFlit (targetNode t) { Asker.plain init with tag := r.tag, cls := r.cls } 1 (r.want - 1)

/-- GRANT (R176, R177): the buffers are allocated and the flit goes to the initiator, through the response network where
the RSV came through the request network. A GRANT for a number that R154 reserves is discarded and counted. Where routers
on its way pass nothing, the target does not send it (DESIGN CHOICE, assumption log 104). -/
def execGrant (tgt : Target) (init : Initiator) (way : GrantWay) (s : State) : Host.Outcome State Fault Refusal :=
  let t := targetKey tgt
  let i := init.val
  .next (if (s.rsv t i).want = 0 ∨ s.wayShut (targetNode t) (initNode i) then s
    else
      match s.granted? t i with
      | none => s
      | some g =>
        let s1 := s.setRsv t i g
        if reservedInit i then s1.discardCode
        else if (s.rsv t i).net then s1.enterNet (targetNode t) .response ((respWord (s.grantFlit t i)).setWidth 144) false
        else if way.fate.flips.all (fun e => e == 0) then s1.grantComes i (s.rsv t i).tag (some way.wait)
        else
          s1.responseComes way.fate.finder.val (some way.wait)
            ((respWord (s.grantFlit t i)).setWidth 144 ^^^ getAt 0 way.fate.flips 0))

/-! ## Packets flit by flit (R169 to R177, R186) -/

/-- The place that a request flit names (R13, R169). -/
def flitPlace (f : ReqFlit) : Option Place :=
  let a := f.addr.toNat
  if !isGreen f.dest.toNat then some (.croft (croftAt (f.dest.toNat % 1024)) a)
  else if a < 4 * cellarBytes then some (.cellar a)
  else if 0x1F00000000 ≤ a ∧ a < 0x2000000000 then greenPlace (a - 0x1F00000000)
  else none

/-- Bytes of a READ or WRITE (R169). -/
def flitSize (f : ReqFlit) : Nat := 2 ^ f.size.toNat

/-- The requester of a request flit. -/
def flitAsker (f : ReqFlit) (home : Nat) (lat : Option Nat) (write : Bool) (fate : Fate) (via : Option Nat) : Asker :=
  ⟨f.src.toNat, f.tag.toNat, home, flitClass f.cls, lat, flitSize f, write, false, fate, f.addr.toNat % 8, via⟩

/-- Whether a write in part is that of `tag` of `src` at node `dest` (R153, R174). -/
def Half.same (src tag dest : Nat) (x : Half) : Bool := x.src == src && x.tag == tag && x.dest == nodeId dest

/-- A write in part, with one more request or beat. -/
def State.addHalf (s : State) (src tag dest : Nat) (req : Option (ReqFlit × Asker)) (beats : List DataFlit) : State :=
  let same := Half.same src tag dest
  match s.opn.halves.find? same with
  | some x =>
    let y := { x with req := x.req.or req, beats := x.beats ++ beats }
    { s with opn := { s.opn with halves := s.opn.halves.map (fun z => if same z then y else z) } }
  | none => { s with opn := { s.opn with halves := s.opn.halves ++ [⟨src, tag, nodeId dest, req, beats, 0⟩] } }

/-- The write in part of a transaction is dropped. -/
def State.dropHalf (s : State) (src tag dest : Nat) : State :=
  { s with opn := { s.opn with halves := s.opn.halves.filter (fun x => !x.same src tag dest) } }

/-- A READ or WRITE flit for a place comes to its target (R172, R176, R177, R186): the state in which it has had all that
it gets, or the state in which the target has accepted it, with the requester. `who` gives the requester by the buffer that
the request uses. -/
def State.targetTakes (s : State) (f : ReqFlit) (p : Place) (who : Nat → Asker) : State ⊕ State × Place × Asker :=
  let i := f.src.toNat
  let t := p.target
  if s.targetShut t || ((who 0).via.isNone && s.pathShut i t) then
    .inl ((s.dropHalf i f.tag.toNat f.dest.toNat).reply (who 0) opShuttered [])
  else if !s.hasBuffer t i then .inl s.discardCode
  else if f.size = 7 then .inl ((s.useBuffer t i).reply (who (t + 1)) opDecode [])
  else .inr (s.useBuffer t i, p, who (t + 1))

/-- Whether the ranges that the address map lists hold the access of a flit (R13); a reserved SIZE counts as one byte. -/
def State.flitListed (s : State) (f : ReqFlit) (p : Place) : Bool := s.listed (if f.size = 7 then 1 else flitSize f) p

/-- The transaction of a READ or WRITE flit. -/
def flitTrans (f : ReqFlit) (t : Nat) (write : Bool) : Trans :=
  ⟨f.src.toNat, f.tag.toNat, t, 0, false, false, .access (flitSize f) (flitClass f.cls) write⟩

/-- A READ or WRITE flit arrives (R172, R175 to R177, R186, R188): the state in which it has had all that it gets, or the
state in which its target has accepted it, with the place and the requester. One that its initiator does not
send, since B packets are held back or the tag rests, does not arrive. -/
def State.acceptFlit (s : State) (f : ReqFlit) (lat : Nat) (write : Bool) (fate : Fate) :
    State ⊕ State × Place × Asker :=
  let i := f.src.toNat
  let who := fun home => flitAsker f home (some lat) write fate none
  if s.classHeld (flitClass f.cls) || s.tagRests i f.tag.toNat then .inl s
  else
    match flitPlace f with
    | none => .inl (s.arrive (who 0) opDecode [])
    | some p =>
      let s1 := if packetInit i then s.openTrans (flitTrans f p.target write) else s
      if !s.flitListed f p then .inl (s.arrive (who 0) opDecode []) else s1.targetTakes f p who

/-- A READ or WRITE flit comes to its target through the request network; `node` answers it. -/
def State.acceptNet (s : State) (f : ReqFlit) (write : Bool) (node : Nat) : State ⊕ State × Place × Asker :=
  let who := fun home => flitAsker f home none write .arrives (some node)
  match flitPlace f with
  | none => .inl (s.reply (who 0) opDecode [])
  | some p => if !s.flitListed f p then .inl (s.reply (who 0) opDecode []) else s.targetTakes f p who

/-- What a target does with a READ that it has accepted, or not. -/
def readAccepted (f : ReqFlit) : State ⊕ State × Place × Asker → State
  | .inl t => t
  | .inr (t, p, who) => t.reach who (.read (flitSize f)) p

/-- PACKET_READ (R172). -/
def execPacketRead (src : BitVec 11) (tag : BitVec 8) (dest : BitVec 11) (ask : ReqAsk) (lat : Nat) (fate : Fate)
    (s : State) : Host.Outcome State Fault Refusal :=
  let f := requestFlit src tag dest ask
  .next (match s.takeRequest f 3 with
    | some t => t
    | none => readAccepted f (s.acceptFlit f lat false fate))

/-- Byte `i` of a write at address `a` with its enable, from the beats of it (R170). -/
def beatByte (a i : Nat) (beats : List DataFlit) : Byte × Bool :=
  let lane := (a + i) % 8
  match beats.find? (fun b => b.beat.toNat == (a % 8 + i) / 8) with
  | some b => (BitVec.ofNat 8 (bits b.data.toNat (8 * lane) 8), b.be.getLsbD lane)
  | none => (0, false)

/-- The data of a write, once every beat of it has come. -/
def Half.whole (x : Half) (f : ReqFlit) : Option (List (Byte × Bool)) :=
  let a := f.addr.toNat
  let n := flitSize f
  if (upFrom 0 (beatCount a n)).all (fun k => x.beats.any (fun b => b.beat.toNat == k)) then
    some ((upFrom 0 n).map (fun i => beatByte a i x.beats))
  else none

/-- The target performs a write once it holds its request and all its data (R174). -/
def State.tryWrite (s : State) (src tag dest : Nat) (lat : Option Nat) (fate : Fate) : State :=
  match s.opn.halves.find? (Half.same src tag dest) with
  | none => s
  | some x =>
    match x.req with
    | none => s
    | some (f, who) =>
      match x.whole f, flitPlace f with
      | some data, some p =>
        (s.dropHalf src tag dest).reach { who with lat := lat, fate := fate } (.write data) p
      | _, _ => s

/-- What a target does with a WRITE that it has accepted, or not: its data may be there already. -/
def writeAccepted (f : ReqFlit) (lat : Option Nat) (fate : Fate) : State ⊕ State × Place × Asker → State
  | .inl t => t
  | .inr (t, _, who) =>
    (t.addHalf f.src.toNat f.tag.toNat f.dest.toNat (some (f, who)) []).tryWrite f.src.toNat f.tag.toNat f.dest.toNat
      lat fate

/-- The request flit of a WRITE arrives. -/
def State.writeRequest (s : State) (f : ReqFlit) (lat : Nat) (fate : Fate) : State :=
  match s.takeRequest f 4 with
  | some t => t
  | none => writeAccepted f (some lat) fate (s.acceptFlit f lat true fate)

/-- Whether the croft endpoint at a node is shuttered, so that write data for it are discarded (R186). -/
def State.nodeShut (s : State) (dest : Nat) : Bool := !isGreen dest && s.targetShut (croftAt (dest % 1024))

/-- Whether a target has accepted the request of a write whose data come (R186). -/
def State.hasRequest (s : State) (f : DataFlit) : Bool :=
  s.opn.halves.any (fun x => x.same f.src.toNat f.tag.toNat f.dest.toNat && x.req.isSome)

/-- The bytes that an initiator sends in a beat of write data, which a tally may snoop (R326). -/
def State.sendBeat (s : State) (f : DataFlit) : State :=
  if packetInit f.src.toNat then s.snoop 3 f.src.toNat (beatBytes f) else s

/-- A beat of write data comes to its target (R174, R186): the routers discard it for a shuttered endpoint, or when `shut`
because a router on its way is, but for a write that the target has accepted. -/
def State.beatArrives (s : State) (f : DataFlit) (lat : Option Nat) (fate : Fate) (shut : Bool) : State :=
  let i := f.src.toNat
  if (s.nodeShut f.dest.toNat || shut) && !s.hasRequest f then s
  else (s.addHalf i f.tag.toNat f.dest.toNat none [f]).tryWrite i f.tag.toNat f.dest.toNat lat fate

/-- A beat of write data arrives (R170, R173): one in error, or with a reserved code, is discarded and counted; read
data is no part of a write. What a tally snoops is what the initiator sent, so it does not depend on what
becomes of the write (R326). -/
def State.writeBeat (s : State) (f : DataFlit) (lat : Nat) (fate : Fate) : State :=
  if !dataGood f then s.flitError (finder f.dest)
  else if f.cls = 0 ∨ 2 ≤ f.kind.toNat then s.discardCode
  else if f.kind = 1 then s
  else
    (s.sendBeat f).beatArrives f (some lat) fate (s.wayShut (initNode f.src.toNat) (nodeId f.dest.toNat))

/-- PACKET_WRITE (R172, R174, R178): flits of a WRITE arrive, in this order. -/
def execPacketWrite (src : BitVec 11) (tag : BitVec 8) (dest : BitVec 11) (flits : List WriteFlit) (lat : Nat)
    (fate : Fate) (s : State) : Host.Outcome State Fault Refusal :=
  .next (flits.foldl (fun st x => match x with
    | .request a => st.writeRequest (requestFlit src tag dest a) lat fate
    | .data b => st.writeBeat (dataFlit src tag dest b) lat fate) s)

/-! ## INVALIDATE and INV_ACK (R178, R179) -/

/-- The coherence home that a snoop flit names (R179); none for a green value of 5 to 7. -/
def flitHome (f : SnoopFlit) : Option Nat :=
  let v := f.home.toNat
  if !isGreen v then some (croftAt (v % 1024))
  else if v % 8 = 0 then some 1028
  else if v % 8 ≤ 4 then some (1023 + v % 8)
  else none

/-- What an agent at node `dest` does with a snoop flit before it acts on it (R173, R179): none when the flit is taken
as the OP of this row, with its home. -/
def State.takeSnoop (s : State) (f : SnoopFlit) (op : Nat) (dest : BitVec 11) : State ⊕ Nat :=
  if !snoopGood f then .inl (s.flitError (finder dest))
  else if f.op = 0 ∨ 3 ≤ f.op.toNat then .inl s.discardCode
  else
    match flitHome f with
    | none => .inl s
    | some t => if f.op.toNat = op then .inr t else .inl s

/-- INVALIDATE (R178, R334): the line leaves both caches of the core, which stands on the green. Routers that pass no
traffic hold it back (R32, R186). -/
def execInvalidate (op : BitVec 3) (core : BitVec 4) (line : SnoopLine) (s : State) :
    Host.Outcome State Fault Refusal :=
  let f := snoopFlit op core line
  .next (match s.takeSnoop f 1 0x400 with
    | .inl t => t
    | .inr t =>
      if s.wayShut (targetNode t) 1024 then s else s.uncache f.core.toNat (homeBase t / 64 + f.line.toNat))

/-- Whether core `k` holds the line at address `64 * line`. -/
def State.coreHolds (s : State) (k line : Nat) : Bool :=
  (s.core k).icache.any (fun e => e.1 == line) || (s.core k).dcache.any (fun e => e.1 == line)

/-- The held accesses that no longer wait are performed, in order of arrival (R178). -/
def State.performHeld (s : State) : List HeldAccess → State
  | [] => s
  | h :: rest =>
    (if h.waits = [] then s.homeAccess h.asker h.home h.addr h.acc else s.holdAccess h).performHeld rest

/-- What home `t` does with the INV_ACK of a core for a line (R178): the line leaves its filter, and an access that waited
for this answer alone is performed. A core answers once it holds the line no more. -/
def State.ackArrives (s : State) (t : Nat) (f : SnoopFlit) : State :=
  let e := (f.line.toNat, f.core.toNat)
  if s.coreHolds f.core.toNat (homeBase t / 64 + f.line.toNat) then s
  else
    let ws := s.heldWrites.map (fun h => if h.home = t then { h with waits := h.waits.filter (· != e) } else h)
    let s1 := s.setFilter t ((s.filterOf t).filter (· != e))
    { s1 with heldWrites := [] }.performHeld ws

/-- INV_ACK (R178); routers that pass no traffic hold it back (R32, R186). -/
def execInvAck (op : BitVec 3) (core : BitVec 4) (line : SnoopLine) (s : State) : Host.Outcome State Fault Refusal :=
  let f := snoopFlit op core line
  .next (match s.takeSnoop f 2 f.home with
    | .inl t => t
    | .inr t => if s.wayShut 1024 (targetNode t) then s else s.ackArrives t f)

end Sys2Proof.Machine
end

