-- ==== Sys2Proof/Machine/Windows.lean ====
section
/-!
DEFINITION. The rows that are one access of an initiator at a window of the device address space (R13): crofts and
larders, regions, troughs, tallies, the verger, watch units, the mirror, the spill writes of a watch unit, and the
packets of hedgerow initiators. Each is a packet of its initiator (R154), with a response buffer (R176).
-/

namespace Sys2Proof.Machine

/-- The data of a write with every byte enabled. -/
def enabled (bs : List Byte) : List (Byte × Bool) := bs.map (fun b => (b, true))

/-- A host or packet access as what a packet carries. -/
def packetAccess : Access → PAccess
  | .read n => .read n
  | .write bs => .write (enabled bs)

/-- A write of initiator `init` at a place, whose answer its user does not wait for. -/
def State.windowWrite (s : State) (init : Initiator) (p : Place) (bs : List Byte) : State :=
  s.request init.val false (some p) (.write (enabled bs))

/-! ## Crofts, regions, watch units (R110, R116, R304, R379) -/

/-- CROFT_WINDOW_WRITE (R109, R110). -/
def execCroftWindowWrite (init : Initiator) (h : Hamlet) (c : Croft) (off : Nat) (data : List Byte) (s : State) :
    Host.Outcome State Fault Refusal :=
  .next (s.windowWrite init (.croft (h.val * 128 + c.val) off) data)

/-- NON_BP_LARDER_ACCESS (R116 to R119): one that begins past the larder's end is answered ERROR_DECODE (R118). -/
def execNonBpLarderAccess (init : Initiator) (h : Hamlet) (c : Croft) (off : Nat) (acc : Access) (s : State) :
    Host.Outcome State Fault Refusal :=
  let a := packetAccess acc
  .next (if off < 0x40000 then s.request init.val false (some (.croft (h.val * 128 + c.val) off)) a
    else s.arrive (requester init.val (initClass init.val) false a) opDecode [])

/-- REGION_WINDOW_WRITE (R304). -/
def execRegionWindowWrite (init : Initiator) (r : Region) (off : Nat) (data : List Byte) (s : State) :
    Host.Outcome State Fault Refusal := .next (s.windowWrite init (.hedge r.val off) data)

/-- WATCH_WINDOW_WRITE (R379). -/
def execWatchWindowWrite (init : Initiator) (u : WatchUnit) (off : Nat) (data : List Byte) (s : State) :
    Host.Outcome State Fault Refusal := .next (s.windowWrite init (.watch u.val off) data)

/-! ## Troughs and tallies (R308, R311, R317, R318, R325) -/

/-- PUSH (R308). -/
def execPush (init : Initiator) (t : Fin 256) (item : BitVec 64) (s : State) : Host.Outcome State Fault Refusal :=
  .next (s.windowWrite init (.trough t.val 0) (leBytes 8 item.toNat))

/-- PUSH_EOP (R308). -/
def execPushEop (init : Initiator) (t : Fin 256) (item : BitVec 64) (s : State) : Host.Outcome State Fault Refusal :=
  .next (s.windowWrite init (.trough t.val 8) (leBytes 8 item.toNat))

/-- POP (R317). -/
def execPop (init : Initiator) (t : Fin 256) (s : State) : Host.Outcome State Fault Refusal :=
  .next (s.request init.val false (some (.trough t.val 0x10)) (.read 8))

/-- DROP (R311): its value is ignored. -/
def execDrop (init : Initiator) (t : Fin 256) (s : State) : Host.Outcome State Fault Refusal :=
  .next (s.windowWrite init (.trough t.val 0x28) (leBytes 8 0))

/-- PUBLISH (R318). -/
def execPublish (init : Initiator) (t : Fin 256) (value : BitVec 64) (s : State) :
    Host.Outcome State Fault Refusal := .next (s.windowWrite init (.trough t.val 0x30) (leBytes 8 value.toNat))

/-- RELEASE of a trough (R318). -/
def execTroughRelease (init : Initiator) (t : Fin 256) (value : BitVec 64) (s : State) :
    Host.Outcome State Fault Refusal := .next (s.windowWrite init (.trough t.val 0x38) (leBytes 8 value.toNat))

/-- BANK_VIEW_WRITE (R318). -/
def execBankViewWrite (init : Initiator) (t : Fin 256) (off : Nat) (data : List Byte) (s : State) :
    Host.Outcome State Fault Refusal := .next (s.windowWrite init (.trough t.val (0x8000 + off)) data)

/-- TALLY_FEED (R325). -/
def execTallyFeed (init : Initiator) (n : Fin 16) (data : List Byte) (s : State) :
    Host.Outcome State Fault Refusal := .next (s.windowWrite init (.tally n.val 0) data)

/-! ## The verger (R343, R345, R347) -/

/-- A write of `init` to COMMAND (R345). -/
def State.vergerCommand (s : State) (init : Initiator) (w : Nat) : Host.Outcome State Fault Refusal :=
  .next (s.windowWrite init (.verger 0x30000) (leBytes 8 w))

/-- ARM (R343). -/
def execArm (init : Initiator) (task : BitVec 12) (s : State) : Host.Outcome State Fault Refusal :=
  s.vergerCommand init (1 + task.toNat <<< 4)

/-- SIGNAL (R343). -/
def execSignal (init : Initiator) (task amount : BitVec 12) (s : State) :
    Host.Outcome State Fault Refusal := s.vergerCommand init (2 + task.toNat <<< 4 + amount.toNat <<< 16)

/-- CANCEL (R343). -/
def execCancel (init : Initiator) (task : BitVec 12) (s : State) : Host.Outcome State Fault Refusal :=
  s.vergerCommand init (3 + task.toNat <<< 4)

/-- DONE (R343). -/
def execDone (init : Initiator) (s : State) : Host.Outcome State Fault Refusal := s.vergerCommand init 4

/-- YIELD (R343). -/
def execYield (init : Initiator) (s : State) : Host.Outcome State Fault Refusal := s.vergerCommand init 5

/-- COMMAND_ERROR (R345): a word that is no command; a word that is one is performed. -/
def execCommandError (init : Initiator) (word : BitVec 64) (s : State) : Host.Outcome State Fault Refusal :=
  s.vergerCommand init word.toNat

/-- TAKE (R347). -/
def execTake (k : CoreNo) (s : State) : Host.Outcome State Fault Refusal :=
  .next (s.request (1088 + k.val) false (some (.verger (0x31000 + k.val * 16))) (.read 8))

/-! ## Watch spill (R365) -/

/-- A 64-byte write that carries the given bytes, of which `a` is the address of the first: the others are not
enabled. -/
def spillData (a : Nat) (bs : List (Nat × Byte)) : List (Byte × Bool) :=
  (upFrom (a / 64 * 64) 64).map (fun x => match bs.find? (fun e => e.1 == x) with
    | some e => (e.2, true)
    | none => (0, false))

/-- SPILL_WRITE (R365): one 64-byte T-class write of staged records into the spill region (R154). -/
def execSpillWrite (u : WatchUnit) (s : State) : Host.Outcome State Fault Refusal :=
  let w := s.watch u.val
  .next (if w.staged = [] then s
    else
      let (bs, st, n) := s.spillBytes u.val 64 w.sent w.staged
      let a := (bs.head?.map (·.1)).getD 0
      (s.setWatch u.val { w with staged := st, sent := n }).request (1114 + u.val) false (placeOf (a / 64 * 64))
        (.write (spillData a bs)))

/-! ## Packets of hedgerow initiators (R298) -/

/-- A packet register as a device address, an access, and a class. -/
def HInit.fields (h : HInit) : Nat × PAccess × Nat :=
  let word := fun i => (Tbl.get 0 h.packet i).toNat
  let n := 2 ^ bits (word 1) 16 2
  let a := word 0 + bits (word 1) 0 16 <<< 32
  let acc := if bitAt (word 1) 18 then .write (enabled (leBytes n (word 2 + word 3 <<< 32))) else .read n
  (a, acc, 1 + bits (word 1) 19 1)

/-- PACKET_START (R298): the initiator translates the address, reserves a buffer and makes the access. -/
def execPacketStart (i : Fin 64) (s : State) : Host.Outcome State Fault Refusal :=
  let h := s.hinit i.val
  let (a, acc, cls) := h.fields
  .next (if h.start then
      (s.setHinit i.val { h with start := false, answer := none }).requestIn (1024 + i.val) cls true (placeOf a) acc
    else s)

/-- The end of a packet enters the result register (R298); an error is counted (R306). -/
def State.packetEnds (s : State) (i op : Nat) (bs : List Byte) : State :=
  let h := s.hinit i
  let code := if op = opData ∨ op = opAck then 0 else op
  let s1 := s.setHinit i
    { h with busy := false, done := true, answer := none, code := BitVec.ofNat 4 code,
             data := BitVec.ofNat 64 (leNat bs) }
  if code = 0 then s1 else s1.bump (0x5080 + i) 5

/-- PACKET_DONE (R298): the answer comes to the initiator, which counts it (R184), and enters the result register, as
does the end of the transaction by its timeout; a lost answer leaves the transaction to that timeout. -/
def execPacketDone (i : Fin 64) (lat : Nat) (fate : Fate) (s : State) : Host.Outcome State Fault Refusal :=
  let h := s.hinit i.val
  .next (match h.busy, h.answer with
    | true, some (none, op, bs) => s.packetEnds i.val op bs
    | true, some (some who, op, bs) =>
      let s1 := (s.setHinit i.val { h with answer := none }).answerComes { who with lat := some lat, fate := fate } op bs
      match (s1.hinit i.val).answer with
      | some (_, code, data) => s1.packetEnds i.val code data
      | none => s1
    | _, _ => s)

end Sys2Proof.Machine
end

