-- ==== Sys2Proof/Machine/Pcie.lean ====
section
/-!
DEFINITION. The host's PCIe port and the test port (R497 to R501): configuration requests, BAR0 and BAR2,
PERST_L, and the instructions of the test port.
-/

namespace Sys2Proof.Machine

/-- A PCIe access wakes the device from IDLE, NAP and PARK (R444). -/
def State.hostWake (s : State) : State :=
  let st := s.obj 0x2100 1
  if 1 ≤ st ∧ st ≤ 3 then s.wakeUp 3 else s

/-! ## BAR0 and BAR2 (R472, R473, R498, R509) -/

/-- A host access through BAR0 is answered with `op` (R498, R509): it is a transaction of the host's initiator
(R154, R190), though its endpoint serves it without the network (R472). Tallies snoop what it has moved (R326). -/
def State.hostAnswer (s : State) (off : Nat) (acc : Access) (op : Nat) (data : List Byte) : State :=
  let who := requester 1112 2 true (packetAccess acc)
  let s1 := { s with answer := ⟨who, op, data⟩ }.countAnswer who op
  (if op = opData then s1.snoop 3 1112 data else s1).hostEnd 0 off acc op data

/-- An access through BAR0: a write that is aborted has no other effect (R509). -/
def State.bar0 (s : State) (off : Nat) (acc : Access) : State :=
  match acc with
  | .read n =>
    match s.mirrorRead 1112 off n with
    | (t, some bs) => t.hostAnswer off acc opData bs
    | (t, none) => t.hostAnswer off acc opDecode []
  | .write bs =>
    match s.mirrorWrite 1112 off (enabled bs) with
    | (t, true) => (t.snoopBy s 3 1112 bs).hostAnswer off acc opAck []
    | (_, false) => s.hostAnswer off acc opDecode []

/-- Whether the object that an access at `off` of BAR0 reaches lies in a domain that PARK has switched off (R444). -/
def State.bar0Off (s : State) (off : Nat) : Bool :=
  s.obj 0x2100 1 == 3 &&
    match mirrorPlace off with
    | .slot => parkLost (0x1000 + off / 0x800)
    | .octet => parkLost s.selected.1
    | _ => false

/-- An access through BAR0, with what it does to power (R444): the device wakes first, but where the access needs a domain
that PARK has switched off it is answered at once. -/
def State.hostBar0 (s : State) (off : Nat) (acc : Access) : State :=
  if s.bar0Off off then (s.hostAnswer off acc opNotPowered []).hostWake else s.hostWake.bar0 off acc

/-- BAR0_ACCESS (R472, R473): served from the first Successful Completion on. -/
def execBar0Access (off : Nat) (acc : Access) (s : State) : Host.Outcome State Fault Refusal :=
  .next (if s.pcie.served then s.hostBar0 off acc else s)

/-- OCTET_DATA_WRITE (R473): by the host through BAR0, by others as a packet. -/
def execOctetDataWrite (init : Initiator) (off : Nat) (data : List Byte) (s : State) :
    Host.Outcome State Fault Refusal :=
  .next (if init.val ≠ 1112 then s.windowWrite init (.mirror (offOctet + off)) data
    else if s.pcie.served then s.hostBar0 (offOctet + off) (.write data)
    else s)

/-- BAR2_ACCESS (R498): the device wakes from IDLE and NAP first; in PARK an access to a domain that is OFF is
answered at once, and the device wakes (R444). -/
def execBar2Access (off : Nat) (acc : Access) (s : State) : Host.Outcome State Fault Refusal :=
  .next (if !s.pcie.served then s
    else if s.obj 0x2100 1 = 3 then (s.bar2 off acc).hostWake
    else s.hostWake.bar2 off acc)

/-! ## The endpoint (R478, R497, R498) -/

/-- The MSI-X table and its pending bits as a reset of the endpoint leaves them. -/
def State.msixReset (s : State) : State :=
  { s with
    msixEnable := false, msixFuncMask := false, msixPending := 0
    mem := Tbl.clearRange msixTable (msixTable + 0x400) s.mem }

/-- The host forgets what it has under way: answers that come later find no user. -/
def State.forgetHost (s : State) : State :=
  let drop := fun (p : Parked) => if p.asker.init = 1112 then { p with asker := { p.asker with user := false } } else p
  { s with opn := { s.opn with
             trans := s.opn.trans.map (fun o => if o.init = 1112 then { o with user := false } else o),
             parked := s.opn.parked.map drop } }

/-- PERST (R498): a low level holds the endpoint in reset, and changes nothing else. -/
def execPerst (high : Bool) (s : State) : Host.Outcome State Fault Refusal :=
  .next (if high then { s with pcie := { s.pcie with perst := true } }
    else { (s.forgetHost.msixReset).setObj 0x1020 2 0 with pcie := PcieRec.rest })

/-- The bits of a base address register that the host can write (R497), after the size of the BAR: 64 MiB, 64 GiB. -/
def barMask (bar : Nat) : BitVec 64 := if bar = 0 then 0xFFFFFFFFFC000000 else 0xFFFFFFF000000000

/-- A write of 32 bits to one half of a base address register. -/
def barPut (bar : Nat) (high : Bool) (old : BitVec 64) (v : BitVec 32) : BitVec 64 :=
  (if high then v ++ old.setWidth 32 else (old >>> 32).setWidth 32 ++ v) &&& barMask bar

/-- Register `reg` of configuration space as a read gives it, or none where the manual leaves it to the PCI Express Base
Specification (R497): BAR0 is a 64-bit non-prefetchable memory BAR and BAR2 a 64-bit prefetchable one, and the other
BARs are absent. Their places and type bits are that specification's (PRESUMED, assumption log 112). -/
def State.cfgRegister (s : State) (reg : Nat) : Option (BitVec 32) :=
  match reg with
  | 4 => some (s.pcie.bar0.setWidth 32 ||| 4)
  | 5 => some ((s.pcie.bar0 >>> 32).setWidth 32)
  | 6 => some (s.pcie.bar2.setWidth 32 ||| 0xC)
  | 7 => some ((s.pcie.bar2 >>> 32).setWidth 32)
  | 8 => some 0
  | 9 => some 0
  | _ => none

/-- A write of configuration register `reg`: the manual gives an effect to the base addresses alone. -/
def State.cfgWrite (s : State) (reg : Nat) (v : BitVec 32) : State :=
  match reg with
  | 4 => { s with pcie := { s.pcie with bar0 := barPut 0 false s.pcie.bar0 v } }
  | 5 => { s with pcie := { s.pcie with bar0 := barPut 0 true s.pcie.bar0 v } }
  | 6 => { s with pcie := { s.pcie with bar2 := barPut 2 false s.pcie.bar2 v } }
  | 7 => { s with pcie := { s.pcie with bar2 := barPut 2 true s.pcie.bar2 v } }
  | _ => s

/-- Bits that the manual leaves open in the header register (register 3): all but the header type and its multi-function bit,
which are 0 of an endpoint with one function (R497). -/
def headerOpen : BitVec 32 := 0xFF00FFFF

/-- A read of a 4-byte configuration register (R497): what the manual leaves open is a free value (log 3). -/
def State.cfgRead (s : State) (reg : Nat) : State :=
  match s.cfgRegister reg with
  | some v => s.complete 0 (leBytes 4 v.toNat)
  | none =>
    let v := Config.freeBits 32 (s.freeKey 0)
    s.freeNext.complete 0 (leBytes 4 (if reg = 3 then v &&& headerOpen else v).toNat)

/-- The MSI-X capability (R472, R497): Message Control with 64 vectors, and the places of the table and the pending bits in
BAR0. -/
def State.msixCapability (s : State) : List Byte :=
  leBytes 2 (63 + 0x4000 * b2n s.msixFuncMask + 0x8000 * b2n s.msixEnable) ++ leBytes 4 0x3F80000 ++ leBytes 4 0x3F81000

/-- The uncorrectable error status and the header log of Advanced Error Reporting (R509): the Completer Abort bit, and
the header of the write, whose second word, with the requester, its tag and byte enables, is the host's own (a free
value). -/
def State.aerBytes (s : State) : List Byte :=
  match s.pcie.aborted with
  | none => List.replicate 20 0
  | some e =>
    let a := (if e.bar = 0 then s.pcie.bar0 else s.pcie.bar2).toNat + e.off
    let words := (a % 4 + e.size + 3) / 4
    leBytes 4 0x8000 ++ leBytes 4 (0x60000000 + words % 1024) ++
      leBytes 4 (Config.freeBits 32 (s.freeKey 0)).toNat ++ leBytes 4 (a / 2 ^ 32) ++ leBytes 4 (a / 4 * 4)

/-- CONFIGURATION_REQUEST (R498): Retry Status until PERST_L is high and the endpoint has power, then
Successful Completion, after which BAR0 and BAR2 are served. -/
def execConfigurationRequest (kind : CfgKind) (link : BitVec 9) (s : State) :
    Host.Outcome State Fault Refusal :=
  .next (if !s.pcie.perst ∨ !s.granted 1143 then s.complete 2 []
    else
      let s1 := { s.setObj 0x1020 2 link.toNat with pcie := { s.pcie with served := true } }
      match kind with
      | .read reg => s1.cfgRead reg.toNat
      | .write reg v => (s1.cfgWrite reg.toNat v).complete 0 []
      | .msixRead => s1.complete 0 s1.msixCapability
      | .msix e f => { s1 with msixEnable := e, msixFuncMask := f }.complete 0 []
      | .aerRead => s1.freeNext.complete 0 s1.aerBytes
      | .aerClear => { s1 with pcie := { s1.pcie with aborted := none } }.complete 0 [])

/-! ## The test port (R500, R501) -/

/-- A driving instruction ends (R501): ALLSET is released again if its conditions hold (R419), and every port
that was not OFF retrains. -/
def State.tapLeave (s : State) : State :=
  ((upFrom 0 32).foldl (fun st p => if st.portState p = 0 then st else st.portTrain p) s).allsetAgain

/-- What SAMPLE/PRELOAD takes (R500): the levels at the lands. -/
def State.landSample (s : State) : LandSample :=
  ⟨(upFrom 0 12).map (fun r => (s.region r).pins), s.evtPins, (upFrom 0 8).map s.pulseLevel, s.allset.input⟩

/-- The identity that IDCODE gives (R500), by the stepping. -/
def State.idcode (s : State) : BitVec 32 := if s.fuse.stepping = 0x42 then 0x16508C57 else 0x26508C57

/-- The data registers of the test port (R500). -/
inductive TapData where
  | idcode
  | bypass
  | boundary
  deriving DecidableEq, Repr

/-- Whether an instruction has its effect (R501); it decodes as BYPASS otherwise. -/
def State.tapEffective (s : State) : Bool :=
  match s.tap.code.toNat with
  | 0 => s.tapDriving
  | 2 => s.greenOn
  | 4 => s.tapDriving
  | 5 => s.tapDriving
  | 6 => s.tapDriving
  | 7 => s.tapDriving
  | _ => false

/-- The data register that stands between TDI and TDO (R500): CLAMP and HIGHZ select BYPASS, as IEEE 1149.1 gives them
(PRESUMED, assumption log 113). -/
def State.tapData (s : State) : TapData :=
  if s.tap.code = 1 then .idcode
  else if s.tapEffective ∧ s.tap.code ≠ 4 ∧ s.tap.code ≠ 5 then .boundary
  else .bypass

/-- Whether TDO is driven (R488): in Shift-DR and Shift-IR alone. -/
def TapRec.drivesTdo (t : TapRec) : Bool := t.fsm == .shiftDr || t.fsm == .shiftIr

/-- A new instruction, or a new level of TEST_EN_L, with the state of the TAP controller that follows: a driving
instruction takes the lands, and holds ALLSET low; SAMPLE/PRELOAD takes the levels at the lands. -/
def State.tapLoad (s : State) (code : BitVec 8) (testEn : Bool) (fsm : TapState) : State :=
  let s0 := { s with tap := ⟨code, testEn, fsm, s.freeKey 0, s.tap.sampled⟩ }.freeNext
  let s1 := if code = 2 ∧ s0.tapEffective then { s0 with tap := { s0.tap with sampled := some s0.landSample } } else s0
  if s1.tapDriving then s1.setAllset false s1.allset.seen
  else if s.tapDriving then s1.tapLeave
  else s1

/-- TAP_INSTRUCTION (R501), in a TAP that has VSTBY (R430). -/
def execTapInstruction (code : BitVec 8) (testEn : Bool) (s : State) : Host.Outcome State Fault Refusal :=
  .next (if s.power.vstby then s.tapLoad code testEn .runTestIdle else s)

/-- TAP_INSTRUCTION_EXIT (R501): the TAP leaves the instruction, for IDCODE as Test-Logic-Reset selects it. -/
def execTapInstructionExit (s : State) : Host.Outcome State Fault Refusal :=
  .next (if s.power.vstby then s.tapLoad 1 s.tap.testEn .testLogicReset else s)

end Sys2Proof.Machine
end

