-- ==== Sys2Proof/Machine/Ring.lean ====
section
/-!
DEFINITION. The Lomoc ring (R456 to R468): frames, routing, the alive counter, commands and their
RESPONSE, ASSIGN, broadcasts, notifications and the stiles.
-/

namespace Sys2Proof.Machine

/-! ## Frames (R458, R459) -/

/-- Bytes `i` to `i + n - 1` of a frame as a number (R458). -/
def ringField (bs : List Byte) (i n : Nat) : Nat := leNat ((bs.drop i).take n)

/-- Fields of a frame (R458). -/
def fType (bs : List Byte) : Nat := ringField bs 0 1
def fDest (bs : List Byte) : Nat := ringField bs 1 2 % 2 ^ 15
def fSrc (bs : List Byte) : Nat := ringField bs 3 2 % 2 ^ 15
def fAlive (bs : List Byte) : Nat := ringField bs 5 1
def fLen (bs : List Byte) : Nat := ringField bs 6 1
def fPayload (bs : List Byte) : List Byte := (bs.drop 8).take (fLen bs)

/-- The broadcast address (R460). -/
def ringBroadcast : Nat := 0x7FFF

/-- A frame with its CRC (R458). -/
def makeFrame (type dest src alive exp : Nat) (payload : List Byte) : List Byte :=
  let body := leBytes 1 type ++ leBytes 2 dest ++ leBytes 2 src ++ leBytes 1 alive ++
    leBytes 1 payload.length ++ leBytes 1 exp ++ payload
  body ++ leBytes 4 (crc32c body)

/-- Whether a frame's length agrees with its LEN and stays within 92 bytes (R459). -/
def ringLengthOk (bs : List Byte) : Bool := decide (bs.length = 12 + fLen bs) && decide (bs.length ≤ 92)

/-- Whether a frame's CRC is right (R458). -/
def ringCrcOk (bs : List Byte) : Bool :=
  ringField bs (8 + fLen bs) 4 == crc32c (bs.take (8 + fLen bs))

/-- Whether LEN matches the payload that the type gives (R459). -/
def ringPayloadOk (bs : List Byte) : Bool :=
  let p := fPayload bs
  let l := fLen bs
  match fType bs with
  | 1 => l == 3
  | 2 =>
    let n := ringField p 3 1
    decide (4 ≤ l) && l == 4 + n && decide (1 ≤ n) && decide (n ≤ 32)
  | 3 => decide (4 ≤ l)
  | 4 => l == 4
  | 5 => l == 6
  | 6 =>
    let n := ringField p 6 1
    l == 7 && decide (1 ≤ n) && decide (n ≤ 64)
  | 7 =>
    let n := ringField p 6 1
    decide (7 ≤ l) && l == 7 + n && decide (1 ≤ n) && decide (n ≤ 64)
  | _ => false

/-! ## Routing (R460, R461) -/

/-- What a module does with a frame. -/
inductive Route where
  | consume
  | process
  | toBranch
  | toPrimary
  | drop
  deriving DecidableEq, Repr

/-- The route of a frame (R460, R461). -/
def State.route (s : State) (port : RingPort) (bs : List Byte) : Route :=
  let own := s.obj 0x1010 1
  let dest := fDest bs
  if bs.length < 3 then .drop
  else
    match port with
    | .branch =>
      if fType bs = 4 then (if s.ring.assign then .process else .toPrimary)
      else if dest = own ∧ own ≠ 0 then .consume
      else if 0x4001 ≤ dest ∧ dest ≤ 0x7FFE then .drop
      else .toPrimary
    | .primary =>
      if dest = ringBroadcast ∨ fType bs = 4 then .process
      else if dest = own ∧ own ≠ 0 then .consume
      else if 0x4001 ≤ dest ∧ dest ≤ 0x7FFE then .drop
      else if s.obj 0x1010 2 ≤ dest ∧ dest ≤ s.obj 0x1010 3 ∧ !s.branchClosed then .toBranch
      else .toPrimary

/-- Whether frames arrive on a port: its stile is open and its receiver locked (R457, R463). -/
def State.hears (s : State) : RingPort → Bool
  | .primary => !s.primaryClosed && s.ring.lockP
  | .branch => !s.branchClosed && s.ring.lockB

/-- A frame leaves on primary out. -/
def State.sendP (s : State) (bs : List Byte) : State :=
  { s with ring := { s.ring with sentP := s.ring.sentP ++ [bs] } }

/-- A frame leaves on branch out. -/
def State.sendB (s : State) (bs : List Byte) : State :=
  { s with ring := { s.ring with sentB := s.ring.sentB ++ [bs] } }

/-- A processed frame goes on: on branch out when the branch is open, else on primary out (R461). It is routed
once its DEST has arrived (R462), so by the branch stile before it is performed: `shut` says that it is closed. -/
def State.sendOn (s : State) (shut : Bool) (bs : List Byte) : State := if shut then s.sendP bs else s.sendB bs

/-- A frame that is discarded and counted in 0x1010.0A (R459, R462). -/
def State.dropFrame (s : State) : State := s.bump 0x1010 0xA

/-- The check of a consumed or processed frame (R459, R462): the state with the failure counted, or none
when the frame is good. A CRC error raises the event where the frame is one consumed (R479): addressed to the module or
broadcast, as 0x1010.08 counts them, and no ASSIGN. -/
def State.frameFault (s : State) (f : RingFrame) : Option State :=
  if f.violation || !ringLengthOk f.bytes then some s.dropFrame
  else if !ringCrcOk f.bytes then
    let t := s.bump 0x1010 9
    some (if fType f.bytes = 4 then t else t.fire 1363 1)
  else if !ringPayloadOk f.bytes then some s.dropFrame
  else none

/-! ## Waking (R444) -/

/-- A ring command wakes the device from IDLE, NAP and PARK, unless it is one to 0x2100 to 0x2103. -/
def State.ringWake (s : State) (i : Nat) : State :=
  let st := s.obj 0x2100 1
  if 1 ≤ st ∧ st ≤ 3 ∧ !(0x2100 ≤ i ∧ i ≤ 0x2103) then s.wakeUp 2 else s

/-! ## Commands (R465 to R467) -/

/-- The alive value after `e`, in the cycle 1 to 255 (R465). -/
def aliveNext (e : Nat) : Nat := if e = 255 then 1 else e + 1

/-- The alive value before `e`. -/
def alivePrev (e : Nat) : Nat := if e = 1 then 255 else e - 1

/-- Size of the largest packet that a transfer of `n` bytes begins with (R466). -/
def packetPart (n : Nat) : Nat := if 8 ≤ n then 8 else if 4 ≤ n then 4 else if 2 ≤ n then 2 else n

/-- A refused command is counted (R471, 0x1010.0B). -/
def State.countRefusal (s : State) : State := s.bump 0x1010 0xB

/-- The effect of a READ or WRITE frame: the payload of its RESPONSE, and what follows it (R466, R470). -/
def State.ringPerform (s : State) (bs : List Byte) : State × List Byte × After :=
  let p := fPayload bs
  let i := ringField p 0 2
  let sub := ringField p 2 1
  if fType bs = 1 then
    match s.dictRead i sub with
    | .ok (t, v) => (t, leBytes 4 0 ++ leBytes (objBits i sub / 8) v, .nothing)
    | .error c => (s.countRefusal, leBytes 4 c, .nothing)
  else
    let n := ringField p 3 1
    let v := ringField p 4 n
    match s.manage i sub n v with
    | .ok (t, a) => (t, leBytes 4 0, a)
    | .error c => ((s.noteRefusal i sub v c).countRefusal, leBytes 4 c, .nothing)

/-- The RESPONSE to command `bs` with a payload (R458, R465). -/
def State.responseFrame (s : State) (bs payload : List Byte) : List Byte :=
  makeFrame 3 (fSrc bs) (s.obj 0x1010 1) (fAlive bs) (s.obj 0x1010 4) payload

/-- A RESPONSE is due for command `bs`, which executes until it leaves (R465). -/
def State.respond (s : State) (bs payload : List Byte) (keep : Bool) (a : After) : State :=
  { s with ring := { s.ring with due := some (s.responseFrame bs payload, keep, a) } }

/-- Command `bs` is refused with the sequence abort (R465): nothing executes, and its RESPONSE has yet to leave. -/
def State.refuseSequence (s : State) (bs : List Byte) : State :=
  let t := s.countRefusal.fire 1363 2
  { t with ring := { t.ring with refused := t.ring.refused ++ [t.responseFrame bs (leBytes 4 abSequence)] } }

/-! ## Memory commands (R466) -/

/-- Bytes that an MREAD or MWRITE moves. -/
def RingMove.count (m : RingMove) : Nat := ringField (fPayload m.frame) 6 1

/-- The next packet of a memory command, of initiator 1113 in class M (R466). -/
def State.moveIssue (s : State) (m : RingMove) : State :=
  let a := ringField (fPayload m.frame) 0 6 + m.moved
  let n := packetPart (m.count - m.moved)
  let acc := if fType m.frame = 6 then PAccess.read n
    else .write (((((fPayload m.frame).drop (7 + m.moved)).take n)).map (fun b => (b, true)))
  { s with ring := { s.ring with move := some { m with answer := none } } }.request 1113 true (placeOf a) acc

/-- A memory command has ended: its RESPONSE is due. -/
def State.moveEnd (s : State) (m : RingMove) (payload : List Byte) : State :=
  { s with ring := { s.ring with move := none } }.respond m.frame payload m.keep .nothing

/-- A memory command goes on as far as its answers have come (R466). An error response or the timeout of R175 ends
it. -/
def State.movePump (s : State) : Nat → State
  | 0 => s
  | fuel + 1 =>
    match s.ring.move with
    | none => s
    | some m =>
      match m.answer with
      | none => s
      | some (op, data) =>
        let m1 := { m with moved := m.moved + packetPart (m.count - m.moved), got := m.got ++ data }
        if op ≠ opData ∧ op ≠ opAck then (s.countRefusal).moveEnd m (leBytes 4 (abMemory op))
        else if m.count ≤ m1.moved then s.moveEnd m (leBytes 4 0 ++ m1.got)
        else (s.moveIssue m1).movePump fuel

/-- Execute a command: a memory command begins (R466), any other leaves its RESPONSE due. -/
def State.execute (s : State) (bs : List Byte) (keep : Bool) : State :=
  if 6 ≤ fType bs then (s.moveIssue ⟨bs, keep, 0, [], none⟩).movePump 64
  else
    let (t, payload, a) := s.ringPerform bs
    t.respond bs payload keep a

/-- The command that executes, if one does: whether its RESPONSE is to be stored. -/
def RingRec.executing (r : RingRec) : Option Bool :=
  match r.due, r.move with
  | some (_, keep, _), _ => some keep
  | none, some m => some m.keep
  | none, none => none

/-- A command addressed to the module, by its ALIVE value (R465). -/
def State.obeyCommand (s : State) (bs : List Byte) : State :=
  let e := s.obj 0x1010 4
  let a := fAlive bs
  match s.ring.executing with
  | some keep => if keep && a == alivePrev e then s else s.bump 0x1010 0xC
  | none =>
    if a = e then (s.setObj 0x1010 4 (aliveNext e)).execute bs true
    else if a = 0 ∧ fType bs = 1 then s.execute bs false
    else
      match s.ring.stored with
      | some r =>
        if a = alivePrev e then s.sendP r else s.refuseSequence bs
      | none => s.refuseSequence bs

/-- A command addressed to the module (R444): it wakes the device first, but a memory command that comes in PARK, whose
packets find their domains OFF, wakes it after. -/
def State.commandFrame (s : State) (bs : List Byte) : State :=
  if 6 ≤ fType bs ∧ s.obj 0x2100 1 = 3 then (s.obeyCommand bs).ringWake 0
  else (s.ringWake (if fType bs ≤ 2 then ringField (fPayload bs) 0 2 else 0)).obeyCommand bs

/-- A consumed frame (R459, R461, R462). -/
def State.consumeFrame (s0 : State) (f : RingFrame) : State :=
  let s := s0.bump 0x1010 8
  match s.frameFault f with
  | some t => t
  | none =>
    if fType f.bytes = 3 ∨ fType f.bytes = 5 ∨ fType f.bytes = 4 then s.dropFrame
    else s.commandFrame f.bytes

/-! ## Broadcasts and ASSIGN (R464, R468) -/

/-- A good broadcast frame (R468): a WRITE is performed, a READ, MREAD or MWRITE is discarded. -/
def State.broadcastFrame (s0 : State) (bs : List Byte) : State :=
  if fType bs ≠ 2 then s0.dropFrame
  else
    let p := fPayload bs
    let i := ringField p 0 2
    let sub := ringField p 2 1
    let n := ringField p 3 1
    let v := ringField p 4 n
    let s := s0.ringWake i
    match s.manage i sub n v with
    | .ok (t, a) => t.afterEffect a
    | .error c => ((s.noteRefusal i sub v c).bump 0x1010 0xD).setObj 0x1010 0xE (c + i <<< 32 + sub <<< 48)

/-- An ASSIGN frame with NEXT replaced. -/
def withNext (bs : List Byte) (next : Nat) : List Byte :=
  let body := bs.take 8 ++ leBytes 2 next ++ (bs.take (8 + fLen bs)).drop 10
  body ++ leBytes 4 (crc32c body)

/-- A good ASSIGN on primary in (R464). -/
def State.assignIn (s : State) (bs : List Byte) : State :=
  let next := ringField (fPayload bs) 0 2
  let ok := decide (next ≤ 0x4000)
  let next' := if ok then next + 1 else next
  let s1 := (s.setObj 0x1010 1 (if ok then next else 0)).setObj 0x1010 4 1
  let s2 := (if ok then s1 else s1.dropFrame).setObj 0x1010 2 0
  let s3 := { s2.setObj 0x1010 3 0 with ring := { s2.ring with stored := none } }
  let out := withNext bs next'
  if s3.branchClosed then s3.sendP out
  else
    { s3.setObj 0x1010 2 next' with ring := { s3.ring with assign := true } }.sendB out

/-- A good ASSIGN that returns on branch in (R464). -/
def State.assignBack (s : State) (bs : List Byte) : State :=
  let hi := ringField (fPayload bs) 0 2 - 1
  let s1 := { s with ring := { s.ring with assign := false } }
  let s2 := if hi < s.obj 0x1010 2 then (s1.setObj 0x1010 2 0).setObj 0x1010 3 0 else s1.setObj 0x1010 3 hi
  s2.sendP bs

/-- A processed frame (R461, R462): a broadcast or an ASSIGN; one that fails goes on unchanged. -/
def State.processFrame (s0 : State) (port : RingPort) (f : RingFrame) : State :=
  let s := if fDest f.bytes = ringBroadcast then s0.bump 0x1010 8 else s0
  match s.frameFault f, port with
  | some t, .primary => t.sendOn s0.branchClosed f.bytes
  | some t, .branch => t.sendP f.bytes
  | none, .branch => s.assignBack f.bytes
  | none, .primary =>
    if fType f.bytes = 4 then s.assignIn f.bytes else (s.broadcastFrame f.bytes).sendOn s.branchClosed f.bytes

/-- A frame arrives on a port (R461). With the primary stile closed, primary in is joined to primary out (R463). -/
def State.receive (s : State) (port : RingPort) (f : RingFrame) : State :=
  if port = .primary ∧ s.primaryClosed then s.sendP f.bytes
  else if !s.hears port then s
  else
    match s.route port f.bytes with
    | .consume => s.consumeFrame f
    | .process => s.processFrame port f
    | .toBranch => s.sendB f.bytes
    | .toPrimary => s.sendP f.bytes
    | .drop => s.dropFrame

/-- A frame of type `t` arrives; the command is for that type alone. -/
def State.receiveType (s : State) (port : RingPort) (f : RingFrame) (t : Nat) : State :=
  if fType f.bytes = t then s.receive port f else s

/-! ## Rows -/

/-- READ (R470): a ring READ frame. -/
def execRead (port : RingPort) (f : RingFrame) (s : State) : Host.Outcome State Fault Refusal :=
  .next (s.receiveType port f 1)

/-- WRITE_OBJECT (R470): a ring WRITE frame. -/
def execWriteObject (port : RingPort) (f : RingFrame) (s : State) : Host.Outcome State Fault Refusal :=
  .next (s.receiveType port f 2)

/-- BROADCAST_WRITE (R468). -/
def execBroadcastWrite (f : RingFrame) (s : State) : Host.Outcome State Fault Refusal :=
  .next (if fDest f.bytes = ringBroadcast then s.receiveType .primary f 2 else s)

/-- ASSIGN (R464). -/
def execAssign (port : RingPort) (f : RingFrame) (s : State) : Host.Outcome State Fault Refusal :=
  .next (s.receiveType port f 4)

/-- MREAD (R466). -/
def execMread (port : RingPort) (f : RingFrame) (s : State) : Host.Outcome State Fault Refusal :=
  .next (s.receiveType port f 6)

/-- MWRITE (R466). -/
def execMwrite (port : RingPort) (f : RingFrame) (s : State) : Host.Outcome State Fault Refusal :=
  .next (s.receiveType port f 7)

/-- The RESPONSES to refused commands that have yet to leave. -/
def State.setRefused (s : State) (l : List (List Byte)) : State := { s with ring := { s.ring with refused := l } }

/-- RESPONSE (R465, R466): a RESPONSE to a refused command leaves; else the RESPONSE that is due leaves on primary out and is stored, and what follows it is
done (R463, R476). A memory command first goes on with the answers that have come for it. -/
def execResponse (s0 : State) : Host.Outcome State Fault Refusal :=
  let s := s0.movePump 65
  .next (match s.ring.refused, s.ring.due with
    | r :: rest, _ => (if s.primaryClosed then s else s.sendP r).setRefused rest
    | [], none => s
    | [], some (r, keep, a) =>
      let s1 := if s.primaryClosed then s else s.sendP r
      let g : RingRec := { s1.ring with due := none, stored := if keep then some r else s1.ring.stored }
      { s1 with ring := g }.afterEffect a)

/-- FRAME_FORWARD (R461): a frame that is neither consumed nor processed. -/
def execFrameForward (port : RingPort) (f : RingFrame) (s : State) : Host.Outcome State Fault Refusal :=
  let r := s.route port f.bytes
  .next (if r = .toBranch ∨ r = .toPrimary ∨ (port = .primary ∧ s.primaryClosed) then s.receive port f else s)

/-- RING_FRAME_DISCARD (R459, R460, R462): a consumed or processed frame that fails, a reserved destination,
or a forwarded frame that the 192-byte buffer does not hold. -/
def execRingFrameDiscard (port : RingPort) (f : RingFrame) (s : State) : Host.Outcome State Fault Refusal :=
  let r := s.route port f.bytes
  let bad := (s.frameFault f).isSome || fType f.bytes == 3 || fType f.bytes == 5
  .next (if !s.hears port then s.receive port f
    else if r = .toBranch ∨ r = .toPrimary then s.dropFrame
    else if r = .drop ∨ bad ∨ (r = .process ∧ fType f.bytes ≠ 2 ∧ fType f.bytes ≠ 4) then s.receive port f
    else s)

/-- A source whose notification may go to the controller: pending, enabled and with the ring as its target (R478). -/
def State.notifies (s : State) (src : Nat) : Bool :=
  s.evPending src && bitAt (s.evConfig src) 0 && bits (s.evConfig src) 5 3 == 3

/-- NOTIFY (R478): a pending, enabled source that targets the ring is notified to the controller by a module that has an
address (R460). Notifications that wait together leave in order of priority and then of source. -/
def execNotify (src : Fin 4096) (s : State) : Host.Outcome State Fault Refusal :=
  let cfg := s.evConfig src.val
  let latch := s.obj (evIndex src.val) (0x13 + src.val % 16)
  let payload := leBytes 2 src.val ++ leBytes 1 (bits cfg 1 4) ++ leBytes 1 0 ++ leBytes 2 latch
  let first := (s.ring.notes.filter s.notifies).all (fun x => s.evFirst src.val x == src.val)
  .next (if s.evPowered && s.notifies src.val && first && s.obj 0x1010 1 != 0 && !s.primaryClosed then
      { s with ring := { s.ring with notes := s.ring.notes.filter (fun x => x != src.val) } }.sendP
        (makeFrame 5 0 (s.obj 0x1010 1) 0 0 payload)
    else s)

/-- PRIMARY_STILE_REOPEN (R463): the time of a close by command has passed. -/
def execPrimaryStileReopen (s : State) : Host.Outcome State Fault Refusal :=
  .next { s with ring := { s.ring with closedP := none } }

/-- BRANCH_LOCK_LOSS (R463): 10 µs after lock was lost the branch stile closes, and the event is raised. -/
def execBranchLockLoss (s : State) : Host.Outcome State Fault Refusal :=
  .next (if s.ring.lossB then s else { s with ring := { s.ring with lockB := false, lossB := true } }.fire 1363 0)

/-- RECEIVER_LOCK (R457, R463): a ring receiver locks, or loses lock after four code violations. A branch stile closed
for want of lock opens with the lock. -/
def execReceiverLock (port : RingPort) (locked : Bool) (s : State) : Host.Outcome State Fault Refusal :=
  .next (match port with
    | .primary => { s with ring := { s.ring with lockP := locked } }
    | .branch => { s with ring := { s.ring with lockB := locked, lossB := !locked && s.ring.lossB } })

end Sys2Proof.Machine
end

