-- ==== Sys2Proof/Machine/Commands.lean ====
section
/-!
DEFINITION. The rows that are a write of a dictionary object, over any of the paths that reach one: a ring
command, a broadcast, BAR0, or the mirror (R470 to R474).
-/

namespace Sys2Proof.Machine

/-- Whether a path reaches the dictionary at present (R447, R463, R472, R498). -/
def State.viaOpen (s : State) : Via → Bool
  | .ring => !s.primaryClosed
  | .broadcast => !s.primaryClosed
  | .bar0 => s.pcie.served
  | .mirror init => s.mirrorServes init.val

/-- An access over a path wakes the device first where R444 says so. -/
def State.viaWake (s : State) (i : Nat) : Via → State
  | .ring => s.ringWake i
  | .broadcast => s.ringWake i
  | .bar0 => s.hostWake
  | .mirror _ => s

/-- Where a refusal is counted and recorded (R468, R471, R473): check 3 does not apply to the mirror, so a slot that holds
no object is refused as NO_OBJECT. -/
def State.viaRefused (s : State) (i sub c : Nat) : Via → State
  | .ring => s.countRefusal
  | .broadcast => (s.bump 0x1010 0xD).setObj 0x1010 0xE (c + i <<< 32 + sub <<< 48)
  | .bar0 => s.noteMirror 1112 i sub (if c = abNoSub then abNoObject else c)
  | .mirror init => s.noteMirror init.val i sub (if c = abNoSub then abNoObject else c)

/-- The packet initiator whose transaction an access over a path is (R154, R190). -/
def viaInit : Via → Option Nat
  | .ring => none
  | .broadcast => none
  | .bar0 => some 1112
  | .mirror init => some init.val

/-- A write of `n` bytes of value `v` over a path has been made in state `s`, which left `t`: it is counted as a
transaction of its initiator (R190), and its bytes are what the tallies that snooped it take (R326). -/
def State.viaAnswer (s : State) (via : Via) (n v : Nat) (t : State) : State :=
  match viaInit via with
  | none => t
  | some init => (t.snoopBy s 3 init (leBytes n v)).countAnswer { Asker.plain init with size := n } opAck

/-- Whether a path's access needs a domain that PARK has switched off (R444). -/
def State.viaOff (s : State) (via : Via) (i : Nat) : Bool := via == .bar0 && s.obj 0x2100 1 == 3 && parkLost i

/-- A write of `n` bytes of value `v` to object `i.sub` over a path, with what follows it (R470): a refused
write changes nothing but the record of the refusal. The frames of a ring command are READ's and
WRITE_OBJECT's; this is the write alone. -/
def State.viaWrite (s : State) (via : Via) (i sub n v : Nat) : State :=
  if !s.viaOpen via then s
  else if s.viaOff via i then
    (s.hostAnswer ((i - 0x1000) * 0x800 + sub * 8) (.write (leBytes n v)) opNotPowered []).hostWake
  else
    let s1 := s.viaWake i via
    s1.viaAnswer via n v (match s1.manage i sub n v with
      | .ok (t, a) => t.afterEffect a
      | .error c => (s1.noteRefusal i sub v c).viaRefused i sub c via)

/-- A write of an object in its own size. -/
def State.rowWrite (s : State) (via : Via) (i sub v : Nat) : State := s.viaWrite via i sub (objBits i sub / 8) v

/-- A write of object `i.sub` in its own size, made in state `s`, has left `t`, with what its transaction counts for. -/
def State.rowAnswer (s : State) (via : Via) (i sub v : Nat) (t : State) : State :=
  s.viaAnswer via (objBits i sub / 8) v t

/-- VERDICT_REPAIR (R249). -/
def execVerdictRepair (via : Via) (byte : BitVec 8) (s : State) :
    Host.Outcome State Fault Refusal :=
  .next (s.rowWrite via 0x2401 0xA byte.toNat)

/-- STOP_COMMAND (R247). -/
def execStopCommand (via : Via) (s : State) : Host.Outcome State Fault Refusal :=
  .next (s.rowWrite via 0x2401 5 1)

/-- PAUSE_COMMAND (R246). -/
def execPauseCommand (via : Via) (s : State) : Host.Outcome State Fault Refusal :=
  .next (s.rowWrite via 0x2401 6 1)

/-- ALIGNMENT_ARM (R251). -/
def execAlignmentArm (via : Via) (s : State) : Host.Outcome State Fault Refusal :=
  .next (s.rowWrite via 0x2403 2 1)

/-- ALIGNMENT_CANCEL (R255). -/
def execAlignmentCancel (via : Via) (s : State) : Host.Outcome State Fault Refusal :=
  .next (s.rowWrite via 0x2403 2 2)

/-- START_ARM (R252). -/
def execStartArm (via : Via) (s : State) : Host.Outcome State Fault Refusal :=
  .next (s.rowWrite via 0x2403 5 1)

/-- START_CANCEL (R255). -/
def execStartCancel (via : Via) (s : State) : Host.Outcome State Fault Refusal :=
  .next (s.rowWrite via 0x2403 5 2)

/-- SHEET_RAISE (R103, R106). -/
def execSheetRaise (via : Via) (h : Hamlet) (c : Croft) (s : State) :
    Host.Outcome State Fault Refusal :=
  .next (s.rowWrite via (kObj (h.val * 128 + c.val)) 3 1)

/-- SHEET_LOWER (R105, R106). -/
def execSheetLower (via : Via) (h : Hamlet) (c : Croft) (s : State) :
    Host.Outcome State Fault Refusal :=
  .next (s.rowWrite via (kObj (h.val * 128 + c.val)) 3 2)

/-- APPLY_REPAIR_RECORD (R145). -/
def execApplyRepairRecord (via : Via) (rec : BitVec 64) (s : State) :
    Host.Outcome State Fault Refusal :=
  .next (s.rowWrite via 0x3880 1 rec.toNat)

/-- LARDER_TEST_START (R146). -/
def execLarderTestStart (via : Via) (h : Hamlet) (s : State) : Host.Outcome State Fault Refusal :=
  .next (s.rowWrite via (hObj h.val + 0x27) 2 1)

/-- LARDER_TEST_STOP (R148). -/
def execLarderTestStop (via : Via) (h : Hamlet) (s : State) : Host.Outcome State Fault Refusal :=
  .next (s.rowWrite via (hObj h.val + 0x27) 2 2)

/-- SHUTTER (R185, R186). -/
def execShutter (via : Via) (s : State) : Host.Outcome State Fault Refusal :=
  .next (s.rowWrite via 0x4804 2 1)

/-- UNSHUTTER (R187). -/
def execUnshutter (via : Via) (s : State) : Host.Outcome State Fault Refusal :=
  .next (s.rowWrite via 0x4804 2 2)

/-- SWAP_ARM_AT_ROTA (R188). -/
def execSwapArmAtRota (via : Via) (s : State) : Host.Outcome State Fault Refusal :=
  .next (s.rowWrite via 0x4801 5 1)

/-- SWAP_ARM_WITH_LOWER (R188). -/
def execSwapArmWithLower (via : Via) (s : State) : Host.Outcome State Fault Refusal :=
  .next (s.rowWrite via 0x4801 5 2)

/-- SWAP_CANCEL (R188). -/
def execSwapCancel (via : Via) (s : State) : Host.Outcome State Fault Refusal :=
  .next (s.rowWrite via 0x4801 5 3)

/-- T_APPLY (R182). -/
def execTApply (via : Via) (s : State) : Host.Outcome State Fault Refusal :=
  .next (s.rowWrite via 0x4803 4 1)

/-- T_REMOVE (R189). -/
def execTRemove (via : Via) (s : State) : Host.Outcome State Fault Refusal :=
  .next (s.rowWrite via 0x4803 4 2)

/-- TABLE_ENTRY_WRITE (R189): the low 64 bits, or the high bits of an eject entry. -/
def execTableEntryWrite (via : Via) (high : Bool) (value : BitVec 64) (s : State) :
    Host.Outcome State Fault Refusal :=
  .next (s.rowWrite via 0x4805 (if high then 6 else 5) (if high then value.toNat % 256 else value.toNat))

/-- STATISTICS_CLEAR (R184). -/
def execStatisticsClear (via : Via) (init : Fin 128) (s : State) :
    Host.Outcome State Fault Refusal :=
  .next (s.rowWrite via (0x4880 + init.val) 0x18 1)

/-- RETRAIN (R211). -/
def execRetrain (via : Via) (p : Port) (s : State) : Host.Outcome State Fault Refusal :=
  .next (s.rowWrite via (pObj p.val) 3 1)

/-- TAKE_DOWN (R211). -/
def execTakeDown (via : Via) (p : Port) (s : State) : Host.Outcome State Fault Refusal :=
  .next (s.rowWrite via (pObj p.val) 3 2)

/-- SWAP_LANE_COMMAND (R231). -/
def execSwapLaneCommand (via : Via) (p : Port) (s : State) : Host.Outcome State Fault Refusal :=
  .next (s.rowWrite via (pObj p.val) 3 3)

/-- READMIT (R230). -/
def execReadmit (via : Via) (p : Port) (s : State) : Host.Outcome State Fault Refusal :=
  .next (s.rowWrite via (pObj p.val) 3 4)

/-- MEASURE_COMMAND (R214). -/
def execMeasureCommand (via : Via) (p : Port) (s : State) : Host.Outcome State Fault Refusal :=
  .next (s.rowWrite via (pObj p.val + 1) 6 1)

/-- LANE_TEST_MODE_WRITE (R233). -/
def execLaneTestModeWrite (via : Via) (p : Port) (l : Lane) (mode : BitVec 8) (s : State) :
    Host.Outcome State Fault Refusal :=
  .next (s.rowWrite via (lObj p.val l.val) 3 mode.toNat)

/-- INJECT_SINGLE (R234). -/
def execInjectSingle (via : Via) (p : Port) (l : Lane) (s : State) :
    Host.Outcome State Fault Refusal :=
  .next (s.rowWrite via (lObj p.val l.val) 7 1)

/-- INJECT_START_PERIODIC (R234). -/
def execInjectStartPeriodic (via : Via) (p : Port) (l : Lane) (s : State) :
    Host.Outcome State Fault Refusal :=
  .next (s.rowWrite via (lObj p.val l.val) 7 2)

/-- INJECT_STOP (R234). -/
def execInjectStop (via : Via) (p : Port) (l : Lane) (s : State) :
    Host.Outcome State Fault Refusal :=
  .next (s.rowWrite via (lObj p.val l.val) 7 3)

/-- REGION_RAISE (R302). -/
def execRegionRaise (via : Via) (r : Region) (s : State) : Host.Outcome State Fault Refusal :=
  .next (s.rowWrite via (0x5010 + r.val) 2 1)

/-- REGION_LOWER (R302). -/
def execRegionLower (via : Via) (r : Region) (s : State) : Host.Outcome State Fault Refusal :=
  .next (s.rowWrite via (0x5010 + r.val) 2 2)

/-- RE_ENABLE_LINE (R291). -/
def execReEnableLine (via : Via) (line : BitVec 16) (s : State) :
    Host.Outcome State Fault Refusal :=
  .next (s.rowWrite via 0x5000 3 line.toNat)

/-- PEEPHOLE_WRITE (R292). -/
def execPeepholeWrite (via : Via) (r : Region) (k : Fin 64) (sel : BitVec 16) (s : State) :
    Host.Outcome State Fault Refusal :=
  .next (s.rowWrite via (0x5040 + r.val) (k.val + 1) sel.toNat)

/-- PLL_SETTINGS_WRITE (R306). -/
def execPllSettingsWrite (via : Via) (j : Fin 4) (value : BitVec 32) (s : State) :
    Host.Outcome State Fault Refusal :=
  .next (s.rowWrite via 0x5001 (j.val + 1) value.toNat)

/-- TROUGH_RESET (R323). -/
def execTroughReset (via : Via) (t : Fin 256) (s : State) : Host.Outcome State Fault Refusal :=
  .next (s.rowWrite via (0x5100 + t.val) 8 1)

/-- TALLY_RESTART (R324). -/
def execTallyRestart (via : Via) (n : Fin 16) (s : State) : Host.Outcome State Fault Refusal :=
  .next (s.rowWrite via (0x5200 + n.val) 0xA 1)

/-- TALLY_RUNNING_WRITE (R327). -/
def execTallyRunningWrite (via : Via) (n : Fin 16) (value : BitVec 64) (s : State) :
    Host.Outcome State Fault Refusal :=
  .next (s.rowWrite via (0x5200 + n.val) 7 value.toNat)

/-- CACHE_COMMAND (R354). -/
def execCacheCommand (via : Via) (k : CoreNo) (which : BitVec 8) (s : State) :
    Host.Outcome State Fault Refusal :=
  .next (s.rowWrite via (0x5310 + k.val) 6 which.toNat)

/-- CORE_HOLD_RESET (R337). -/
def execCoreHoldReset (via : Via) (k : CoreNo) (s : State) : Host.Outcome State Fault Refusal :=
  .next (s.rowWrite via (0x5310 + k.val) 7 1)

/-- CORE_RELEASE (R337). -/
def execCoreRelease (via : Via) (k : CoreNo) (s : State) : Host.Outcome State Fault Refusal :=
  .next (s.rowWrite via (0x5310 + k.val) 7 2)

/-- SCRATCHPAD_TEST_START (R339, R354). -/
def execScratchpadTestStart (via : Via) (s : State) : Host.Outcome State Fault Refusal :=
  .next (s.rowWrite via 0x5320 5 1)

/-- SCRATCHPAD_TEST_STOP (R354). -/
def execScratchpadTestStop (via : Via) (s : State) : Host.Outcome State Fault Refusal :=
  .next (s.rowWrite via 0x5320 5 2)

/-- WATCH_ARM (R363). -/
def execWatchArm (via : Via) (u : WatchUnit) (s : State) : Host.Outcome State Fault Refusal :=
  .next (s.rowWrite via (wObj u.val) 1 1)

/-- FORCE_TRIGGER (R369). -/
def execForceTrigger (via : Via) (u : WatchUnit) (s : State) : Host.Outcome State Fault Refusal :=
  .next (s.rowWrite via (wObj u.val) 1 2)

/-- WATCH_STOP (R363). -/
def execWatchStop (via : Via) (u : WatchUnit) (s : State) : Host.Outcome State Fault Refusal :=
  .next (s.rowWrite via (wObj u.val) 1 3)

/-- WATCH_RESET (R363). -/
def execWatchReset (via : Via) (u : WatchUnit) (s : State) : Host.Outcome State Fault Refusal :=
  .next (s.rowWrite via (wObj u.val) 1 4)

/-- PULSE_ARM (R392). -/
def execPulseArm (via : Via) (i : Fin 8) (s : State) : Host.Outcome State Fault Refusal :=
  .next (s.rowWrite via (0x2210 + i.val) 5 1)

/-- PULSE_DISARM (R395). -/
def execPulseDisarm (via : Via) (i : Fin 8) (s : State) : Host.Outcome State Fault Refusal :=
  .next (s.rowWrite via (0x2210 + i.val) 5 2)

/-- CAPTURE_POP (R395). -/
def execCapturePop (via : Via) (i : Fin 8) (s : State) : Host.Outcome State Fault Refusal :=
  .next (s.rowWrite via (0x2220 + i.val) 5 1)

/-- STORE_WRITE (R403). -/
def execStoreWrite (via : Via) (s : State) : Host.Outcome State Fault Refusal :=
  .next (s.rowWrite via 0x2302 3 1)

/-- STORE_ERASE (R404). -/
def execStoreErase (via : Via) (s : State) : Host.Outcome State Fault Refusal :=
  .next (s.rowWrite via 0x2302 3 2)

/-- STORE_MIRROR (R404). -/
def execStoreMirror (via : Via) (s : State) : Host.Outcome State Fault Refusal :=
  .next (s.rowWrite via 0x2302 3 3)

/-- STORE_APPLY (R405). -/
def execStoreApply (via : Via) (s : State) : Host.Outcome State Fault Refusal :=
  .next (s.rowWrite via 0x2302 3 4)

/-- RESTART_COMMAND (R414). -/
def execRestartCommand (via : Via) (s : State) : Host.Outcome State Fault Refusal :=
  .next (s.rowWrite via 0x2300 6 1)

/-- LOAD_COMMAND (R416). -/
def execLoadCommand (via : Via) (s : State) : Host.Outcome State Fault Refusal :=
  .next (s.rowWrite via 0x2304 3 1)

/-- HOST_HOLD_WRITE (R419). -/
def execHostHoldWrite (via : Via) (value : BitVec 8) (s : State) :
    Host.Outcome State Fault Refusal :=
  .next (s.rowWrite via 0x2304 5 value.toNat)

/-- CROFT_REMAP (R423). -/
def execCroftRemap (via : Via) (s : State) : Host.Outcome State Fault Refusal :=
  .next (s.rowWrite via 0x2307 3 1)

/-- KEY_PROGRAM (R406). -/
def execKeyProgram (via : Via) (slot : Fin 4) (s : State) : Host.Outcome State Fault Refusal :=
  .next (s.rowWrite via 0x1100 7 (4 + slot.val))

/-- KEY_REVOKE (R406). -/
def execKeyRevoke (via : Via) (slot : Fin 4) (s : State) : Host.Outcome State Fault Refusal :=
  .next (s.rowWrite via 0x1100 7 (8 + slot.val))

/-- ATTEST (R410). -/
def execAttest (via : Via) (s : State) : Host.Outcome State Fault Refusal :=
  .next (s.rowWrite via 0x1110 2 1)

/-- STANDBY_COMMAND (R447). -/
def execStandbyCommand (via : Via) (s : State) : Host.Outcome State Fault Refusal :=
  .next (s.rowWrite via 0x2100 6 1)

/-- WAKE_COMMAND (R447, R432). -/
def execWakeCommand (via : Via) (s : State) : Host.Outcome State Fault Refusal :=
  .next (s.rowWrite via 0x2100 6 2)

/-- WAKE_ALARM_WRITE (R453). -/
def execWakeAlarmWrite (via : Via) (i : Fin 4) (value : BitVec 64) (s : State) :
    Host.Outcome State Fault Refusal :=
  .next (s.rowWrite via 0x2102 (i.val + 1) value.toNat)

/-- DOMAIN_OFF (R436). -/
def execDomainOff (via : Via) (s : State) : Host.Outcome State Fault Refusal :=
  .next (s.rowWrite via 0x2111 2 1)

/-- DOMAIN_ON (R436). -/
def execDomainOn (via : Via) (s : State) : Host.Outcome State Fault Refusal :=
  .next (s.rowWrite via 0x2111 2 2)

/-- DOMAIN_RESTORE (R450). -/
def execDomainRestore (via : Via) (s : State) : Host.Outcome State Fault Refusal :=
  .next (s.rowWrite via 0x2111 2 3)

/-- STILE_CLOSE_PRIMARY (R463): for `ms` milliseconds. -/
def execStileClosePrimary (via : Via) (ms : BitVec 24) (s : State) :
    Host.Outcome State Fault Refusal :=
  .next (s.rowWrite via 0x1010 7 (1 + 256 * ms.toNat))

/-- STILE_CLOSE_BRANCH (R463). -/
def execStileCloseBranch (via : Via) (s : State) : Host.Outcome State Fault Refusal :=
  .next (s.rowWrite via 0x1010 7 2)

/-- STILE_OPEN_BRANCH (R463). -/
def execStileOpenBranch (via : Via) (s : State) : Host.Outcome State Fault Refusal :=
  .next (s.rowWrite via 0x1010 7 3)

/-- SETTLE (R476). -/
def execSettle (via : Via) (s : State) : Host.Outcome State Fault Refusal :=
  .next (s.rowWrite via 0x2001 1 1)

/-- RESET (R476). -/
def execReset (via : Via) (s : State) : Host.Outcome State Fault Refusal :=
  .next (s.rowWrite via 0x2001 1 2)

/-- SOFTWARE_RAISE (R480). -/
def execSoftwareRaise (via : Via) (src : BitVec 16) (s : State) :
    Host.Outcome State Fault Refusal :=
  .next (s.rowWrite via 0x6000 0x23 src.toNat)

/-- AGING_MEASURE (R451, R455): by command, or at the period. -/
def execAgingMeasure (via : Option Via) (s : State) : Host.Outcome State Fault Refusal :=
  .next (match via with
    | some v => s.rowWrite v 0x2130 2 1
    | none => if s.obj 0x2130 1 ≠ 0 ∧ !s.power.aging ∧ s.greenOn then s.startAging else s)

/-- REGISTER_WRITE (R10): a write of any object, in the bytes given. -/
def execRegisterWrite (via : Via) (index : BitVec 16) (sub : BitVec 8) (value : List Byte) (s : State) :
    Host.Outcome State Fault Refusal :=
  .next (s.viaWrite via index.toNat sub.toNat value.length (leNat value))

end Sys2Proof.Machine
end

