-- ==== Sys2Proof/Machine/Link.lean ====
section
/-!
DEFINITION. The links of the packet networks (R150, R155 to R157, R166 to R174, R182, R186): what each output link sends in a
stroke, what a flit meets on its way and where it arrives, and the command STROKE, in which all of it happens.
-/

namespace Sys2Proof.Machine

/-! ## Ways (R155 to R157) -/

/-- The output by which a flit at input `i` of `node` goes on to node `dest` (R157); 4 is the agent there. -/
def netOut (node i dest : Nat) : Nat :=
  if 1024 ≤ node then (if node < 1056 ∧ i = 4 then 1 else 4)
  else if dest = 1024 then 3
  else if node % 32 < dest % 32 then 1
  else if dest % 32 < node % 32 then 3
  else if node / 32 < dest / 32 then 2
  else if dest / 32 < node / 32 then 0
  else 4

/-- Where output `o` of `node` leads: the next node and the input there; none at the agent. -/
def netFar (node o : Nat) : Option (Nat × Nat) :=
  if 1024 ≤ node then (if o = 1 then some ((node - 1024) * 32, 3) else none) else neighbour node o

/-- Strokes across a lath (R155, R269). -/
def lathDelay (level : Nat) : Nat := if level = 2 then 2 else 3

/-- Strokes from the choice of a flit at output `o` of `node` to its being named at the far end (R155, R156). -/
def netDelay (level node o : Nat) : Nat := if 1024 ≤ node then lathDelay level else linkDelay level node o

/-- Strokes in which a credit goes back across the link that ends at input `i` of `node` (R155). -/
def creditDelay (level node i : Nat) : Nat := if 1024 ≤ node ∨ isLath node i then lathDelay level else 1

/-! ## Stroke kinds (R166 to R168) -/

/-- The kinds of stroke of a link (R168). -/
inductive LinkKind where
  | g
  | floor
  | open
  deriving DecidableEq, Repr

/-- Whether the present stroke is a floor stroke (R167). Outside a rota and a fallow the strokes count on the links' own
counter, and the start that is armed fixes the stroke before stroke 0. -/
def State.floorStroke (s : State) : Bool :=
  match s.phase with
  | .rota t => t % 64 == 63 || t + 1 == s.rotaLen
  | .fallow i f => i % 64 == 63 || i + 1 == f
  | _ => s.opn.net.count % 64 == 63 || (s.obj 0x2403 6 == 1 && s.count + 1 == s.obj 0x2403 4)

/-- Whether a G flit crosses output `o` of `node` in the present stroke (R164, R166). -/
def State.gStroke (s : State) (node o : Nat) : Bool :=
  match s.phase with
  | .rota t =>
    if node < 1024 then namesSource (Tbl.get routeNone s.opn.routes (routeKey s.bankNow t node o))
    else o == 1 && s.hubUses s.bankNow (node - 1024) t
  | _ => false

/-- The kind of the present stroke at an output on a network: G flits travel on the data network alone (R150), so a G
stroke holds back the packets of no other network (DEDUCED, assumption log 98). -/
def State.linkKind (s : State) (net : Net) (node o : Nat) : LinkKind :=
  if net = .data ∧ s.gStroke node o = true then .g else if s.floorStroke then .floor else .open

/-! ## Buffers and credits (R150, R155, R168) -/

/-- Whether the four places of a buffer are taken, as its sender knows: a place is free once its credit is back. -/
def NetRec.full (n : NetRec) (k : Nat) : Bool :=
  decide (4 ≤ (Tbl.get [] n.buffers k).length + ((Tbl.get [] n.credits k).filter (fun c => decide (n.count < c))).length)

/-- The oldest flit leaves a buffer, and its credit starts back; the queue of an agent has no sender to tell. -/
def NetRec.pop (n : NetRec) (level : Nat) (net : Net) (node i cls : Nat) : NetRec :=
  let k := bufferKey net node i cls
  let wait := (Tbl.get [] n.credits k).filter (fun c => decide (n.count < c))
  { n with buffers := Tbl.set [] n.buffers k ((Tbl.get [] n.buffers k).drop 1)
           credits := if i = 4 then n.credits else
             Tbl.set [] n.credits k (wait ++ [n.count + creditDelay level node i]) }

/-- Replace the record of the networks. -/
def State.setNet (s : State) (n : NetRec) : State := { s with opn := { s.opn with net := n } }

/-- Whether routers pass nothing into `next` from `node` (R32, R186): it stands in another hamlet, whose routers are not OPEN
or have no power. -/
def State.hopShut (s : State) (node next : Nat) : Bool :=
  let h := croftAt next / 128
  decide (next < 1024) && (decide (1024 ≤ node) || croftAt node / 128 != h) &&
    (s.shutState (4096 + h) != 0 || !s.uncoreUsed h)

/-- Whether the T reservation under which a flit was marked is in force (R182): SRC of a request or data flit and its
node. -/
def State.reservedT (s : State) (net : Net) (w : BitVec 144) : Bool :=
  let init := if net = .request then bits w.toNat 52 11 else bits w.toNat 110 11
  s.opn.treservations.any (fun r => r.init == init && nodeId r.node == netDest net w)

/-- The inputs of `node` whose oldest flit of a class can go to output `o`: it can be named, its way is that output, the
place downstream is free or is not needed, and `ok` holds of it. -/
def State.netHeads (s : State) (net : Net) (node o cls : Nat) (ok : NetFlit → Bool) : List Nat :=
  let n := s.opn.net
  let room := match netFar node o with
    | some (m, j) => s.hopShut node m || !n.full (bufferKey net m j cls)
    | none => true
  if !room then []
  else
    (upFrom 0 5).filter (fun i => match Tbl.get [] n.buffers (bufferKey net node i cls) with
      | f :: _ => decide (f.ready ≤ n.count) && netOut node i (netDest net f.word) == o && ok f
      | [] => false)

/-- The input that is served after the last one, which is stored plus one (R168). -/
def inTurn (last : Nat) (xs : List Nat) : Option Nat := (xs.find? (fun x => decide (last ≤ x))).or xs.head?

/-- Key of the turn of a rank at an output; rank 0 holds the class that rank 3 served last. -/
def turnKey (net : Net) (node o rank : Nat) : Nat := bufferKey net node o rank

/-- The flit that an output sends (R168): its rank, its class and its input. -/
def State.netPick (s : State) (net : Net) (node o : Nat) : Option (Nat × Nat × Nat) :=
  let turn := fun rank => Tbl.get 0 s.opn.net.turns (turnKey net node o rank)
  let pick := fun rank cls ok => (inTurn (turn rank) (s.netHeads net node o cls ok)).map (fun i => (rank, cls, i))
  let within := fun f : NetFlit => f.within && s.reservedT net f.word
  let m := pick 2 1 (fun _ => true)
  match s.linkKind net node o with
  | .g => none
  | .floor => m
  | .open =>
    let t := pick 3 2 (fun f => !within f)
    let b := pick 3 3 (fun _ => true)
    (pick 1 2 within).or (m.or (if turn 0 = 2 then b.or t else t.or b))

/-! ## Arrival (R171 to R174, R178, R179) -/

/-- The place that an RSV or RELEASE names at node DEST: the croft endpoint of a router; at the green the target whose
addresses hold ADDR (DESIGN CHOICE, assumption log 107). -/
def flitTarget (f : ReqFlit) : Option Nat :=
  if isGreen f.dest.toNat then (flitPlace f).map (fun p => p.target) else some (croftAt (f.dest.toNat % 1024))

/-- A request flit comes to the agents of `node`. -/
def State.requestComes (s : State) (node : Nat) (f : ReqFlit) : State :=
  match f.op.toNat, flitTarget f with
  | 1, some t => s.rsvArrives t f (some node)
  | 2, some t => s.releaseArrives t f false
  | 3, _ => readAccepted f (s.acceptNet f false node)
  | 4, _ => writeAccepted f none .arrives (s.acceptNet f true node)
  | _, _ => s.discardCode

/-- A flit of the data network comes to the agents of its node: write data, or read data. -/
def State.dataComes (s : State) (h : Nat) (w : BitVec 144) : State :=
  let f := dataOf w
  if 2 ≤ f.kind.toNat then s.discardCode
  else if f.kind = 1 then s.takeBeat h none w
  else s.beatArrives f none .arrives false

/-- The INV_ACK that core `core` sends for a line (R179). -/
def ackFlit (f : SnoopFlit) : BitVec 48 :=
  let w := snoopWord { f with op := 2, par := 0 }
  w ||| BitVec.ofNat 48 (b2n (parity 48 w.toNat))

/-- A snoop flit comes to its node: a core that is told to invalidate a line does so and acknowledges it (R178). -/
def State.snoopComes (s : State) (f : SnoopFlit) : State :=
  match f.op.toNat, flitHome f with
  | 1, some t =>
    (s.uncache f.core.toNat (homeBase t / 64 + f.line.toNat)).enterNet 1024 .snoop ((ackFlit f).setWidth 144) false
  | 2, some t => s.ackArrives t f
  | _, none => s
  | _, _ => s.discardCode

/-- The node of an agent that a flit reaches at `node` of the networks. -/
def agentNode (node : Nat) : Nat := if node < 1024 then node else 1024

/-- The hamlet whose event reports an error at `node` (R173, R479): at the green hamlet 0 (DESIGN CHOICE, log 89). -/
def netHamlet (node : Nat) : Nat := if node < 1024 then croftAt node / 128 else 0

/-- A flit comes to the agents of its node. -/
def State.netArrives (s : State) (net : Net) (node : Nat) (w : BitVec 144) : State :=
  match net with
  | .request => s.requestComes (agentNode node) (reqOf w)
  | .response => s.responseComes (netHamlet node) none w
  | .snoop => s.snoopComes (snoopOf w)
  | .data => s.dataComes (netHamlet node) w

/-- The last powered router on the way of a flit answers it SHUTTERED (R186): a RELEASE awaits no answer, and what is no
request is dropped (DESIGN CHOICE, assumption log 107). -/
def State.netShut (s : State) (net : Net) (node : Nat) (w : BitVec 144) : State :=
  let f := reqOf w
  if net ≠ .request ∨ f.op = 0 ∨ 5 ≤ f.op.toNat then s
  else if f.op = 2 then s.bump 0x4800 5
  else
    (s.bump 0x4800 5).sendResponse (agentNode node)
      { Asker.plain f.src.toNat with tag := f.tag.toNat, cls := flitClass f.cls } opShuttered

/-! ## A stroke of the links -/

/-- Output `o` of `node` sends the flit of input `i` and class `cls`. -/
def State.netSend (s : State) (net : Net) (node o : Nat) (rank cls i : Nat) : State :=
  match Tbl.get [] s.opn.net.buffers (bufferKey net node i cls) with
  | [] => s
  | f :: _ =>
    let n := s.opn.net.pop s.level net node i cls
    let t1 := Tbl.set 0 n.turns (turnKey net node o rank) (i + 1)
    let n1 := { n with turns := if rank = 3 then Tbl.set 0 t1 (turnKey net node o 0) cls else t1 }
    match netFar node o with
    | none => (s.setNet n1).netArrives net node f.word
    | some (m, j) =>
      if s.hopShut node m then (s.setNet n1).netShut net node f.word
      else
        let k := bufferKey net m j cls
        let g : NetFlit := { f with ready := n1.count + netDelay s.level node o }
        s.setNet { n1 with buffers := Tbl.set [] n1.buffers k (Tbl.get [] n1.buffers k ++ [g]) }

/-- The network of a number. -/
def netAt : Nat → Net
  | 0 => .request
  | 1 => .response
  | 2 => .snoop
  | _ => .data

/-- Every output of one node on one network, `k = network * 2048 + node`. -/
def State.netNode (s : State) (k : Nat) : State :=
  let net := netAt (k / 2048)
  let node := k % 2048
  (upFrom 0 5).foldl (fun st o => match st.netPick net node o with
    | some (rank, cls, i) => st.netSend net node o rank cls i
    | none => st) s

/-- Every output link sends its flit of the stroke (R168). -/
def State.netMoves (s : State) : State :=
  ((s.opn.net.buffers.map (fun e => e.1 / 32)).eraseDups).foldl (fun st k => st.netNode k) s

/-- Bits of a flit of a network (R150). -/
def netBits : Net → Nat
  | .request => 80
  | .data => 144
  | _ => 48

/-- The class of the flit that arrives at input `i` of `node` in the present stroke. -/
def State.arriving (s : State) (net : Net) (node i : Nat) : Option Nat :=
  [1, 2, 3].find? (fun cls =>
    (Tbl.get [] s.opn.net.buffers (bufferKey net node i cls)).any (fun f => f.ready == s.opn.net.count))

/-- The flit that arrives at input `i` of `node` has flipped bits (R173): where its check shows it, it is discarded, counted
and reported, and its place is free again. -/
def State.flipPacket (s : State) (x : Net × Nat × Nat × BitVec 144) : State :=
  let (net, node, i, e) := x
  match s.arriving net node i with
  | none => s
  | some cls =>
    let n := s.opn.net
    let k := bufferKey net node i cls
    let fs := Tbl.get [] n.buffers k
    let flip := fun f : NetFlit => f.word ^^^ BitVec.ofNat 144 (e.toNat % 2 ^ netBits net)
    let now := fun f : NetFlit => f.ready == n.count
    let bad := fun f : NetFlit => now f && !netGood net (flip f)
    if fs.any bad then
      let n1 := n.pop s.level net node i cls
      (s.setNet { n1 with buffers := Tbl.set [] n.buffers k (fs.filter (fun f => !bad f)) }).flitError (netHamlet node)
    else
      let gs := fs.map (fun f => if now f then { f with word := flip f } else f)
      s.setNet { n with buffers := Tbl.set [] n.buffers k gs }

/-- Whether an initiator's T flit for `dest` is marked as within its budget (R182): it has injected fewer such flits than the
budget in the last 64 strokes. -/
def State.withinBudget (s : State) (net : Net) (init dest : Nat) : Bool :=
  s.opn.treservations.any (fun r => r.init == init && nodeId r.node == dest &&
    decide ((s.opn.net.injected.filter (fun x => x.1 == netNo net && x.2.1 == init && x.2.2.1 == dest)).length < r.budget))

/-- An initiator injects a flit of class `cls` (R182). -/
def State.sendFlit (s : State) (net : Net) (node init cls : Nat) (w : BitVec 144) : State :=
  let dest := netDest net w
  if cls = 2 ∧ s.withinBudget net init dest = true then
    let s1 := s.enterNet node net w true
    s1.setNet { s1.opn.net with injected := s1.opn.net.injected ++ [(netNo net, init, dest, s1.opn.net.count)] }
  else s.enterNet node net w false

/-- An initiator injects a request flit (R169, R175, R188): one that it does not send, since B packets are held back or the
tag rests, does not enter; a READ, WRITE or RSV opens its transaction. -/
def State.injectRequest (s : State) (node : Nat) (w : BitVec 144) : State :=
  let f := reqOf w
  let i := f.src.toNat
  let t := (flitTarget f).getD 0
  if s.classHeld (flitClass f.cls) || s.tagRests i f.tag.toNat then s
  else
    (match packetInit i, f.op.toNat with
      | true, 1 => s.openTrans (.ask i f.tag.toNat t)
      | true, 3 => s.openTrans (flitTrans f t false)
      | true, 4 => s.openTrans (flitTrans f t true)
      | _, _ => s).sendFlit .request node i f.cls.toNat w

/-- An initiator injects write data, or a target read data (R170): a B beat of a write that has not begun is held back with
it (R188). What a tally snoops is what the initiator sends (R326). -/
def State.injectData (s : State) (node : Nat) (w : BitVec 144) : State :=
  let f := dataOf w
  let i := f.src.toNat
  if f.kind ≠ 0 then s.enterNet node .data w false
  else if s.classHeld (flitClass f.cls) && !s.opn.trans.any (fun o => o.init == i && o.tag == f.tag.toNat) then s
  else (s.sendBeat f).sendFlit .data node i f.cls.toNat w

/-- An agent gives a packet flit to a network (R150, R152): one in error is discarded, counted and reported by the first
router, and one with CLS 0 is discarded and counted (R169, R173). -/
def State.injectPacket (s : State) (e : NetEntry) : State :=
  let node := nodeId e.node.toNat
  let w := BitVec.ofNat 144 (e.word.toNat % 2 ^ netBits e.net)
  if !netGood e.net w then s.flitError (netHamlet node)
  else if netCls e.net w = 0 then s.discardCode
  else
    match e.net with
    | .request => s.injectRequest node w
    | .data => s.injectData node w
    | _ => s.enterNet node e.net w false

/-- A stroke passes on the links' own counter. -/
def State.netTick (s : State) : State :=
  let n := s.opn.net
  s.setNet { n with count := n.count + 1
                    injected := n.injected.filter (fun x => decide (n.count < x.2.2.2 + 63)) }

/-- A stroke of the packet networks (R155, R168): what arrives is checked, every link sends its flit, and agents give
theirs. -/
def State.netStroke (s : State) (b : StrokeIn) : State :=
  let s1 := b.flips.foldl (fun st x => st.flipPacket x) s
  (b.packets.foldl (fun st e => st.injectPacket e) s1.netMoves).netTick

/-- STROKE (R40, R78, R168): one stroke of the rota or of the fallow that is under way, or of a device that is not in RUN,
before which the accesses of the host go on, and in which the packet networks move as well. -/
def execStroke (b : StrokeIn) (s : State) : Host.Outcome State Fault Refusal :=
  .next (if s.strokeRuns then ((s.hostPump 128).netStroke b).strokeStep b.errs else s)

end Sys2Proof.Machine
end

