-- ==== Sys2Proof/Machine/Riscv.lean ====
section
/-!
DEFINITION. The service cores as RV64IMAC machines (R333 to R336): instruction formats, the compressed
forms, arithmetic, control and status registers, traps, caches, and the atomic instructions at the
scratchpad. The manual names the instruction set and cites no edition; what it does not restate is the
RISC-V unprivileged and machine-level privileged architecture (PRESUMED, assumption log 13).
-/

namespace Sys2Proof.Machine

/-! ## Registers -/

/-- Register x`i`; x0 reads zero. -/
def CoreRec.reg (c : CoreRec) (i : Nat) : BitVec 64 := if i = 0 then 0 else Tbl.get 0 c.regs i

/-- Write register x`i`; a write of x0 is discarded. -/
def CoreRec.setReg (c : CoreRec) (i : Nat) (v : BitVec 64) : CoreRec :=
  if i = 0 then c else { c with regs := Tbl.set 0 c.regs i v }

/-- Register x`i` of core `k`. -/
def State.reg (s : State) (k i : Nat) : BitVec 64 := (s.core k).reg i

/-- Write register x`i` of core `k`. -/
def State.setReg (s : State) (k i : Nat) (v : BitVec 64) : State := s.setCore k ((s.core k).setReg i v)

/-! ## Formats of a 32-bit instruction word -/

/-- Immediate of the I format. -/
def immI (w : Nat) : BitVec 64 := (BitVec.ofNat 12 (bits w 20 12)).signExtend 64

/-- Immediate of the S format. -/
def immS (w : Nat) : BitVec 64 := (BitVec.ofNat 12 (bits w 25 7 * 32 + bits w 7 5)).signExtend 64

/-- Immediate of the B format. -/
def immB (w : Nat) : BitVec 64 :=
  (BitVec.ofNat 13 (bits w 31 1 * 4096 + bits w 7 1 * 2048 + bits w 25 6 * 32 + bits w 8 4 * 2)).signExtend 64

/-- Immediate of the U format. -/
def immU (w : Nat) : BitVec 64 := (BitVec.ofNat 32 (bits w 12 20 * 4096)).signExtend 64

/-- Immediate of the J format. -/
def immJ (w : Nat) : BitVec 64 :=
  (BitVec.ofNat 21 (bits w 31 1 * 1048576 + bits w 12 8 * 4096 + bits w 20 1 * 2048 + bits w 21 10 * 2)).signExtend 64

/-- Words of the R, I, S, B, U and J formats, by which compressed forms are named. -/
def encR (f7 rs2 rs1 f3 rd op : Nat) : Nat :=
  f7 <<< 25 + rs2 <<< 20 + rs1 <<< 15 + f3 <<< 12 + rd <<< 7 + op
def encI (imm rs1 f3 rd op : Nat) : Nat := (imm % 4096) <<< 20 + rs1 <<< 15 + f3 <<< 12 + rd <<< 7 + op
def encS (imm rs2 rs1 f3 op : Nat) : Nat :=
  bits imm 5 7 <<< 25 + rs2 <<< 20 + rs1 <<< 15 + f3 <<< 12 + bits imm 0 5 <<< 7 + op
def encB (imm rs2 rs1 f3 op : Nat) : Nat :=
  bits imm 12 1 <<< 31 + bits imm 5 6 <<< 25 + rs2 <<< 20 + rs1 <<< 15 + f3 <<< 12 + bits imm 1 4 <<< 8 +
    bits imm 11 1 <<< 7 + op
def encJ (imm rd : Nat) : Nat :=
  bits imm 20 1 <<< 31 + bits imm 1 10 <<< 21 + bits imm 11 1 <<< 20 + bits imm 12 8 <<< 12 + rd <<< 7 + 0x6F

/-! ## Compressed forms -/

/-- Sign extension of a `w`-bit field as a pattern of 32 bits. -/
def sext (w v : Nat) : Nat := if v < 2 ^ (w - 1) then v else v + 2 ^ 32 - 2 ^ w

/-- The 6-bit immediate of CI forms. -/
def immCI (h : Nat) : Nat := bits h 12 1 * 32 + bits h 2 5

/-- Quadrant 0. -/
def expand0 (h : Nat) : Option Nat :=
  let rd := 8 + bits h 2 3
  let rs := 8 + bits h 7 3
  let immW := bits h 6 1 * 4 + bits h 10 3 * 8 + bits h 5 1 * 64
  let immD := bits h 10 3 * 8 + bits h 5 2 * 64
  match bits h 13 3 with
  | 0 =>
    let imm := bits h 6 1 * 4 + bits h 5 1 * 8 + bits h 11 2 * 16 + bits h 7 4 * 64
    if imm = 0 then none else some (encI imm 2 0 rd 0x13)
  | 2 => some (encI immW rs 2 rd 0x03)
  | 3 => some (encI immD rs 3 rd 0x03)
  | 6 => some (encS immW rd rs 2 0x23)
  | 7 => some (encS immD rd rs 3 0x23)
  | _ => none

/-- The arithmetic forms of quadrant 1. -/
def expandAlu (h : Nat) : Option Nat :=
  let rd := 8 + bits h 7 3
  let rs2 := 8 + bits h 2 3
  match bits h 10 2 with
  | 0 => some (encI (immCI h) rd 5 rd 0x13)
  | 1 => some (encI (0x400 + immCI h) rd 5 rd 0x13)
  | 2 => some (encI (sext 6 (immCI h)) rd 7 rd 0x13)
  | _ =>
    match bits h 12 1, bits h 5 2 with
    | 0, 0 => some (encR 0x20 rs2 rd 0 rd 0x33)
    | 0, 1 => some (encR 0 rs2 rd 4 rd 0x33)
    | 0, 2 => some (encR 0 rs2 rd 6 rd 0x33)
    | 0, 3 => some (encR 0 rs2 rd 7 rd 0x33)
    | 1, 0 => some (encR 0x20 rs2 rd 0 rd 0x3B)
    | 1, 1 => some (encR 0 rs2 rd 0 rd 0x3B)
    | _, _ => none

/-- Quadrant 1. -/
def expand1 (h : Nat) : Option Nat :=
  let rd := bits h 7 5
  let imm := sext 6 (immCI h)
  match bits h 13 3 with
  | 0 => some (encI imm rd 0 rd 0x13)
  | 1 => if rd = 0 then none else some (encI imm rd 0 rd 0x1B)
  | 2 => some (encI imm 0 0 rd 0x13)
  | 3 =>
    if immCI h = 0 then none
    else if rd = 2 then
      let v := bits h 6 1 * 16 + bits h 2 1 * 32 + bits h 5 1 * 64 + bits h 3 2 * 128 + bits h 12 1 * 512
      some (encI (sext 10 v) 2 0 2 0x13)
    else some ((imm % 2 ^ 20) <<< 12 + rd <<< 7 + 0x37)
  | 4 => expandAlu h
  | 5 =>
    let v := bits h 3 3 * 2 + bits h 11 1 * 16 + bits h 2 1 * 32 + bits h 7 1 * 64 + bits h 6 1 * 128 +
      bits h 9 2 * 256 + bits h 8 1 * 1024 + bits h 12 1 * 2048
    some (encJ (sext 12 v) 0)
  | f =>
    let v := bits h 3 2 * 2 + bits h 10 2 * 8 + bits h 2 1 * 32 + bits h 5 2 * 64 + bits h 12 1 * 256
    some (encB (sext 9 v) 0 (8 + bits h 7 3) (f - 6) 0x63)

/-- Quadrant 2. -/
def expand2 (h : Nat) : Option Nat :=
  let rd := bits h 7 5
  let rs2 := bits h 2 5
  match bits h 13 3 with
  | 0 => some (encI (immCI h) rd 1 rd 0x13)
  | 2 =>
    let v := bits h 4 3 * 4 + bits h 12 1 * 32 + bits h 2 2 * 64
    if rd = 0 then none else some (encI v 2 2 rd 0x03)
  | 3 =>
    let v := bits h 5 2 * 8 + bits h 12 1 * 32 + bits h 2 3 * 64
    if rd = 0 then none else some (encI v 2 3 rd 0x03)
  | 4 =>
    if bits h 12 1 = 0 then
      if rs2 ≠ 0 then some (encR 0 rs2 0 0 rd 0x33)
      else if rd = 0 then none
      else some (encI 0 rd 0 0 0x67)
    else if rs2 ≠ 0 then some (encR 0 rs2 rd 0 rd 0x33)
    else if rd = 0 then some 0x00100073
    else some (encI 0 rd 0 1 0x67)
  | 6 => some (encS (bits h 9 4 * 4 + bits h 7 2 * 64) rs2 2 2 0x23)
  | 7 => some (encS (bits h 10 3 * 8 + bits h 7 3 * 64) rs2 2 3 0x23)
  | _ => none

/-- The 32-bit form of a compressed instruction; `none` for an illegal one. RV64IMAC has no floating-point
forms. -/
def expandC (h : Nat) : Option Nat :=
  match h % 4 with
  | 0 => expand0 h
  | 1 => expand1 h
  | _ => expand2 h

/-! ## Arithmetic -/

/-- The operations of OP and OP-IMM; `alt` selects subtraction and the arithmetic shift. -/
def alu (f3 : Nat) (alt : Bool) (a b : BitVec 64) : BitVec 64 :=
  match f3 with
  | 0 => if alt then a - b else a + b
  | 1 => a <<< (b.toNat % 64)
  | 2 => if a.slt b then 1 else 0
  | 3 => if a < b then 1 else 0
  | 4 => a ^^^ b
  | 5 => if alt then a.sshiftRight (b.toNat % 64) else a >>> (b.toNat % 64)
  | 6 => a ||| b
  | _ => a &&& b

/-- The operations of OP-32 and OP-IMM-32; `none` where there is none. -/
def aluW (f3 : Nat) (alt : Bool) (a b : BitVec 32) : Option (BitVec 32) :=
  match f3 with
  | 0 => some (if alt then a - b else a + b)
  | 1 => some (a <<< (b.toNat % 32))
  | 5 => some (if alt then a.sshiftRight (b.toNat % 32) else a >>> (b.toNat % 32))
  | _ => none

/-- Signed and unsigned quotient and remainder, with the results for a zero divisor. -/
def divS {w : Nat} (a b : BitVec w) : BitVec w := if b = 0 then BitVec.allOnes w else a.sdiv b
def divU {w : Nat} (a b : BitVec w) : BitVec w := if b = 0 then BitVec.allOnes w else a / b
def remS {w : Nat} (a b : BitVec w) : BitVec w := if b = 0 then a else a.srem b
def remU {w : Nat} (a b : BitVec w) : BitVec w := if b = 0 then a else a % b

/-- The operations of the M extension. -/
def mulDiv (f3 : Nat) (a b : BitVec 64) : BitVec 64 :=
  match f3 with
  | 0 => a * b
  | 1 => BitVec.ofInt 64 (a.toInt * b.toInt / 2 ^ 64)
  | 2 => BitVec.ofInt 64 (a.toInt * b.toNat / 2 ^ 64)
  | 3 => BitVec.ofNat 64 (a.toNat * b.toNat / 2 ^ 64)
  | 4 => divS a b
  | 5 => divU a b
  | 6 => remS a b
  | _ => remU a b

/-- The word operations of the M extension; `none` where there is none. -/
def mulDivW (f3 : Nat) (a b : BitVec 32) : Option (BitVec 32) :=
  match f3 with
  | 0 => some (a * b)
  | 4 => some (divS a b)
  | 5 => some (divU a b)
  | 6 => some (remS a b)
  | 7 => some (remU a b)
  | _ => none

/-- OP and OP-32 by funct7; `none` for an illegal word. -/
def opReg (w : Nat) (word : Bool) (a b : BitVec 64) : Option (BitVec 64) :=
  let f3 := bits w 12 3
  let f7 := bits w 25 7
  let alt := f7 == 0x20
  if f7 = 1 then
    (if word then (mulDivW f3 (a.setWidth 32) (b.setWidth 32)).map (·.signExtend 64) else some (mulDiv f3 a b))
  else if f7 = 0 ∨ (alt ∧ (f3 = 0 ∨ f3 = 5)) then
    (if word then (aluW f3 alt (a.setWidth 32) (b.setWidth 32)).map (·.signExtend 64) else some (alu f3 alt a b))
  else none

/-- OP-IMM and OP-IMM-32; `none` for an illegal word. -/
def opImm (w : Nat) (word : Bool) (a : BitVec 64) : Option (BitVec 64) :=
  let f3 := bits w 12 3
  let high := if word then bits w 25 7 else bits w 26 6 * 2
  let shift := f3 == 1 || f3 == 5
  let alt := shift && high == 0x20
  let ok := !shift || high == 0 || (f3 == 5 && alt)
  if !ok then none
  else if word then (aluW f3 alt (a.setWidth 32) ((immI w).setWidth 32)).map (·.signExtend 64)
  else some (alu f3 alt a (immI w))

/-- Whether a branch is taken; `none` for an illegal word. -/
def branchTaken (f3 : Nat) (a b : BitVec 64) : Option Bool :=
  match f3 with
  | 0 => some (a == b)
  | 1 => some (a != b)
  | 4 => some (a.slt b)
  | 5 => some (!(a.slt b))
  | 6 => some (decide (a < b))
  | 7 => some (!(decide (a < b)))
  | _ => none

/-! ## Control and status registers -/

/-- A control and status register as it is stored. -/
def State.csr (s : State) (k n : Nat) : BitVec 64 := Tbl.get 0 (s.core k).csrs n

/-- Store a control and status register. -/
def State.setCsr (s : State) (k n : Nat) (v : BitVec 64) : State :=
  s.setCore k { s.core k with csrs := Tbl.set 0 (s.core k).csrs n v }

/-- mip (R333): MSIP for pre-empt, MTIP for mtimecmp, MEIP for dispatch or event. -/
def State.mip (s : State) (k : Nat) : BitVec 64 :=
  let c := s.obj (0x5310 + k) 3
  BitVec.ofNat 64 (8 * b2n (bitAt c 1) + 128 * b2n (s.core k).mtip + 2048 * b2n (bitAt c 0 || bitAt c 2))

/-- What a read of a control and status register gives; `none` where there is none. mcycle and cycle count
core cycles, which no command carries: a free value (log 13). -/
def State.csrRead (s : State) (k n : Nat) : Option (BitVec 64) :=
  if n = 0x300 then some (s.csr k n ||| 0x1800)
  else if n = 0x301 then some 0x8000000000001105
  else if n = 0x344 then some (s.mip k)
  else if n = 0x304 ∨ n = 0x305 ∨ (0x340 ≤ n ∧ n ≤ 0x343) ∨ n = 0xB02 then some (s.csr k n)
  else if n = 0xB00 ∨ n = 0xC00 then some (Config.freeBits 64 (s.freeKey 1))
  else if n = 0xC01 then some s.mtime
  else if n = 0xC02 then some (s.csr k 0xB02)
  else if (0xB03 ≤ n ∧ n ≤ 0xB1F) ∨ (0x323 ≤ n ∧ n ≤ 0x33F) then some 0
  else if n = 0xF14 then some (BitVec.ofNat 64 k)
  else if (0xF11 ≤ n ∧ n ≤ 0xF13) ∨ n = 0xF15 then some 0
  else none

/-- A write of a control and status register: its writable bits alone. -/
def State.csrWrite (s : State) (k n : Nat) (v : BitVec 64) : State :=
  if n = 0x300 then s.setCsr k n (v &&& 0x88)
  else if n = 0x304 then s.setCsr k n (v &&& 0x888)
  else if n = 0x305 then s.setCsr k n (v &&& ~~~2)
  else if n = 0x341 then s.setCsr k n (v &&& ~~~1)
  else if n = 0x340 ∨ n = 0x342 ∨ n = 0x343 ∨ n = 0xB02 then s.setCsr k n v
  else s

/-! ## Traps -/

/-- Take a trap: mepc, mcause and mtval are written, MIE moves to MPIE and clears, the reservation is lost
(R336), and the core goes to its trap vector. `irq` says that it is an interrupt. -/
def State.trap (s : State) (k : Nat) (irq : Bool) (cause : Nat) (tval : BitVec 64) : State :=
  let c := s.core k
  let st := s.csr k 0x300
  let vec := s.csr k 0x305
  let base := vec &&& ~~~3
  let s1 := ((s.setCsr k 0x341 c.pc).setCsr k 0x342 (BitVec.ofNat 64 (cause + b2n irq * 2 ^ 63))).setCsr k 0x343 tval
  let s2 := s1.setCsr k 0x300 (if st.getLsbD 3 then 0x80 else 0)
  let target := if irq && vec.getLsbD 0 then base + BitVec.ofNat 64 (4 * cause) else base
  s2.setCore k { s2.core k with pc := target, reservation := none }

/-- The interrupt that core `k` takes: external, software, then timer. -/
def State.interrupt (s : State) (k : Nat) : Option Nat :=
  let on := s.mip k &&& s.csr k 0x304
  if !(s.csr k 0x300).getLsbD 3 then none
  else if on.getLsbD 11 then some 11
  else if on.getLsbD 3 then some 3
  else if on.getLsbD 7 then some 7
  else none

/-! ## Caches (R333, R334) -/

/-- The lines of a cache, with `bs` as the bytes of `line`: 128 sets of four; the line that gives way is
not fixed by the manual (log 3). -/
def cacheInsert (t : Tbl (List Byte)) (line : Nat) (bs : List Byte) (victim : Nat) : Tbl (List Byte) :=
  let set' := (t.filter (fun e => e.1 % 128 == line % 128 && e.1 != line)).map (·.1)
  let t1 := if set'.length < 4 then t else Tbl.del (getAt line set' victim) t
  Tbl.set [] t1 line bs

/-- What an access of a core has come to: its bytes, an error response or the timeout (R335), or it still waits. -/
inductive CoreGot where
  | bytes (bs : List Byte)
  | error
  | wait
  deriving DecidableEq, Repr

/-- The answer of OP `op` with data as a core takes it; `good` is the OP of success. -/
def coreGot (good : Nat) : Option (Nat × List Byte) → CoreGot
  | none => .wait
  | some (op, bs) => if op = good then .bytes bs else .error

/-- The answer that the present instruction of core `k` has had for access `key`. -/
def State.coreAnswer (s : State) (k : Nat) (key : Bool × Nat × Nat) : Option (Nat × List Byte) :=
  ((s.core k).got.find? (fun e => e.1 == key)).map (·.2)

/-- An access of core `k` at address `key.2.1` as a packet (R334): its answer, if it has come. The answers that an
instruction has had are kept until it ends, so that it makes each access once. The key says whether it stores,
and holds the bytes of the access with 256 for a fetch and 512 for a fill. -/
def State.coreDev (s : State) (k : Nat) (key : Bool × Nat × Nat) (acc : PAccess) : State × Option (Nat × List Byte) :=
  match s.coreAnswer k key with
  | some r => (s, some r)
  | none =>
    let s1 := (s.setCore k { s.core k with wait := some key }).request (1088 + k) true (placeOf key.2.1) acc
    (s1, s1.coreAnswer k key)

/-- Read the parts of a line from its home, given by address and bytes: 64 bytes at once, or by words from a larder
(R118). -/
def State.readLine (s : State) (k : Nat) : List (Nat × Nat) → State × CoreGot
  | [] => (s, .bytes [])
  | (a, n) :: rest =>
    match s.coreDev k (false, a, 512 + n) (.fill n) with
    | (t, r) =>
      match coreGot opData r with
      | .bytes bs =>
        match t.readLine k rest with
        | (u, .bytes more) => (u, .bytes (bs ++ more))
        | r => r
      | g => (t, g)

/-- The parts in which a line at address `a` of home `t` is read. -/
def lineParts (t a : Nat) : List (Nat × Nat) :=
  if t < 1024 then (upFrom 0 8).map (fun i => (a + 8 * i, 8)) else [(a, 64)]

/-- The bytes of a line that core `k` caches, filled from its home on a miss (R334). -/
def State.cachedLine (s : State) (k line : Nat) (icode : Bool) : State × CoreGot :=
  let c := s.core k
  match Tbl.get [] (if icode then c.icache else c.dcache) line with
  | b :: bs => (s, .bytes (b :: bs))
  | [] =>
    match s.homeOf (64 * line) with
    | none => (s, .error)
    | some (t, off) =>
      match s.readLine k (lineParts t (64 * line)) with
      | (s1, .bytes bs) =>
        let s2 := s1.noteHolder t (off / 64) k
        let v := (Config.freeBits 2 (s2.freeKey 0)).toNat
        let c2 := s2.core k
        let c3 := if icode then { c2 with icache := cacheInsert c2.icache line bs v }
          else { c2 with dcache := cacheInsert c2.dcache line bs v }
        ((s2.setCore k c3).freeNext, .bytes bs)
      | r => r

/-- A read of `n` bytes at address `a` by core `k`: through a cache where the address has a home, else as one
uncached access (R334). -/
def State.coreRead (s : State) (k a n : Nat) (icode : Bool) : State × CoreGot :=
  if (s.homeOf a).isSome && (s.homeOf (a + n - 1)).isSome then
    match s.cachedLine k (a / 64) icode with
    | (s1, .bytes b0) =>
      if a / 64 = (a + n - 1) / 64 then (s1, .bytes ((b0.drop (a % 64)).take n))
      else
        match s1.cachedLine k (a / 64 + 1) icode with
        | (s2, .bytes b1) => (s2, .bytes (((b0 ++ b1).drop (a % 64)).take n))
        | r => r
    | r => r
  else
    let (t, r) := s.coreDev k (false, a, (if icode then 256 else 0) + n) (.read n)
    (t, coreGot opData r)

/-- A store goes through to the lines that the core's own data cache holds (R333). -/
def State.updateOwn (s : State) (k : Nat) : Nat → List Byte → State
  | _, [] => s
  | a, b :: bs =>
    let c := s.core k
    let s1 := match Tbl.get [] c.dcache (a / 64) with
      | [] => s
      | l => s.setCore k { c with dcache := Tbl.set [] c.dcache (a / 64) (setAt l (a % 64) b) }
    s1.updateOwn k (a + 1) bs

/-- A store of bytes by core `k`. -/
def State.coreWrite (s : State) (k a : Nat) (bs : List Byte) : State × CoreGot :=
  match s.coreDev k (true, a, bs.length) (.write (bs.map (fun b => (b, true)))) with
  | (t, r) =>
    match coreGot opAck r with
    | .bytes more => (t.updateOwn k a bs, .bytes more)
    | g => (t, g)

/-! ## Execution -/

/-- What an instruction does: go on at an address, take an exception, or wait for an access. -/
inductive Ran where
  | stall (s : State)
  | on (s : State) (pc : BitVec 64)
  | except (s : State) (cause : Nat) (tval : BitVec 64)
  deriving DecidableEq, Repr

/-- The value that a load delivers. -/
def loadValue (f3 : Nat) (bs : List Byte) : BitVec 64 :=
  let v := leNat bs
  match f3 with
  | 0 => (BitVec.ofNat 8 v).signExtend 64
  | 1 => (BitVec.ofNat 16 v).signExtend 64
  | 2 => (BitVec.ofNat 32 v).signExtend 64
  | _ => BitVec.ofNat 64 v

/-- A load. -/
def State.runLoad (s : State) (k w : Nat) (next : BitVec 64) : Ran :=
  let f3 := bits w 12 3
  let a := s.reg k (bits w 15 5) + immI w
  if f3 = 7 then .except s 2 (BitVec.ofNat 64 w)
  else
    match s.coreRead k a.toNat (2 ^ (f3 % 4)) false with
    | (t, .bytes bs) => .on (t.setReg k (bits w 7 5) (loadValue f3 bs)) next
    | (t, .error) => .except t 5 a
    | (t, .wait) => .stall t

/-- A store. -/
def State.runStore (s : State) (k w : Nat) (next : BitVec 64) : Ran :=
  let f3 := bits w 12 3
  let a := s.reg k (bits w 15 5) + immS w
  if 3 < f3 then .except s 2 (BitVec.ofNat 64 w)
  else
    match s.coreWrite k a.toNat (leBytes (2 ^ f3) (s.reg k (bits w 20 5)).toNat) with
    | (t, .bytes _) => .on t next
    | (t, .error) => .except t 7 a
    | (t, .wait) => .stall t

/-- What an atomic leaves in its register: the bytes that LR or an AMO read, the outcome of SC. The line that the
core's data cache holds follows what was stored (R333). -/
def State.atomicEnd (s : State) (k w a : Nat) (bs : List Byte) : State :=
  let f3 := bits w 12 3
  let f5 := bits w 27 5
  let n := 2 ^ f3
  let src := (s.reg k (bits w 20 5)).toNat % 2 ^ (8 * n)
  let s1 := if f5 = 2 ∨ (f5 = 3 ∧ leNat bs ≠ 0) then s
    else s.updateOwn k a (leBytes n (if f5 = 3 then src else (amoValue f5 n (leNat bs) src).getD 0))
  s1.setReg k (bits w 7 5) (loadValue f3 bs)

/-- LR, SC and AMO (R336): performed at the scratchpad alone. -/
def State.runAtomic (s : State) (k w : Nat) (next : BitVec 64) : Ran :=
  let f3 := bits w 12 3
  let f5 := bits w 27 5
  let n := 2 ^ f3
  let a := s.reg k (bits w 15 5)
  let src := (s.reg k (bits w 20 5)).toNat % 2 ^ (8 * n)
  if (f3 ≠ 2 ∧ f3 ≠ 3) ∨ (f5 = 2 ∧ bits w 20 5 ≠ 0) ∨
      (f5 ≠ 2 ∧ f5 ≠ 3 ∧ (amoValue f5 n 0 0).isNone) then .except s 2 (BitVec.ofNat 64 w)
  else if a.toNat < scratchBase ∨ scratchBase + 0x800000 < a.toNat + n then .except s 7 a
  else if a.toNat % n ≠ 0 then .except s (if f5 = 2 then 4 else 6) a
  else
    match s.coreDev k (true, a.toNat, n) (.atomic f5 n src) with
    | (t, r) =>
      match coreGot opData r with
      | .bytes bs => .on (t.atomicEnd k w a.toNat bs) next
      | .error => .except t (if f5 = 2 then 5 else 7) a
      | .wait => .stall t

/-- The CSR instructions. -/
def State.runCsr (s : State) (k w : Nat) (next : BitVec 64) : Ran :=
  let f3 := bits w 12 3
  let n := bits w 20 12
  let rs := bits w 15 5
  let src := if f3 < 4 then s.reg k rs else BitVec.ofNat 64 rs
  let writes := f3 % 4 == 1 || rs != 0
  match s.csrRead k n with
  | none => .except s 2 (BitVec.ofNat 64 w)
  | some old =>
    if writes ∧ 0xC00 ≤ n then .except s 2 (BitVec.ofNat 64 w)
    else
      let v := match f3 % 4 with
        | 1 => src
        | 2 => old ||| src
        | _ => old &&& ~~~src
      let s1 := if writes then s.csrWrite k n v else s
      .on (s1.freeNext.setReg k (bits w 7 5) old) next

/-- The SYSTEM instructions. WFI may end at once; only MRET returns, to machine mode (R333). -/
def State.runSystem (s : State) (k w : Nat) (next : BitVec 64) : Ran :=
  if bits w 12 3 = 4 then .except s 2 (BitVec.ofNat 64 w)
  else if bits w 12 3 ≠ 0 then s.runCsr k w next
  else if w = 0x00000073 then .except s 11 0
  else if w = 0x00100073 then .except s 3 (s.core k).pc
  else if w = 0x10500073 then .on s next
  else if w = 0x30200073 then
    .on (s.setCsr k 0x300 (0x80 ||| (if (s.csr k 0x300).getLsbD 7 then 8 else 0))) (s.csr k 0x341)
  else .except s 2 (BitVec.ofNat 64 w)

/-- Write a result, or take the illegal-instruction exception. -/
def State.result (s : State) (k w : Nat) (next : BitVec 64) : Option (BitVec 64) → Ran
  | some v => .on (s.setReg k (bits w 7 5) v) next
  | none => .except s 2 (BitVec.ofNat 64 w)

/-- One instruction, as a 32-bit word that took `len` bytes. -/
def State.runWord (s : State) (k w len : Nat) : Ran :=
  let pc := (s.core k).pc
  let next := pc + BitVec.ofNat 64 len
  let a := s.reg k (bits w 15 5)
  let b := s.reg k (bits w 20 5)
  match bits w 0 7 with
  | 0x03 => s.runLoad k w next
  | 0x0F =>
    if bits w 12 3 = 0 then .on s next
    else if bits w 12 3 = 1 then .on (s.setCore k { s.core k with icache := [] }) next
    else .except s 2 (BitVec.ofNat 64 w)
  | 0x13 => s.result k w next (opImm w false a)
  | 0x17 => .on (s.setReg k (bits w 7 5) (pc + immU w)) next
  | 0x1B => s.result k w next (opImm w true a)
  | 0x23 => s.runStore k w next
  | 0x2F => s.runAtomic k w next
  | 0x33 => s.result k w next (opReg w false a b)
  | 0x37 => .on (s.setReg k (bits w 7 5) (immU w)) next
  | 0x3B => s.result k w next (opReg w true a b)
  | 0x63 =>
    match branchTaken (bits w 12 3) a b with
    | some t => .on s (if t then pc + immB w else next)
    | none => .except s 2 (BitVec.ofNat 64 w)
  | 0x67 =>
    if bits w 12 3 = 0 then .on (s.setReg k (bits w 7 5) next) ((a + immI w) &&& ~~~1)
    else .except s 2 (BitVec.ofNat 64 w)
  | 0x6F => .on (s.setReg k (bits w 7 5) next) (pc + immJ w)
  | 0x73 => s.runSystem k w next
  | _ => .except s 2 (BitVec.ofNat 64 w)

/-- Fetch and run the instruction at the core's program counter. -/
def State.fetchRun (s : State) (k : Nat) : Ran :=
  let pc := (s.core k).pc
  match s.coreRead k pc.toNat 2 true with
  | (t, .error) => .except t 1 pc
  | (t, .wait) => .stall t
  | (t, .bytes lo) =>
    let h := leNat lo
    if h % 4 ≠ 3 then
      match expandC h with
      | some w => t.runWord k w 2
      | none => .except t 2 (BitVec.ofNat 64 h)
    else
      match t.coreRead k (pc.toNat + 2) 2 true with
      | (u, .error) => .except u 1 (pc + 2)
      | (u, .wait) => .stall u
      | (u, .bytes hi) => u.runWord k (h + 65536 * leNat hi) 4

/-- Whether core `k` executes instructions: released, powered, and in power state RUN (R337, R440). -/
def State.coreRuns (s : State) (k : Nat) : Bool :=
  !(s.core k).held && s.granted (1100 + k) && s.obj 0x2100 1 == 0

/-- Core `k` begins its next instruction: no access of the last one is left. -/
def State.nextInstruction (s : State) (k : Nat) : State := s.setCore k { s.core k with got := [] }

/-- Run the instruction at the program counter, or go on with it after an answer (R335). -/
def State.runCore (s : State) (k : Nat) : State :=
  match s.fetchRun k with
  | .stall t => t
  | .except t c v => (t.nextInstruction k).trap k false c v
  | .on t pc =>
    let t1 := (t.nextInstruction k).setCore k { (t.nextInstruction k).core k with pc := pc }
    t1.setCsr k 0xB02 (t1.csr k 0xB02 + 1)

/-- CORE_INSTRUCTION (R333): an enabled interrupt, or the next instruction. An instruction that waits for an access
goes on once the answer has come. -/
def execCoreInstruction (k : CoreNo) (s : State) : Host.Outcome State Fault Refusal :=
  .next (if !s.coreRuns k.val ∨ (s.core k.val).wait.isSome then s
    else if (s.core k.val).got ≠ [] then s.runCore k.val
    else
      match s.interrupt k.val with
      | some c => s.trap k.val true c 0
      | none => s.runCore k.val)

/-- MTIMECMP_REACHED (R333). -/
def execMtimecmpReached (k : CoreNo) (s : State) : Host.Outcome State Fault Refusal :=
  let c := s.core k.val
  .next (if !c.held ∧ c.mtimecmp ≤ s.mtime then s.setCore k.val { c with mtip := true } else s)

/-- The exception that an access raises (R335). -/
def accessCause : CoreAccess → Nat
  | .load => 5
  | .store => 7
  | .fetch => 1

/-- CORE_ACCESS_FAULT (R335): the fault value is the address; the core waits for the access no longer. -/
def execCoreAccessFault (k : CoreNo) (kind : CoreAccess) (addr : BitVec 64) (s : State) :
    Host.Outcome State Fault Refusal :=
  let s1 := s.dropUser (1088 + k.val)
  .next (if (s.core k.val).held then s
    else
      (s1.setCore k.val { s1.core k.val with wait := none, got := [] }).trap k.val false (accessCause kind) addr)

/-- RESERVATION_TIMEOUT (R336). -/
def execReservationTimeout (k : CoreNo) (s : State) : Host.Outcome State Fault Refusal :=
  .next (s.setCore k.val { s.core k.val with reservation := none })

end Sys2Proof.Machine
end

