-- ==== Sys2Proof/Machine/Dispatch.lean ====
section
/-!
DEFINITION. One arm per command, each a direct call of its meaning.
-/

namespace Sys2Proof.Machine

open Sys2Proof

def exec (i : Instr) (s : State) : Host.Outcome State Fault Refusal :=
  match i with
  | .stroke errs => Sys2Proof.Machine.execStroke errs s
  | .rotaBoundary => Sys2Proof.Machine.execRotaBoundary s
  | .fallowEnd => Sys2Proof.Machine.execFallowEnd s
  | .bellLocalMessage => Sys2Proof.Machine.execBellLocalMessage s
  | .bellMessageReceive p second => Sys2Proof.Machine.execBellMessageReceive p second s
  | .bellUpSend => Sys2Proof.Machine.execBellUpSend s
  | .bellRootForm => Sys2Proof.Machine.execBellRootForm s
  | .verdictCopySend p second => Sys2Proof.Machine.execVerdictCopySend p second s
  | .bellLost => Sys2Proof.Machine.execBellLost s
  | .verdictRepair via byte => Sys2Proof.Machine.execVerdictRepair via byte s
  | .stopCommand via => Sys2Proof.Machine.execStopCommand via s
  | .pauseCommand via => Sys2Proof.Machine.execPauseCommand via s
  | .alignmentArm via => Sys2Proof.Machine.execAlignmentArm via s
  | .alignmentCancel via => Sys2Proof.Machine.execAlignmentCancel via s
  | .alignmentStep => Sys2Proof.Machine.execAlignmentStep s
  | .startArm via => Sys2Proof.Machine.execStartArm via s
  | .startCancel via => Sys2Proof.Machine.execStartCancel via s
  | .startSample => Sys2Proof.Machine.execStartSample s
  | .startRun => Sys2Proof.Machine.execStartRun s
  | .sheetRaise via h c => Sys2Proof.Machine.execSheetRaise via h c s
  | .sheetLower via h c => Sys2Proof.Machine.execSheetLower via h c s
  | .croftWindowWrite init h c off data => Sys2Proof.Machine.execCroftWindowWrite init h c off data s
  | .nonBpLarderAccess init h c off acc => Sys2Proof.Machine.execNonBpLarderAccess init h c off acc s
  | .bankBusyTimeout h c bank => Sys2Proof.Machine.execBankBusyTimeout h c bank s
  | .bankWake h c bank => Sys2Proof.Machine.execBankWake h c bank s
  | .bankRetainTimeout h c bank => Sys2Proof.Machine.execBankRetainTimeout h c bank s
  | .applyRepairRecord via rec => Sys2Proof.Machine.execApplyRepairRecord via rec s
  | .larderTestStart via h => Sys2Proof.Machine.execLarderTestStart via h s
  | .larderTestStop via h => Sys2Proof.Machine.execLarderTestStop via h s
  | .testBlockYield u => Sys2Proof.Machine.execTestBlockYield u s
  | .testBlockResume u => Sys2Proof.Machine.execTestBlockResume u s
  | .larderScrubVisit h c word => Sys2Proof.Machine.execLarderScrubVisit h c word s
  | .cellarRequest n binding phyBad => Sys2Proof.Machine.execCellarRequest n binding phyBad s
  | .cellarReturn n binding => Sys2Proof.Machine.execCellarReturn n binding s
  | .cellarTemperatureRead n temp => Sys2Proof.Machine.execCellarTemperatureRead n temp s
  | .refreshFallowRequest n => Sys2Proof.Machine.execRefreshFallowRequest n s
  | .forcedRefresh n => Sys2Proof.Machine.execForcedRefresh n s
  | .cellarPatrolScrub n word => Sys2Proof.Machine.execCellarPatrolScrub n word s
  | .cellarReady n => Sys2Proof.Machine.execCellarReady n s
  | .rsv tgt src tag ask => Sys2Proof.Machine.execRsv tgt src tag ask s
  | .grant tgt init wait => Sys2Proof.Machine.execGrant tgt init wait s
  | .release tgt who ask => Sys2Proof.Machine.execRelease tgt who ask s
  | .packetRead src tag dest ask lat fate => Sys2Proof.Machine.execPacketRead src tag dest ask lat fate s
  | .packetWrite src tag dest flits lat fate => Sys2Proof.Machine.execPacketWrite src tag dest flits lat fate s
  | .packetCheckError h net tgt init tag => Sys2Proof.Machine.execPacketCheckError h net tgt init tag s
  | .transactionTimeout init tag => Sys2Proof.Machine.execTransactionTimeout init tag s
  | .unmatchedWriteTimeout tgt init => Sys2Proof.Machine.execUnmatchedWriteTimeout tgt init s
  | .invalidate op core line => Sys2Proof.Machine.execInvalidate op core line s
  | .invAck op core line => Sys2Proof.Machine.execInvAck op core line s
  | .shutter via => Sys2Proof.Machine.execShutter via s
  | .shutterDrainEnd e => Sys2Proof.Machine.execShutterDrainEnd e s
  | .unshutter via => Sys2Proof.Machine.execUnshutter via s
  | .unshutterOpen e => Sys2Proof.Machine.execUnshutterOpen e s
  | .swapArmAtRota via => Sys2Proof.Machine.execSwapArmAtRota via s
  | .swapArmWithLower via => Sys2Proof.Machine.execSwapArmWithLower via s
  | .swapCancel via => Sys2Proof.Machine.execSwapCancel via s
  | .swapDrainStart => Sys2Proof.Machine.execSwapDrainStart s
  | .tApply via => Sys2Proof.Machine.execTApply via s
  | .tRemove via => Sys2Proof.Machine.execTRemove via s
  | .tableEntryWrite via high value => Sys2Proof.Machine.execTableEntryWrite via high value s
  | .statisticsClear via init => Sys2Proof.Machine.execStatisticsClear via init s
  | .frameReceive p lanes ready => Sys2Proof.Machine.execFrameReceive p lanes ready s
  | .linkStatus p msg => Sys2Proof.Machine.execLinkStatus p msg s
  | .paceProbe p msg lastReady => Sys2Proof.Machine.execPaceProbe p msg lastReady s
  | .laneCdrLock p l => Sys2Proof.Machine.execLaneCdrLock p l s
  | .laneBlockLock p l ok => Sys2Proof.Machine.execLaneBlockLock p l ok s
  | .laneFrameAlign p l ok ln spare => Sys2Proof.Machine.execLaneFrameAlign p l ok ln spare s
  | .laneLost p l => Sys2Proof.Machine.execLaneLost p l s
  | .portTrained p skew => Sys2Proof.Machine.execPortTrained p skew s
  | .goodFrameCount p => Sys2Proof.Machine.execGoodFrameCount p s
  | .retrain via p => Sys2Proof.Machine.execRetrain via p s
  | .takeDown via p => Sys2Proof.Machine.execTakeDown via p s
  | .swapLaneCommand via p => Sys2Proof.Machine.execSwapLaneCommand via p s
  | .readmit via p => Sys2Proof.Machine.execReadmit via p s
  | .swapFrame p tx => Sys2Proof.Machine.execSwapFrame p tx s
  | .swapVerify p ok => Sys2Proof.Machine.execSwapVerify p ok s
  | .spareRegained p => Sys2Proof.Machine.execSpareRegained p s
  | .measureCommand via p => Sys2Proof.Machine.execMeasureCommand via p s
  | .laneTestModeWrite via p l mode => Sys2Proof.Machine.execLaneTestModeWrite via p l mode s
  | .prbsCheckerLock p l rx => Sys2Proof.Machine.execPrbsCheckerLock p l rx s
  | .injectSingle via p l => Sys2Proof.Machine.execInjectSingle via p l s
  | .injectStartPeriodic via p l => Sys2Proof.Machine.execInjectStartPeriodic via p l s
  | .injectStop via p l => Sys2Proof.Machine.execInjectStop via p l s
  | .injectIntervalExpiry p l => Sys2Proof.Machine.execInjectIntervalExpiry p l s
  | .regionRaise via r => Sys2Proof.Machine.execRegionRaise via r s
  | .regionLower via r => Sys2Proof.Machine.execRegionLower via r s
  | .regionWindowWrite init r off data => Sys2Proof.Machine.execRegionWindowWrite init r off data s
  | .globalContention line a b => Sys2Proof.Machine.execGlobalContention line a b s
  | .reEnableLine via line => Sys2Proof.Machine.execReEnableLine via line s
  | .peepholeWrite via r k sel => Sys2Proof.Machine.execPeepholeWrite via r k sel s
  | .pllSettingsWrite via j value => Sys2Proof.Machine.execPllSettingsWrite via j value s
  | .rotaClockTick => Sys2Proof.Machine.execRotaClockTick s
  | .commitPulse => Sys2Proof.Machine.execCommitPulse s
  | .packetStart j => Sys2Proof.Machine.execPacketStart j s
  | .packetDone j lat fate => Sys2Proof.Machine.execPacketDone j lat fate s
  | .bankSupplySample b mv => Sys2Proof.Machine.execBankSupplySample b mv s
  | .push init t item => Sys2Proof.Machine.execPush init t item s
  | .pushEop init t item => Sys2Proof.Machine.execPushEop init t item s
  | .pop init t => Sys2Proof.Machine.execPop init t s
  | .drop init t => Sys2Proof.Machine.execDrop init t s
  | .publish init t value => Sys2Proof.Machine.execPublish init t value s
  | .troughRelease init t value => Sys2Proof.Machine.execTroughRelease init t value s
  | .bankViewWrite init t off data => Sys2Proof.Machine.execBankViewWrite init t off data s
  | .troughReset via t => Sys2Proof.Machine.execTroughReset via t s
  | .tallyFeed init n data => Sys2Proof.Machine.execTallyFeed init n data s
  | .tallySnoopFeed n data => Sys2Proof.Machine.execTallySnoopFeed n data s
  | .tallyRestart via n => Sys2Proof.Machine.execTallyRestart via n s
  | .tallyRunningWrite via n value => Sys2Proof.Machine.execTallyRunningWrite via n value s
  | .arm init task => Sys2Proof.Machine.execArm init task s
  | .signal init task amount => Sys2Proof.Machine.execSignal init task amount s
  | .cancel init task => Sys2Proof.Machine.execCancel init task s
  | .done init => Sys2Proof.Machine.execDone init s
  | .yield init => Sys2Proof.Machine.execYield init s
  | .commandError init word => Sys2Proof.Machine.execCommandError init word s
  | .take k => Sys2Proof.Machine.execTake k s
  | .delayListDue j => Sys2Proof.Machine.execDelayListDue j s
  | .preEmptOverrun k => Sys2Proof.Machine.execPreEmptOverrun k s
  | .cacheCommand via k which => Sys2Proof.Machine.execCacheCommand via k which s
  | .coreHoldReset via k => Sys2Proof.Machine.execCoreHoldReset via k s
  | .coreRelease via k => Sys2Proof.Machine.execCoreRelease via k s
  | .coreAccessFault k kind addr => Sys2Proof.Machine.execCoreAccessFault k kind addr s
  | .reservationTimeout k => Sys2Proof.Machine.execReservationTimeout k s
  | .scratchpadTestStart via => Sys2Proof.Machine.execScratchpadTestStart via s
  | .scratchpadTestStop via => Sys2Proof.Machine.execScratchpadTestStop via s
  | .watchArm via u => Sys2Proof.Machine.execWatchArm via u s
  | .forceTrigger via u => Sys2Proof.Machine.execForceTrigger via u s
  | .watchStop via u => Sys2Proof.Machine.execWatchStop via u s
  | .watchReset via u => Sys2Proof.Machine.execWatchReset via u s
  | .postComplete u => Sys2Proof.Machine.execPostComplete u s
  | .spillWrite u => Sys2Proof.Machine.execSpillWrite u s
  | .drainComplete u => Sys2Proof.Machine.execDrainComplete u s
  | .watchWindowWrite init u off data => Sys2Proof.Machine.execWatchWindowWrite init u off data s
  | .referencePeriod => Sys2Proof.Machine.execReferencePeriod s
  | .sync p msg ready => Sys2Proof.Machine.execSync p msg ready s
  | .delayReq p msg ready => Sys2Proof.Machine.execDelayReq p msg ready s
  | .delayResp p msg => Sys2Proof.Machine.execDelayResp p msg s
  | .announce p msg => Sys2Proof.Machine.execAnnounce p msg s
  | .announceExpiry p => Sys2Proof.Machine.execAnnounceExpiry p s
  | .syncTimeout => Sys2Proof.Machine.execSyncTimeout s
  | .steepleSendDue p due => Sys2Proof.Machine.execSteepleSendDue p due s
  | .pulseArm via j => Sys2Proof.Machine.execPulseArm via j s
  | .pulseDisarm via j => Sys2Proof.Machine.execPulseDisarm via j s
  | .pulseFire j => Sys2Proof.Machine.execPulseFire j s
  | .captureEdge j rising => Sys2Proof.Machine.execCaptureEdge j rising s
  | .capturePop via j => Sys2Proof.Machine.execCapturePop via j s
  | .storeWrite via => Sys2Proof.Machine.execStoreWrite via s
  | .storeErase via => Sys2Proof.Machine.execStoreErase via s
  | .storeMirror via => Sys2Proof.Machine.execStoreMirror via s
  | .storeApply via => Sys2Proof.Machine.execStoreApply via s
  | .storeCommandComplete => Sys2Proof.Machine.execStoreCommandComplete s
  | .restartCommand via => Sys2Proof.Machine.execRestartCommand via s
  | .undercoat => Sys2Proof.Machine.execUndercoat s
  | .storePatrol => Sys2Proof.Machine.execStorePatrol s
  | .loadCommand via => Sys2Proof.Machine.execLoadCommand via s
  | .loadComplete => Sys2Proof.Machine.execLoadComplete s
  | .allsetRelease => Sys2Proof.Machine.execAllsetRelease s
  | .hostHoldWrite via value => Sys2Proof.Machine.execHostHoldWrite via value s
  | .allsetSeen high => Sys2Proof.Machine.execAllsetSeen high s
  | .croftRemap via => Sys2Proof.Machine.execCroftRemap via s
  | .instructionScrub h c b w => Sys2Proof.Machine.execInstructionScrub h c b w s
  | .hedgerowScrub r f => Sys2Proof.Machine.execHedgerowScrub r f s
  | .keyProgram via slot => Sys2Proof.Machine.execKeyProgram via slot s
  | .keyRevoke via slot => Sys2Proof.Machine.execKeyRevoke via slot s
  | .attest via => Sys2Proof.Machine.execAttest via s
  | .attestReady => Sys2Proof.Machine.execAttestReady s
  | .vstbyGood => Sys2Proof.Machine.execVstbyGood s
  | .vstbyLoss => Sys2Proof.Machine.execVstbyLoss s
  | .vmainGood => Sys2Proof.Machine.execVmainGood s
  | .waking brdid reference => Sys2Proof.Machine.execWaking brdid reference s
  | .powerFail => Sys2Proof.Machine.execPowerFail s
  | .standbyCommand via => Sys2Proof.Machine.execStandbyCommand via s
  | .wakeCommand via => Sys2Proof.Machine.execWakeCommand via s
  | .standbyWakeTimer => Sys2Proof.Machine.execStandbyWakeTimer s
  | .referenceLoss => Sys2Proof.Machine.execReferenceLoss s
  | .powerStateChoice => Sys2Proof.Machine.execPowerStateChoice s
  | .powerStateWake cause => Sys2Proof.Machine.execPowerStateWake cause s
  | .wakeAlarmWrite via j value => Sys2Proof.Machine.execWakeAlarmWrite via j value s
  | .domainOff via => Sys2Proof.Machine.execDomainOff via s
  | .domainOn via => Sys2Proof.Machine.execDomainOn via s
  | .domainRestore via => Sys2Proof.Machine.execDomainRestore via s
  | .sensorRead r => Sys2Proof.Machine.execSensorRead r s
  | .thermalLevelFall => Sys2Proof.Machine.execThermalLevelFall s
  | .thermalRequest => Sys2Proof.Machine.execThermalRequest s
  | .safetyShutdown d => Sys2Proof.Machine.execSafetyShutdown d s
  | .agingMeasure via => Sys2Proof.Machine.execAgingMeasure via s
  | .agingPassComplete results => Sys2Proof.Machine.execAgingPassComplete results s
  | .read port f => Sys2Proof.Machine.execRead port f s
  | .writeObject port f => Sys2Proof.Machine.execWriteObject port f s
  | .broadcastWrite f => Sys2Proof.Machine.execBroadcastWrite f s
  | .assign port f => Sys2Proof.Machine.execAssign port f s
  | .mread port f => Sys2Proof.Machine.execMread port f s
  | .mwrite port f => Sys2Proof.Machine.execMwrite port f s
  | .response => Sys2Proof.Machine.execResponse s
  | .frameForward port f => Sys2Proof.Machine.execFrameForward port f s
  | .ringFrameDiscard port f => Sys2Proof.Machine.execRingFrameDiscard port f s
  | .notify src => Sys2Proof.Machine.execNotify src s
  | .stileClosePrimary via ms => Sys2Proof.Machine.execStileClosePrimary via ms s
  | .stileCloseBranch via => Sys2Proof.Machine.execStileCloseBranch via s
  | .stileOpenBranch via => Sys2Proof.Machine.execStileOpenBranch via s
  | .primaryStileReopen => Sys2Proof.Machine.execPrimaryStileReopen s
  | .branchLockLoss => Sys2Proof.Machine.execBranchLockLoss s
  | .receiverLock port locked => Sys2Proof.Machine.execReceiverLock port locked s
  | .settle via => Sys2Proof.Machine.execSettle via s
  | .reset via => Sys2Proof.Machine.execReset via s
  | .eventFire src cause => Sys2Proof.Machine.execEventFire src cause s
  | .softwareRaise via src => Sys2Proof.Machine.execSoftwareRaise via src s
  | .msixPendingSend v => Sys2Proof.Machine.execMsixPendingSend v s
  | .bar0Access off acc => Sys2Proof.Machine.execBar0Access off acc s
  | .octetDataWrite init off data => Sys2Proof.Machine.execOctetDataWrite init off data s
  | .bar2Access off acc => Sys2Proof.Machine.execBar2Access off acc s
  | .perst high => Sys2Proof.Machine.execPerst high s
  | .tapInstruction code testEn => Sys2Proof.Machine.execTapInstruction code testEn s
  | .tapInstructionExit => Sys2Proof.Machine.execTapInstructionExit s
  | .registerWrite via index sub value => Sys2Proof.Machine.execRegisterWrite via index sub value s
  | .crystalTimeout => Sys2Proof.Machine.execCrystalTimeout s
  | .referenceArrival => Sys2Proof.Machine.execReferenceArrival s
  | .pllLock pll => Sys2Proof.Machine.execPllLock pll s
  | .scratchpadScrubVisit word => Sys2Proof.Machine.execScratchpadScrubVisit word s
  | .testBlockDone u found => Sys2Proof.Machine.execTestBlockDone u found s
  | .remapComplete => Sys2Proof.Machine.execRemapComplete s
  | .hedgerowClockEdge r line rising pins => Sys2Proof.Machine.execHedgerowClockEdge r line rising pins s
  | .coreInstruction k => Sys2Proof.Machine.execCoreInstruction k s
  | .mtimecmpReached k => Sys2Proof.Machine.execMtimecmpReached k s
  | .configurationRequest kind link => Sys2Proof.Machine.execConfigurationRequest kind link s
  | .upset loc => Sys2Proof.Machine.execUpset loc s

end Sys2Proof.Machine
end

