-- ==== Sys2Proof/WellFormed.lean ====
section
/-!
DEFINITION. Which commands are well formed: operands that the accesses, frames and messages of the manual
can carry. The machine answers every command, ill-formed ones included; these checks bound what the outside
world can send.
-/

namespace Sys2Proof

/-- Sizes of a READ or WRITE (R169). -/
def sizeOk (n : Nat) : Bool := [1, 2, 4, 8, 16, 32, 64].contains n

/-- Sizes of a read or write of the host (R497): a read request of at most 4,096 bytes, a payload of at most 512. -/
def hostSizeOk : Access → Bool
  | .read n => decide (1 ≤ n) && decide (n ≤ 4096)
  | .write bs => decide (1 ≤ bs.length) && decide (bs.length ≤ 512)

/-- Bytes of an access. -/
def Access.size : Access → Nat
  | .read n => n
  | .write bs => bs.length

/-- A ring frame as the wire can carry it: bytes between its delimiters (R457). -/
def frameOk (f : RingFrame) : Bool := decide (0 < f.bytes.length)

/-- No two lane frames of one port frame name the same lane (R191, R195). -/
def lanesOk : List LaneFrame → Bool
  | [] => true
  | l :: t => t.all (fun m => m.lane != l.lane) && lanesOk t

/-- The operands of a command lie in the ranges of the manual. -/
def Instr.wellFormed (i : Instr) : Bool :=
  match i with
  | .stroke b => b.errs.all (fun e => decide (e.1 < 1024) && decide (e.2.1 < 6))
  | .croftWindowWrite _ _ _ off data => decide (off < 0x20000000) && sizeOk data.length
  | .nonBpLarderAccess _ _ _ off acc => decide (off < 0x20000000) && sizeOk acc.size
  | .tableEntryWrite _ high value => !high || decide (value.toNat < 256)
  | .frameReceive _ lanes _ => lanesOk lanes
  | .regionWindowWrite _ _ off data => decide (off < 0x1000000) && sizeOk data.length
  | .globalContention _ a b => a != b
  | .prbsCheckerLock _ _ rx => !rx.isEmpty
  | .bankViewWrite _ _ off data => decide (off < 0x2000) && sizeOk data.length
  | .tallyFeed _ _ data => sizeOk data.length
  | .coreAccessFault _ _ addr => decide (addr.toNat < 2 ^ 48)
  | .watchWindowWrite _ _ off data => decide (off < 0x2000000) && sizeOk data.length
  | .sensorRead r => r.hamlets.length == 8 && r.hamlets.all (fun h => h.length == 16) && r.green.length == 8 &&
    r.cellars.length == 4
  | .read _ f => frameOk f
  | .writeObject _ f => frameOk f
  | .broadcastWrite f => frameOk f
  | .assign _ f => frameOk f
  | .mread _ f => frameOk f
  | .mwrite _ f => frameOk f
  | .frameForward _ f => frameOk f
  | .ringFrameDiscard _ f => frameOk f
  | .bar0Access off acc => decide (off < 0x4000000) && hostSizeOk acc
  | .octetDataWrite _ off data => decide (off < 32) && sizeOk data.length
  | .bar2Access off acc => decide (off < 0x1000000000) && hostSizeOk acc
  | .registerWrite _ _ _ value => decide (1 ≤ value.length) && decide (value.length ≤ 32)
  | _ => true

end Sys2Proof
end

