-- ==== Sys2Proof/Safety.lean ====
section
/-!
DEFINITION. The terms in which claims about runs are made: a step that goes on, the canonical form of every
sparse table, and what is fixed in one device.
-/

namespace Sys2Proof.Machine

open Sys2Proof

/-- An access over `via` reaches the dictionary of a device that is awake in power state ACTIVE (R443, R447,
R470 to R474), with no test-port instruction driving its pins (R501). -/
def State.reachedBy (s : State) (via : Via) : Bool :=
  s.viaOpen via && s.dev != .standby && s.obj 0x2100 1 == 0 && !s.tapDriving

/-! ## Rows of the dictionary that hold what is written (R8, R10, R470) -/

/-- Object `i` sub `sub` is a highest value: RC restarts it from what stands now (R10). -/
def highestRow (i sub : Nat) : Bool :=
  (i == 0x2120 && sub == 0xF) || (i == 0x2400 && sub == 7) || (i == 0x5300 && sub == 4) ||
    (decide (0x3000 ≤ i ∧ i < 0x3800 ∧ 0x80 ≤ i % 0x100) && sub == 5) ||
    (decide (0x3800 ≤ i ∧ i < 0x3880) && sub == 9)

/-- RW rows of the object tables whose tables name no condition on the state: objects `index + k * stride` for `k`
below `count`, sub-indexes `lo` to `hi`, every value from `min` to `max` (and 0, where `zero`), of which the row holds
the low `bits` bits (R8). -/
structure StoredRow where
  index : Nat
  count : Nat
  stride : Nat
  lo : Nat
  hi : Nat
  min : Nat
  max : Nat
  zero : Bool
  bits : Nat
  deriving DecidableEq, Repr

/-- The row takes value `v` (R10). -/
def StoredRow.takes (r : StoredRow) (v : Nat) : Bool := (r.min ≤ v && v ≤ r.max) || (r.zero && v == 0)

/-- The rows of the ring, the root of trust and the power unit. -/
def storedRowsPower : List StoredRow := [
  ⟨0x1010, 1, 0x10, 0x6, 0x6, 0, 1, false, 8⟩,
  ⟨0x1100, 1, 0x10, 0x6, 0x6, 0, 2 ^ 256 - 1, false, 256⟩,
  ⟨0x1110, 1, 0x10, 0x1, 0x1, 0, 2 ^ 256 - 1, false, 256⟩,
  ⟨0x2100, 1, 0x10, 0x2, 0x2, 0, 4, false, 8⟩,
  ⟨0x2100, 1, 0x10, 0x3, 0x3, 0, 1, false, 8⟩,
  ⟨0x2100, 1, 0x10, 0x8, 0x8, 0, 2 ^ 32 - 1, false, 32⟩,
  ⟨0x2102, 1, 0x10, 0x1, 0x4, 0, 2 ^ 64 - 1, false, 33⟩,
  ⟨0x2111, 1, 0x10, 0x1, 0x1, 0, 1145, false, 16⟩,
  ⟨0x2120, 1, 0x10, 0xA, 0xA, 85, 105, false, 8⟩,
  ⟨0x2120, 1, 0x10, 0xB, 0xB, 80, 100, false, 8⟩,
  ⟨0x2121, 1, 0x10, 0x1, 0x7, 1, 2 ^ 16 - 1, false, 16⟩,
  ⟨0x2130, 1, 0x10, 0x1, 0x1, 0, 8760, false, 16⟩]

/-- The rows of the steeple, the store, the rota and the start. -/
def storedRowsTime : List StoredRow := [
  ⟨0x2201, 1, 0x10, 0x1, 0x4, 0, 255, false, 8⟩,
  ⟨0x2201, 1, 0x10, 0x6, 0x6, 0, 2 ^ 32 - 1, false, 32⟩,
  ⟨0x2202, 1, 0x10, 0x1, 0x1, 0, 2 ^ 32 - 1, false, 32⟩,
  ⟨0x2202, 1, 0x10, 0x2, 0x2, 0, 2 ^ 64 - 1, false, 64⟩,
  ⟨0x2220, 8, 0x1, 0x1, 0x1, 0, 3, false, 8⟩,
  ⟨0x2240, 32, 0x1, 0x1, 0x1, 0, 2 ^ 32 - 1, false, 32⟩,
  ⟨0x2300, 1, 0x10, 0x4, 0x4, 60, 2592000, true, 32⟩,
  ⟨0x2302, 1, 0x10, 0x1, 0x1, 1, 35, false, 8⟩,
  ⟨0x2302, 1, 0x10, 0x2, 0x2, 0, 2 ^ 32 - 1, false, 32⟩,
  ⟨0x2304, 1, 0x10, 0x1, 0x2, 0, 2 ^ 64 - 1, false, 64⟩,
  ⟨0x2304, 1, 0x10, 0x4, 0x4, 0, 2 ^ 32 - 1, false, 32⟩,
  ⟨0x2306, 1, 0x10, 0x1, 0x2, 1, 86400000, true, 32⟩,
  ⟨0x2307, 1, 0x10, 0x1, 0x1, 0, 2 ^ 32 - 1, false, 10⟩,
  ⟨0x2307, 1, 0x10, 0x2, 0x2, 0, 255, false, 8⟩,
  ⟨0x2401, 1, 0x10, 0x8, 0x8, 1, 2 ^ 16 - 1, false, 16⟩,
  ⟨0x2403, 1, 0x10, 0x1, 0x1, 0, 2 ^ 32 - 1, false, 32⟩,
  ⟨0x2403, 1, 0x10, 0x4, 0x4, 0, 2 ^ 64 - 1, false, 64⟩]

/-- The rows of the hamlets' cellars and of the ports and their lanes. -/
def storedRowsPort : List StoredRow := [
  ⟨0x3026, 8, 0x100, 0x1, 0x1, 1, 86400000, true, 32⟩,
  ⟨0x3027, 8, 0x100, 0x1, 0x1, 0, 2 ^ 64 - 1, false, 9⟩,
  ⟨0x4000, 32, 0x10, 0x4, 0x4, 0, 6, false, 8⟩,
  ⟨0x4003, 32, 0x10, 0x1, 0x1, 0, 1, false, 8⟩,
  ⟨0x4003, 32, 0x10, 0x2, 0x2, 0, 255, false, 8⟩,
  ⟨0x4003, 32, 0x10, 0x3, 0x3, 0, 2 ^ 16 - 1, false, 16⟩,
  ⟨0x4008, 32, 0x10, 0x8, 0x8, 20, 2 ^ 32 - 1, false, 32⟩,
  ⟨0x4008, 32, 0x10, 0x9, 0x9, 0, 319, false, 16⟩,
  ⟨0x4009, 32, 0x10, 0x8, 0x8, 20, 2 ^ 32 - 1, false, 32⟩,
  ⟨0x4009, 32, 0x10, 0x9, 0x9, 0, 319, false, 16⟩,
  ⟨0x400A, 32, 0x10, 0x8, 0x8, 20, 2 ^ 32 - 1, false, 32⟩,
  ⟨0x400A, 32, 0x10, 0x9, 0x9, 0, 319, false, 16⟩,
  ⟨0x400B, 32, 0x10, 0x8, 0x8, 20, 2 ^ 32 - 1, false, 32⟩,
  ⟨0x400B, 32, 0x10, 0x9, 0x9, 0, 319, false, 16⟩,
  ⟨0x400C, 32, 0x10, 0x8, 0x8, 20, 2 ^ 32 - 1, false, 32⟩,
  ⟨0x400C, 32, 0x10, 0x9, 0x9, 0, 319, false, 16⟩,
  ⟨0x400D, 32, 0x10, 0x8, 0x8, 20, 2 ^ 32 - 1, false, 32⟩,
  ⟨0x400D, 32, 0x10, 0x9, 0x9, 0, 319, false, 16⟩,
  ⟨0x400E, 32, 0x10, 0x8, 0x8, 20, 2 ^ 32 - 1, false, 32⟩,
  ⟨0x400E, 32, 0x10, 0x9, 0x9, 0, 319, false, 16⟩,
  ⟨0x400F, 32, 0x10, 0x8, 0x8, 20, 2 ^ 32 - 1, false, 32⟩,
  ⟨0x400F, 32, 0x10, 0x9, 0x9, 0, 319, false, 16⟩]

/-- The rows of the on-package network, the troughs, the verger and the watch. -/
def storedRowsNetwork : List StoredRow := [
  ⟨0x4800, 1, 0x10, 0x4, 0x4, 1024, 16777216, false, 32⟩,
  ⟨0x4801, 1, 0x10, 0x3, 0x3, 0, 2 ^ 64 - 1, false, 64⟩,
  ⟨0x4801, 1, 0x10, 0x4, 0x4, 0, 2 ^ 16 - 1, false, 10⟩,
  ⟨0x4803, 1, 0x10, 0x1, 0x1, 1024, 1151, false, 16⟩,
  ⟨0x4803, 1, 0x10, 0x3, 0x3, 0, 48, false, 8⟩,
  ⟨0x4804, 1, 0x10, 0x1, 0x1, 0, 16383, false, 16⟩,
  ⟨0x4805, 1, 0x10, 0x1, 0x1, 0, 2 ^ 16 - 1, false, 16⟩,
  ⟨0x4805, 1, 0x10, 0x2, 0x2, 0, 7, false, 8⟩,
  ⟨0x4805, 1, 0x10, 0x3, 0x3, 0, 255, false, 8⟩,
  ⟨0x4805, 1, 0x10, 0x4, 0x4, 0, 2 ^ 16 - 1, false, 16⟩,
  ⟨0x5100, 256, 0x1, 0x4, 0x4, 0, 2 ^ 64 - 1, false, 64⟩,
  ⟨0x5300, 1, 0x10, 0x8, 0x8, 1200, 1200000, false, 32⟩,
  ⟨0x5320, 1, 0x10, 0x3, 0x3, 0, 86400000, false, 32⟩,
  ⟨0x5320, 1, 0x10, 0x4, 0x4, 0, 255, false, 4⟩,
  ⟨0x6000, 1, 0x10, 0x34, 0x34, 100, 1000000, false, 32⟩]

/-- The RW rows of the object tables that hold every value of their range. -/
def storedRows : List StoredRow := storedRowsPower ++ storedRowsTime ++ storedRowsPort ++ storedRowsNetwork

/-! ## An access of an initiator (R172 to R177, R186) -/

/-- Initiator `init` has a response buffer for a request to target `t`, or gets one at once (R176, R177): it holds one
that no request uses; or it waits for none, holds fewer than four, and one is free for it. -/
def State.bufferAt (s : State) (t init cls : Nat) : Bool :=
  s.hasBuffer t init ||
    ((s.rsv t init).want == 0 && decide ((s.rsv t init).heldM + (s.rsv t init).heldTB < 4) &&
      ((s.askBuffers t init cls 1 (s.freshTag init) false).granted? t init).isSome)

/-- Nothing keeps a request of initiator `init` in class `cls` from target `t`: `init` is a packet initiator (R154)
with a tag that is free, none of its requests to the target waits, the target and the way to it are not shuttered
(R186), and it has a buffer. -/
def State.wayTo (s : State) (init cls t : Nat) : Bool :=
  packetInit init && !reservedInit init && !s.classHeld cls && !s.waitsFor t init && s.bufferAt t init cls &&
    !s.targetShut t && !s.pathShut init t &&
    !(s.opn.trans.any (fun o => o.init == init && o.tag == s.freshTag init))

/-- An access of `n` bytes by `init` in its class reaches place `p` and is served there: nothing keeps it from the
target, the place is listed (R13) and has power, and the size is one of R169. -/
def State.reaches (s : State) (init : Nat) (p : Place) (n : Nat) : Bool :=
  s.wayTo init (initClass init) p.target && s.listed n p && s.gate p == 0 && packetSize p.offset n

/-- The answer that initiator `init` has got last. -/
def State.answered (s : State) (init op : Nat) (data : List Byte) : Prop :=
  s.answer.asker.init = init ∧ s.answer.op = op ∧ s.answer.data = data

/-- `t` is `u` but for what carries an access of `init` to target `tgt` and its answer back: the entry of `init` at the
target (R176), its statistics (R184), the free values that stand for latencies, what tallies snoop of its data
(R326), and the answer. -/
def State.traffic (u t : State) (init tgt : Nat) : Prop :=
  t = { u with opn := { u.opn with rsvs := t.opn.rsvs, rsvOrder := t.opn.rsvOrder, samples := t.opn.samples },
               freeCtr := t.freeCtr, snooped := t.snooped, objs := t.objs, answer := t.answer } ∧
  (∀ k, k ≠ tgt * 2048 + init → Tbl.get .none t.opn.rsvs k = Tbl.get .none u.opn.rsvs k) ∧
  (∀ i sub, sub < 256 → i ≠ statObj init → t.obj i sub = u.obj i sub) ∧
  (∀ n, u.obj (yObj n) 6 ≠ init * 16 + 3 → Tbl.get [] t.snooped n = Tbl.get [] u.snooped n)

/-- `t` is `u` but for what the fabric settles to: the flip-flops that follow an asynchronous set/reset, and the
keepers (R285, R290). -/
def State.settled (u t : State) : Prop :=
  t = { u with hedge := { u.hedge with ff := t.hedge.ff, keepers := t.hedge.keepers } }

/-- A step goes on to a next state: no command of the block stops it. -/
def goesOn (s : State) : Prop := ∃ t, step s = .next t

/-- The memory's canonical form: addresses strictly rising, and no entry that an unlisted address reads as
(assumption log 5). -/
def State.memWf (s : State) : Bool := Memory.wf s.mem

/-- The error patterns' canonical form (R121). -/
def State.errsWf (s : State) : Bool := Tbl.wf (fun _ => (0 : BitVec 72)) s.errs

/-- The canonical form of the records of crofts. -/
def State.croftsWf (s : State) : Bool := Tbl.wf (fun _ => .blank) s.crofts

/-- The canonical form of the records of cellars. -/
def State.cellarsWf (s : State) : Bool := Tbl.wf (fun _ => .blank) s.cellars

/-- The canonical form of the records of the hedgerow's initiators. -/
def State.initsWf (s : State) : Bool := Tbl.wf (fun _ => .blank) s.hedge.inits

/-- Each of these tables is in its canonical form. -/
def State.canonical (s : State) : Bool := s.memWf && s.errsWf && s.croftsWf && s.cellarsWf && s.initsWf

/-- No packet flit travels in stroke `b`: none stands in the networks, none joins them, and the host has no access under
way. -/
def State.quiet (s : State) (b : StrokeIn) : Bool :=
  b.packets.isEmpty && s.opn.net.buffers.isEmpty && s.pcie.moves.isEmpty

/-- What a step of the block may not change by any command: the fuses, and the commands that wait
behind the one performed. -/
structure Fixed where
  fuse : Fuse
  pending : List Instr
  deriving DecidableEq, Repr

/-- The fixed part of a state. -/
def State.fixed (s : State) : Fixed := ⟨s.fuse, s.pending⟩

end Sys2Proof.Machine
end

