-- ==== Sys2Proof/Certificates/Slice0/Obligations.lean ====
section
/-!
DEFINITION. The statements for the provers. `exec` is a command's effect on everything but the queue. A
premise `s.reachedBy via` says that the access reaches the dictionary of an awake device in power state ACTIVE.
-/

open Sys2Proof Sys2Proof.Machine

/-! ## The block as a whole -/

/-- A step performs the command at the front of the queue on the rest. The model's choice of log 14: on an empty
queue the block idles. -/
def Obligations.StepIsTheFrontCommand : Prop :=
  (∀ (c : Instr) (rest : List Instr) (s : State),
     step { s with pending := c :: rest } = exec c { s with pending := rest }) ∧
  (∀ s : State, s.pending = [] → step s = .next s)

/-- Reset is the always-on domain leaving reset with VMAIN absent (R431, R432): device state STANDBY (0), power
state STANDBY (4), the stiles of the ring as they stand without a branch (R463), an empty queue, and every sparse table
empty, so that every one is canonical. Where it rests on a choice of the model: assumption log 15. -/
def Obligations.ResetIsStandby : Prop :=
  State.reset.dev = .standby ∧ State.reset.view 0x2000 0 = 0 ∧ State.reset.view 0x2100 1 = 4 ∧
  State.reset.pending = [] ∧ State.reset.phase = .idle ∧ State.reset.canonical = true ∧
  State.reset.mem = [] ∧ State.reset.errs = [] ∧ State.reset.crofts = [] ∧ State.reset.cellars = [] ∧
  State.reset.ports = [] ∧ State.reset.hedge.inits = [] ∧ State.reset.cores = [] ∧ State.reset.opn.net.buffers = [] ∧
  State.reset.branchClosed = true

/-- No command stops the block: each answers a next state from every state.
Where it rests on a choice of the model: assumption log 16. -/
def Obligations.EveryCommandGoesOn : Prop :=
  (∀ (c : Instr) (s : State), ∃ t, exec c s = .next t) ∧ ∀ s : State, goesOn s

/-- What a step never changes: the fuses of the device, and the commands behind the one performed. -/
def Obligations.FusesAndQueueKept : Prop :=
  ∀ s t : State, step s = .next t → t.fuse = s.fuse ∧ t.pending = s.pending.tail

/-- Every step keeps the one canonical form of the memory, of the error patterns of its words, and of the records of
crofts, cellars and the hedgerow's initiators. Where it rests on a choice of the model: assumption log 5. -/
def Obligations.MemoryStaysCanonical : Prop :=
  ∀ s t : State, step s = .next t →
    (s.memWf = true → t.memWf = true) ∧ (s.errsWf = true → t.errsWf = true) ∧
    (s.croftsWf = true → t.croftsWf = true) ∧ (s.cellarsWf = true → t.cellarsWf = true) ∧
    (s.initsWf = true → t.initsWf = true)

/-! ## The dictionary (R10, R470, R471) -/

/-- A write over the ring that fails check 2, 3, 4 or 5 of R470 has no side effect but its count (R471).
Where it rests on a choice of the model: assumption log 19. -/
def Obligations.RefusedWriteChangesNothing : Prop :=
  ∀ (index : BitVec 16) (sub : BitVec 8) (value : List Byte) (s : State),
    s.reachedBy .ring = true →
    (objSubs index.toNat = none →
      exec (.registerWrite .ring index sub value) s = .next (s.bump 0x1010 0xB)) ∧
    (∀ subs, objSubs index.toNat = some subs → findSub sub.toNat subs = none →
      exec (.registerWrite .ring index sub value) s = .next (s.bump 0x1010 0xB)) ∧
    (∀ row, objRow index.toNat sub.toNat = some row → row.acc = .ro ∨ row.acc = .rc →
      exec (.registerWrite .ring index sub value) s = .next (s.bump 0x1010 0xB)) ∧
    (∀ row, objRow index.toNat sub.toNat = some row → value.length ≠ row.size →
      exec (.registerWrite .ring index sub value) s = .next (s.bump 0x1010 0xB))

/-- What a read of an object gives and leaves (R10): WO reads zero, RO, RW, W1C and WS read the present value, and an
object that is RC reads its value and restarts: a counter from its default, a highest value from what stands now (the
write buffers, the pending writes of a cellar, the verger's queue, the temperatures); the wander of a lane is a free
value. A write of a W1C object clears each bit written as 1 and leaves each bit written as 0 (R10). A write of a row that
the object tables give as RW with no condition on the state takes every value of its range, without the bits that are
reserved (R8), and changes nothing else; any other value is refused with the invalid-value abort (R10, R470). A write by
BAR0 or the mirror is counted as a transaction. Where it rests on a choice of the model: assumption log 12, 19. -/
def Obligations.AccessCodes : Prop :=
  (∀ (s : State) (i sub : Nat) (row : SubRow), objRow i sub = some row → s.standbyRefuses i = false →
     ¬ (0x5200 ≤ i ∧ i < 0x5210) →
     (row.acc = .wo → s.dictRead i sub = .ok (s, 0)) ∧
     (row.acc = .ro ∨ row.acc = .rw ∨ row.acc = .w1c ∨ row.acc = .ws → s.dictRead i sub = .ok (s, s.view i sub)) ∧
     (row.acc = .rc → isWander i sub = false → highestRow i sub = false →
       s.dictRead i sub = .ok (s.setObj i sub (objDefault i sub), s.view i sub))) ∧
  (∀ s : State, s.dev ≠ .standby →
     s.dictRead 0x2400 7 =
       .ok (s.setObj 0x2400 7 ((s.crofts.map (fun e => e.2.wbuf.length)).foldl max 0), s.view 0x2400 7) ∧
     (∀ (h : Hamlet) (c : Croft), let i := kObj (h.val * 128 + c.val)
       s.dictRead i 5 = .ok (s.setObj i 5 (s.croft (h.val * 128 + c.val)).wbuf.length, s.view i 5)) ∧
     (∀ n : Cellar, s.dictRead (cObj n.val) 9 =
       .ok (s.setObj (cObj n.val) 9 (s.cellar n.val).pend.length, s.view (cObj n.val) 9)) ∧
     s.dictRead 0x5300 4 = .ok (s.setObj 0x5300 4 s.verger.queue.length, s.view 0x5300 4) ∧
     s.dictRead 0x2120 0xF = .ok (s.setObj 0x2120 0xF
     (i8 (((upFrom 1 9).map (fun j => s.objInt 0x2120 j 8) ++ s.power.stack.take 4).foldl max (-128))),
     s.view 0x2120 0xF)) ∧
  (∀ (via : Via) (index : BitVec 16) (sub : BitVec 8) (value : List Byte) (row : SubRow) (s : State),
     s.reachedBy via = true → objRow index.toNat sub.toNat = some row → row.acc = .w1c → value.length = row.size →
     exec (.registerWrite via index sub value) s =
       .next (s.viaAnswer via value.length (leNat value) (s.setObj index.toNat sub.toNat
         (s.obj index.toNat sub.toNat &&& (s.obj index.toNat sub.toNat ^^^ leNat value))))) ∧
  (∀ (r : StoredRow) (k sub : Nat) (via : Via) (value : List Byte) (s : State), r ∈ storedRows → k < r.count →
     r.lo ≤ sub → sub ≤ r.hi → s.reachedBy via = true → value.length = objBits (r.index + k * r.stride) sub / 8 →
     let i := r.index + k * r.stride
     let v := leNat value
     (r.takes v = true → exec (.registerWrite via (BitVec.ofNat 16 i) (BitVec.ofNat 8 sub) value) s =
       .next (s.viaAnswer via value.length v (s.setObj i sub (v % 2 ^ r.bits)))) ∧
     (r.takes v = false → exec (.registerWrite via (BitVec.ofNat 16 i) (BitVec.ofNat 8 sub) value) s =
       .next (s.viaAnswer via value.length v (s.viaRefused i sub abInvalid via))))

/-! ## The rota, the fallow and the start of a run (R40, R76 to R78, R245 to R252) -/

/-- A stroke of a rota, of a fallow and outside RUN (R40, R78): one stroke passes, and the last stroke of a rota
ends at its boundary, when no packet flit travels; with packet flits, the networks move first, and the stroke is that of
the state in which they leave the device (R168). The last stroke of a fallow is followed by stroke 0 of the rota that is
next (R78). Where it rests on a choice of the model: assumption log 16, 28, 29, 98, 112. -/
def Obligations.StrokesOfRotaAndFallow : Prop :=
  (∀ (b : StrokeIn) (s : State), s.clocked = true → s.quiet b = true →
     (∀ t, s.phase = .rota t → ∃ u, exec (.stroke b) s = .next u ∧ u.count = s.count + 1 ∧
       u.phase = (if t + 1 < s.rotaLen then .rota (t + 1) else .boundary)) ∧
     (s.phase = .idle → ∃ u, exec (.stroke b) s = .next u ∧ u.count = s.count + 1) ∧
     (∀ i f, s.phase = .fallow i f → i < f → ∃ u, exec (.stroke b) s = .next u ∧ u.count = s.count + 1 ∧
       u.phase = .fallow (i + 1) f)) ∧
  (∀ (b : StrokeIn) (s v : State), s.strokeRuns = true → (s.hostPump 128).netStroke b = v →
     (∀ t, v.phase = .rota t → ∃ u, exec (.stroke b) s = .next u ∧ u.count = v.count + 1 ∧
       u.phase = (if t + 1 < v.rotaLen then .rota (t + 1) else .boundary)) ∧
     (v.phase = .idle → ∃ u, exec (.stroke b) s = .next u ∧ u.count = v.count + 1)) ∧
  (∀ (s : State) (i f : Nat), s.dev = .run → s.phase = .fallow i f → f ≤ i →
     ∃ u, exec .fallowEnd s = .next u ∧ u.phase = .rota 0 ∧ u.rota = s.rota ∧ u.exec = s.exec + 1 ∧
       u.count = s.count ∧ u.dev = .run)

/-- A boundary decides (R77, R245): with no rota decided the next one runs; a CLEAR bell with no request commits its
rota and the next one runs; a FOUL bell with no request returns to the rota it names, after the replay fallow.
Where it rests on a choice of the model: assumption log 24, 26. -/
def Obligations.BoundaryDecides : Prop :=
  ∀ s : State, s.dev = .run → s.phase = .boundary → s.halts = [] →
    (s.judge = .none → ∃ u, exec .rotaBoundary s = .next u ∧ u.rota = s.rota + 1 ∧ u.exec = s.exec + 1 ∧
      u.phase = .rota 0 ∧ u.obj 0x2400 4 = s.obj 0x2400 4) ∧
    (∀ w, s.judge = .bell w 0x40 → ∃ u, exec .rotaBoundary s = .next u ∧ u.rota = s.rota + 1 ∧
      u.exec = s.exec + 1 ∧ u.phase = .rota 0 ∧ u.obj 0x2400 4 = satAdd 64 (s.obj 0x2400 4) 1 ∧
      u.obj 0x2401 7 = 0) ∧
    (∀ w, s.judge = .bell w 0x41 → satAdd 16 (s.obj 0x2401 7) 1 < s.obj 0x2401 8 → 0 < s.obj 0x2402 1 →
      ∃ u, exec .rotaBoundary s = .next u ∧ u.rota = w.rota ∧ u.phase = .fallow 0 (s.obj 0x2402 1) ∧
      u.obj 0x2400 4 = s.obj 0x2400 4 ∧ u.obj 0x2400 5 = satAdd 32 (s.obj 0x2400 5) 1 ∧ u.bell.windows = [])

/-- A lost bell moves the device to HALT with no verdict, and 0x2401.09 names the undecided rota (R249); a verdict
repair then decides it and names none (R249); that boundary clears what every boundary clears in a croft (R42, R77).
A host stop accepted in RUN charges FOUL to the execution that R511
and R246 name and sets STOP from it on; a pause request asks for one PAUSE fallow (R246, R247). Nothing else
changes. Where it rests on a choice of the model: assumption log 25, 26, 27. -/
def Obligations.LostBellsStopsAndPauses : Prop :=
  ((∀ (s : State) (w : Window), s.dev = .run → s.phase = .boundary → s.judge = .lost w →
     ∃ u, exec .bellLost s = .next u ∧ u.dev = .halt ∧ u.phase = .idle ∧ u.obj 0x2401 9 = w.rota ∧
       u.obj 0x2400 4 = s.obj 0x2400 4 ∧ u.rota = s.rota ∧ u.bell.lost = some w ∧ u.bell.windows = [] ∧
       u.crofts = s.clearCrofts.crofts) ∧
   (∀ (via : Via) (s : State) (w : Window), s.reachedBy via = true → s.bell.lost = some w →
     (∃ u, exec (.verdictRepair via 1) s = .next u ∧ u.rota = w.rota + s.lag + 1 ∧
       u.obj 0x2400 4 = satAdd 64 (s.obj 0x2400 4) 1 ∧ u.obj 0x2401 9 = 2 ^ 64 - 1 ∧ u.bell.lost = none) ∧
     (∃ u, exec (.verdictRepair via 2) s = .next u ∧ u.rota = w.rota ∧
       u.obj 0x2400 4 = s.obj 0x2400 4 ∧ u.obj 0x2401 9 = 2 ^ 64 - 1 ∧ u.bell.lost = none))) ∧
  (∀ (via : Via) (s : State), s.reachedBy via = true → s.dev = .run →
     (s.requestExec ∉ s.bell.fouls → s.bell.stop = none →
       exec (.stopCommand via) s = .next (s.rowAnswer via 0x2401 5 1 { s with bell :=
         { s.bell with fouls := s.bell.fouls ++ [s.requestExec], stop := some s.requestExec } })) ∧
     (s.requestExec ∈ s.bell.fouls → ∀ e, s.bell.stop = some e →
       exec (.stopCommand via) s = .next (s.rowAnswer via 0x2401 5 1 s)) ∧
     exec (.pauseCommand via) s = .next (s.rowAnswer via 0x2401 6 1 { s with bell :=
       { s.bell with pauses := s.bell.pauses ++ [⟨s.requestExec, none⟩] } }))

/-- Where BELL_LOCAL_MESSAGE, BELL_MESSAGE_RECEIVE, BELL_UP_SEND, BELL_ROOT_FORM and VERDICT_COPY_SEND complete, and
with what (R239 to R242): in every state in which the window stroke of the command is the next one of a window, and
the tree gives the port that role. The local message holds VALID, FOUL and the request bits, with the PAUSE request
that it carries; what a port's group gave is held, a valid message as it is, an invalid or missing one counted in
0x2401.0B; the up message and the root's bell are the OR of the local message and the children's; and a copy is the
verdict that the module holds, 0x00 when it holds none. Nothing else changes, and with no window at that stroke
nothing at all. Where it rests on a choice of the model: assumption log 16. -/
def Obligations.BellMessages : Prop :=
  (∀ (s : State) (w : Window), s.windowAt (s.obj 0x2401 1) = some w →
    exec .bellLocalMessage s = .next { s with bell := { s.bell with
      windows := mapWindow (s.obj 0x2401 1) (fun x => { x with localMsg := some (BitVec.ofNat 8
        (s.localByte w.exec + 32 * b2n (takePause w.exec s.bell.pauses).1)) }) s.bell.windows,
      pauses := (takePause w.exec s.bell.pauses).2,
      fouls := s.bell.fouls.filter (fun e => decide (w.exec < e)) } }) ∧
  (∀ (p : Port) (s : State) (w : Window), s.bellRole p.val = 2 → s.windowAt (s.bellUp p.val) = some w →
    let t := s.setWindows (mapWindow (s.bellUp p.val)
      (fun x => { x with ups := x.ups ++ [⟨p.val, s.bellUp p.val, s.bellByte p.val⟩] }) s.bell.windows)
    (∀ b, s.bellByte p.val = some b → bellValid b = true → exec (.bellMessageReceive p false) s = .next t) ∧
    (∀ b, s.bellByte p.val = some b → bellValid b = false →
      exec (.bellMessageReceive p false) s = .next (t.bump 0x2401 0xB)) ∧
    (s.bellByte p.val = none → exec (.bellMessageReceive p false) s = .next (t.bump 0x2401 0xB))) ∧
  (∀ (p : Port) (second : Bool) (s : State) (w : Window), s.bellRole p.val = 1 →
    s.windowAt (s.bellDown p.val second) = some w →
    let t := s.setWindows (mapWindow (s.bellDown p.val second)
      (fun x => { x with copies := x.copies ++ [⟨p.val, s.bellDown p.val second, s.bellByte p.val⟩] })
      s.bell.windows)
    (∀ b, s.bellByte p.val = some b → bellValid b = true → exec (.bellMessageReceive p second) s = .next t) ∧
    (∀ b, s.bellByte p.val = some b → bellValid b = false →
      exec (.bellMessageReceive p second) s = .next (t.bump 0x2401 0xB)) ∧
    (s.bellByte p.val = none → exec (.bellMessageReceive p second) s = .next (t.bump 0x2401 0xB))) ∧
  (∀ (s : State) (p : Nat) (w : Window), s.bellParent = some p → s.windowAt (s.bellUp p) = some w →
    exec .bellUpSend s = .next { s with bell := { s.bell with
      tx := Tbl.put p (s.gatherBell w (s.bellUp p - 3)) s.bell.tx } }) ∧
  (∀ (s : State) (w : Window), s.bellParent = none → s.windowAt s.bellForm = some w →
    exec .bellRootForm s = .next (s.setWindows (mapWindow s.bellForm
      (fun x => { x with bell := some (s.gatherBell w s.bellForm) }) s.bell.windows))) ∧
  (∀ (p : Port) (second : Bool) (s : State) (w : Window), s.bellRole p.val = 2 →
    s.windowAt (s.bellDown p.val second) = some w →
    (s.bellParent = none → exec (.verdictCopySend p second) s =
      .next { s with bell := { s.bell with tx := Tbl.put p.val (w.bell.getD 0) s.bell.tx } }) ∧
    (∀ q, s.bellParent = some q →
      let b := (firstValid (held (s.bellDown p.val second - 3) w.copies)).getD 0
      exec (.verdictCopySend p second) s = .next { s with bell := { s.bell with tx := Tbl.put p.val b s.bell.tx } })) ∧
  (∀ (p : Port) (second : Bool) (s : State), s.bell.windows = [] →
    exec .bellLocalMessage s = .next s ∧ exec (.bellMessageReceive p second) s = .next s ∧
    exec .bellUpSend s = .next s ∧ exec .bellRootForm s = .next s ∧ exec (.verdictCopySend p second) s = .next s)

/-- Alignment is armed for a time 1 ms to 4 s ahead while the steeple is locked, cancelled while armed, and reached
at the alignment time, where the stroke count restarts and every port trains (R251, R255). A start is armed in SET
or HOLD of an aligned module while ALLSET is high, cancelled while armed, missed where ALLSET is low when it is
sampled, and enters RUN at the start count, at stroke 0 (R252).
Where it rests on a choice of the model: assumption log 16. -/
def Obligations.AlignmentAndStartOfARun : Prop :=
  ((∀ (via : Via) (s : State), s.reachedBy via = true → s.dev ≠ .run → s.steepleLocked = true →
     1000000 ≤ pattern 32 ((s.obj 0x2403 1 : Int) - s.nowNs) →
     pattern 32 ((s.obj 0x2403 1 : Int) - s.nowNs) ≤ 4000000000 →
     exec (.alignmentArm via) s =
       .next (s.rowAnswer via 0x2403 2 1 ({ s with alignSpoiled := false }.setObj 0x2403 3 1))) ∧
   (∀ (via : Via) (s : State), s.reachedBy via = true →
     exec (.alignmentCancel via) s =
       .next (s.rowAnswer via 0x2403 2 2 (if s.obj 0x2403 3 = 1 then s.setObj 0x2403 3 0 else s))) ∧
   (∀ s : State, s.obj 0x2403 3 = 1 → s.alignDue = true → s.steepleLocked = true →
     s.alignSpoiled = false → ∃ u, exec .alignmentStep s = .next u ∧ u.count = 0 ∧ u.obj 0x2403 3 = 2 ∧
       ∀ p, p < 32 → u.portState p = (if s.portState p = 0 then 0 else 1)) ∧
   (∀ s : State, s.obj 0x2403 3 = 1 → s.alignDue = true →
     s.steepleLocked = false ∨ s.alignSpoiled = true → exec .alignmentStep s = .next (s.setObj 0x2403 3 3))) ∧
  ((∀ (via : Via) (s : State), s.reachedBy via = true → s.dev = .set ∨ s.dev = .hold → s.obj 0x2403 3 = 2 →
     s.allset.input = true → s.count + 65536 ≤ s.obj 0x2403 4 →
     exec (.startArm via) s = .next (s.rowAnswer via 0x2403 5 1 (s.setObj 0x2403 6 1))) ∧
   (∀ (via : Via) (s : State), s.reachedBy via = true →
     exec (.startCancel via) s =
       .next (s.rowAnswer via 0x2403 5 2 (if s.obj 0x2403 6 = 1 then s.setObj 0x2403 6 0 else s))) ∧
   (∀ s : State, s.obj 0x2403 6 = 1 → s.count + 4096 = s.obj 0x2403 4 →
     exec .startSample s = .next (if s.allset.input then s else s.setObj 0x2403 6 3)) ∧
   (∀ s : State, s.obj 0x2403 6 = 1 → s.count = s.obj 0x2403 4 →
     (s.dev = .set → ∃ u, exec .startRun s = .next u ∧ u.dev = .run ∧ u.phase = .rota 0 ∧ u.rota = 0 ∧
       u.obj 0x2403 6 = 2 ∧ u.obj 0x2400 4 = 0 ∧ u.count = s.count) ∧
     (s.dev = .hold → ∃ u, exec .startRun s = .next u ∧ u.dev = .run ∧ u.phase = .rota 0 ∧
       u.rota = s.obj 0x2400 4 ∧ u.obj 0x2403 6 = 2 ∧ u.count = s.count)))

/-! ## Crofts and larders (R99 to R119, R122, R141 to R148) -/

/-- A raise of a sheet that is DOWN takes the next rota as its raise rota, a lower of an UP_LOADABLE sheet whose
section was loaded takes this rota as its lower rota, and the swap that waits for that lower is fixed with it (R103,
R105, R106, R188). Nothing else changes. Where it rests on a choice of the model: assumption log 19. -/
def Obligations.SheetCommands : Prop :=
  ∀ (via : Via) (h : Hamlet) (c : Croft) (s : State), s.reachedBy via = true → s.dev = .run →
    let k := h.val * 128 + c.val
    let r := s.croft k
    (r.sheet = .down → exec (.sheetRaise via h c) s = .next (s.rowAnswer via (kObj k) 3 1
      (s.setCroft k { r with sheet := .raising, sheetRota := s.rota + 1, newSection := false }))) ∧
    (r.sheet = .upLoadable → r.newSection = true → s.opn.swapArmed = false →
      exec (.sheetLower via h c) s = .next (s.rowAnswer via (kObj k) 3 2 (s.setCroft k { r with
        sheet := .lowering, sheetRota := s.rota, firstRota := s.rota + 1, newSection := false }))) ∧
    (r.sheet = .upLoadable → r.newSection = true → s.opn.swapArmed = true → s.opn.swapLower = true →
      s.obj 0x4801 4 % 1024 = k → exec (.sheetLower via h c) s =
        .next (s.rowAnswer via (kObj k) 3 2 (({ s with
          crofts := Tbl.set .blank s.crofts k { r with
            sheet := .lowering, sheetRota := s.rota, firstRota := s.rota + 1, newSection := false },
          opn := { s.opn with swapRota := s.rota + 1, swapArmed := false } }).setObj 0x4801 2 2)))

/-- A write of the croft window above the larder (R99, R109, R110): an access that meets a reserved byte answers
ERROR_DECODE; dust-sheet bytes of a sheet that is DOWN are stored where the access names them; words and the
committed generation of a loadable croft read back as written, and every other byte of them as before; a write that
does not take effect is acknowledged. Nothing else changes but what carries the packet.
Where it rests on a choice of the model: assumption log 41. -/
def Obligations.CroftWindowWrites : Prop :=
  ∀ (init : Initiator) (h : Hamlet) (c : Croft) (off : Nat) (data : List Byte) (s : State),
    let k := h.val * 128 + c.val
    let i := init.val
    let n := data.length
    0x40000 ≤ off →
    (packetInit i = true → reservedInit i = false → s.croftRead k off n = none →
      ∃ t, exec (.croftWindowWrite init h c off data) s = .next t ∧ t.answered i opDecode [] ∧ s.traffic t i k) ∧
    (s.reaches i (.croft k off) n = true →
      (0x206000 ≤ off → (s.croft k).sheet = .down → data.any reservedMode = false →
        ∃ t, exec (.croftWindowWrite init h c off data) s = .next t ∧ t.answered i opAck [] ∧
          (s.setBytes (croftBase k + off) data).traffic t i k) ∧
      (0x206000 ≤ off ∧ ((s.croft k).sheet ≠ .down ∨ data.any reservedMode = true) ∨
          0x201000 ≤ off ∧ off < 0x206000 ∨ off < 0x201000 ∧ s.croftLoadable k = false →
        ∃ t, exec (.croftWindowWrite init h c off data) s = .next t ∧ t.answered i opAck [] ∧ s.traffic t i k) ∧
      (off + n ≤ 0x201000 → s.croftLoadable k = true →
        ∃ t, exec (.croftWindowWrite init h c off data) s = .next t ∧ t.answered i opAck [] ∧
          { s with crofts := t.crofts }.traffic t i k ∧ (∀ j, j ≠ k → t.croft j = s.croft j) ∧
          (∀ i, i < n → off + i < 0x200000 → (off + i) % 16 < 10 → t.croftByte k (off + i) = data[i]?) ∧
          (∀ i, i < n → 0x200000 ≤ off + i → ¬ (s.lag = 2 ∧ 48 ≤ (off + i) % 64) →
            t.croftByte k (off + i) = data[i]?) ∧
          (∀ o, o < off ∨ off + n ≤ o → ¬ (0x201000 ≤ o ∧ o < 0x202000) →
            t.croftByte k o = s.croftByte k o)))

/-- An access to the larder by a requester that is not a BP (R116 to R119, R141): a read or write that finds the cycle of
its bank idle takes it, a word in each cycle, and is answered with its last word; it answers ERROR_DECODE outside the
larder or in a size that R118 does not give, ERROR_NOT_POWERED where a bank is OFF or the croft has no power, and
SHUTTERED where its endpoint is shuttered (R186); where the cycle is not idle it waits. The timers of a larder bank
(R117, R141): a request that has waited 4,096 strokes is answered BUSY and counted; a bank in RETAIN that an access waits
for becomes awake; a woken bank returns to RETAIN. Where it rests on a choice of the model: assumption log 16, 41. -/
def Obligations.LarderAccessesAndTimers : Prop :=
  (∀ (init : Initiator) (h : Hamlet) (c : Croft) (off : Nat) (s : State),
     let k := h.val * 128 + c.val
     let i := init.val
     let base := croftBase k + off
     let p := Place.croft k off
     let free := fun n : Nat => larderSize n = true ∧ off + n ≤ 0x40000 ∧ s.bankModeNow k (off / 0x10000) = 2 ∧
       s.bankModeNow k ((off + n - 1) / 0x10000) = 2 ∧ (s.test h.val).running = false
     let idle := s.bankIdle k (off / 0x10000)
     let used := (s.croft k).used ||| (1#4 <<< (off / 0x10000))
     (∀ n, s.reaches i p n = true → free n → idle = true → (s.croft k).wbuf = [] → (∀ w, s.err w = 0) →
       (off % 8 + n ≤ 8 → ∃ t, exec (.nonBpLarderAccess init h c off (.read n)) s = .next t ∧
         t.answered i opData (s.bytes base n) ∧ (s.useBank k (off / 0x10000)).traffic t i k) ∧
       (8 < off % 8 + n → ∃ t w, exec (.nonBpLarderAccess init h c off (.read n)) s = .next t ∧
         t.croft k = { s.croft k with used := used, waiters := (s.croft k).waiters ++ [w] } ∧ w.asker.init = i ∧
         w.rank = rankOf i ∧ w.off = off + (8 - off % 8) ∧ w.left = n - (8 - off % 8) ∧
         w.got = s.bytes base (8 - off % 8) ∧ t.answer = s.answer ∧ t.mem = s.mem ∧
         (∀ j, j ≠ k → t.croft j = s.croft j))) ∧
     (∀ data : List Byte, s.reaches i p data.length = true → free data.length → idle = true → (s.croft k).snoop = [] →
       off % 8 + data.length ≤ 8 →
       ∃ t, exec (.nonBpLarderAccess init h c off (.write data)) s = .next t ∧ t.answered i opAck [] ∧
         (∀ j, j < data.length → some (t.byte (base + j)) = data[j]?) ∧
         (∀ a, a / 8 < base / 8 ∨ (base + data.length - 1) / 8 < a / 8 ∨
           ((a < base ∨ base + data.length ≤ a) ∧ s.err (a / 8) = 0) → t.byte a = s.byte a) ∧
         (∀ j, j ≠ k → t.croft j = s.croft j)) ∧
     (∀ acc : Access, packetInit i = true → reservedInit i = false → 0x40000 ≤ off →
       ∃ t, exec (.nonBpLarderAccess init h c off acc) s = .next t ∧ t.answered i opDecode [] ∧ s.traffic t i k) ∧
     (∀ n, s.wayTo i (initClass i) k = true → s.gate p = 0 → off < 0x40000 →
       larderSize n = false ∨ 0x40000 < off + n → ∃ t, exec (.nonBpLarderAccess init h c off (.read n)) s = .next t ∧
         t.answered i opDecode [] ∧ s.traffic t i k) ∧
     (∀ n, s.wayTo i (initClass i) k = true → off < 0x40000 →
       s.gate p ≠ 0 ∨ (s.gate p = 0 ∧ larderSize n = true ∧ off + n ≤ 0x40000 ∧ s.bankModeNow k (off / 0x10000) = 0) →
       larderSize n = true → ∃ t, exec (.nonBpLarderAccess init h c off (.read n)) s = .next t ∧
         t.answered i opNotPowered [] ∧ s.traffic t i k) ∧
     (∀ acc : Access, packetInit i = true → reservedInit i = false → s.classHeld (initClass i) = false →
       s.waitsFor k i = false → s.hasBuffer k i = false → s.targetShut k = true ∨ s.pathShut i k = true →
       off < 0x40000 → ∃ t, exec (.nonBpLarderAccess init h c off acc) s = .next t ∧
         t.answered i opShuttered [] ∧ (s.bump 0x4800 5).traffic t i k) ∧
     (∀ n, s.reaches i p n = true → free n → idle = false →
       ∃ t w, exec (.nonBpLarderAccess init h c off (.read n)) s = .next t ∧
         t.croft k = { s.croft k with waiters := (s.croft k).waiters ++ [w] } ∧ w.asker.init = i ∧
         w.rank = rankOf i ∧ w.write = false ∧ w.off = off ∧ w.left = n ∧ w.waited = 0 ∧ t.answer = s.answer ∧
         t.mem = s.mem ∧ (∀ j, j ≠ k → t.croft j = s.croft j))) ∧
  (∀ (h : Hamlet) (c : Croft) (bank : Fin 4) (s : State),
     let k := h.val * 128 + c.val
     (∀ w, (s.croft k).waiters.find? (fun x : Waiter => x.off / 0x10000 == bank.val && decide (4096 ≤ x.waited)) =
         some w →
       ∃ t, exec (.bankBusyTimeout h c bank) s = .next t ∧
         (t.croft k).waiters = (s.croft k).waiters.erase w ∧ t.mem = s.mem ∧
         t.obj (hObj h.val + 0x25) (c.val + 1) = satAdd 32 (s.obj (hObj h.val + 0x25) (c.val + 1)) 1 ∧
         (∀ o, w.scrub = false → w.asker.fate = .arrives → w.asker.via = none → reservedInit w.asker.init = false →
           s.opn.trans.find? (fun o => o.init == w.asker.init && o.tag == w.asker.tag) = some o →
           o.spoiled = false → ¬ (o.user = true ∧ w.asker.init < 1088) → t.answered w.asker.init opBusy [])) ∧
     (s.bankModeNow k bank.val = 1 → (s.croft k).held.any (fun e => e.1 == bank.val) = true →
       ∃ t, exec (.bankWake h c bank) s = .next t ∧ (t.croft k).woken.getLsbD bank.val = true) ∧
     exec (.bankRetainTimeout h c bank) s = .next (s.setCroft k
       { s.croft k with woken := (s.croft k).woken &&& ~~~(1#4 <<< bank.val) }))

/-- A scrub visit reads one stored word through its check bits (R122, R339, R424): a clean word stays, a corrected one
is rewritten with fresh check bits and counted, and one that cannot be corrected is counted and raises the event; a
visit to a larder takes an idle cycle of its bank, or waits for one (R116), and is a transaction of its hamlet's
maintenance engine (R190). The scrub of a frame (R425): a frame whose words are
clean stays; a corrected word is rewritten as it decodes; and a cared word that cannot be corrected stays as it is.
Where it rests on a choice of the model: assumption log 16. -/
def Obligations.ScrubsOfEveryStore : Prop :=
  ((∀ (h : Hamlet) (c : Croft) (word : Fin 32768) (s : State),
     let k := h.val * 128 + c.val
     let w := croftBase k / 8 + word.val
     s.bankModeNow k (word.val / 8192) = 2 → s.obj (hObj h.val + 0x26) 1 ≠ 0 → (s.test h.val).running = false →
     let v := s.useBank k (word.val / 8192)
     (s.bankIdle k (word.val / 8192) = false → exec (.larderScrubVisit h c word) s = .next (s.setCroft k { s.croft k with
       waiters := (s.croft k).waiters ++ [scrubWaiter k word.val] })) ∧
     (s.bankIdle k (word.val / 8192) = true →
     (∀ d, s.readEcc w = .clean d → exec (.larderScrubVisit h c word) s =
       .next (v.countAnswer (scrubAsker k) opData)) ∧
     (∀ d, s.readEcc w = .corrected d → exec (.larderScrubVisit h c word) s =
       .next (((v.writeWord w d).bump (hObj h.val + 0x23) (c.val + 1)).countAnswer (scrubAsker k) opData)) ∧
     (s.readEcc w = .bad → exec (.larderScrubVisit h c word) s =
       .next (((v.bump (hObj h.val + 0x24) (c.val + 1)).fire k 3).countAnswer (scrubAsker k) opUncorrectable)))) ∧
   (∀ (n : Cellar) (word : Fin 3221225472) (s : State),
     let w := n.val * cellarWords + word.val
     s.obj (cObj n.val) 1 = 2 →
     (∀ d, s.readEcc w = .clean d → exec (.cellarPatrolScrub n word) s = .next s) ∧
     (∀ d, s.readEcc w = .corrected d → exec (.cellarPatrolScrub n word) s =
       .next ((s.writeWord w d).bump (cObj n.val) 5)) ∧
     (s.readEcc w = .bad → exec (.cellarPatrolScrub n word) s =
       .next ((s.bump (cObj n.val) 6).fire (1064 + n.val) 0))) ∧
   (∀ (word : Fin 1048576) (s : State),
     let w := scratchBase / 8 + word.val
     s.granted 1145 = true → s.obj 0x5320 3 ≠ 0 → (s.test 8).running = false →
     (∀ d, s.readEcc w = .clean d → exec (.scratchpadScrubVisit word) s = .next s) ∧
     (∀ d, s.readEcc w = .corrected d → exec (.scratchpadScrubVisit word) s =
       .next ((s.writeWord w d).bump 0x5320 1)) ∧
     (s.readEcc w = .bad → exec (.scratchpadScrubVisit word) s = .next ((s.bump 0x5320 2).fire 1348 0))) ∧
   (∀ (h : Hamlet) (c : Croft) (b : Fin 64) (w : Fin 1024) (s : State),
     let k := h.val * 128 + c.val
     let r := s.croft k
     let place := k <<< 2 + b.val <<< 13 + w.val <<< 19
     r.mode = 1 ∨ r.mode = 2 → r.sheet = .down ∨ r.sheet = .raising → s.clocked = true → s.obj 0x2306 1 ≠ 0 →
     (s.wordCared k b.val w.val = true →
       (∀ d, decodeWord (r.word b.val w.val) = .clean d → exec (.instructionScrub h c b w) s = .next s) ∧
       (∀ d, decodeWord (r.word b.val w.val) = .corrected d → exec (.instructionScrub h c b w) s =
         .next ((((s.setCroft k (r.setWord b.val w.val (makeWord (BitVec.ofNat 72 d)))).bump 0x2306 3).setObj
           0x2306 6 place).fire 1358 3)) ∧
       (decodeWord (r.word b.val w.val) = .bad → exec (.instructionScrub h c b w) s =
         .next (((s.bump 0x2306 4).setObj 0x2306 6 (2 + place)).fire 1358 4))) ∧
     (s.wordCared k b.val w.val = false → r.word b.val w.val ≠ nopWord → exec (.instructionScrub h c b w) s =
       .next ((s.setCroft k (r.setWord b.val w.val nopWord)).bump 0x2306 5)))) ∧
  (∀ (r : Region) (f : Fin 4160) (s : State),
     let at' := fun w : Nat => hedgeBase r.val / 8 + 16 * f.val + w
     (s.region r.val).configured = true → (s.region r.val).sheet = .down ∨ (s.region r.val).sheet = .raising →
     s.obj 0x2306 2 ≠ 0 →
     ((∀ w, w < 16 → ∃ d, s.readEcc (at' w) = .clean d) → exec (.hedgerowScrub r f) s = .next s) ∧
     ∃ t, exec (.hedgerowScrub r f) s = .next t ∧
       (∀ w d, w < 16 → s.readEcc (at' w) = .corrected d → t.word (at' w) = d ∧ t.err (at' w) = 0) ∧
       (∀ w, w < 16 → s.readEcc (at' w) = .bad → s.frameCared r.val f.val = true →
         t.word (at' w) = s.word (at' w) ∧ t.err (at' w) = s.err (at' w)))

/-- A repair record that is accepted and can take effect joins the records in effect, and the words that it moves are
read through their check bits and rewritten as they decode; other content stays as it was (R143 to R145); the row
repairs in effect at a cellar read in its object (R149). A croft remap is taken for a croft that does nothing,
onto a physical croft that serves none, and completes with the sheet carried, the larder at zero and the new
physical croft serving it (R22, R423). Where it rests on a choice of the model: assumption log 37, 85. -/
def Obligations.RepairsAndRemap : Prop :=
  (∀ (via : Via) (rec : BitVec 64) (s : State), s.reachedBy via = true →
     repairAccepted s.fuse.repairs s.softRepairs rec = true → s.repairNow rec = true →
     (repairType rec = 0 → exec (.applyRepairRecord via rec) s = .next (s.rowAnswer via 0x3880 1 rec.toNat s)) ∧
     (repairType rec = 1 ∨ repairType rec = 2 → s.errs = [] → exec (.applyRepairRecord via rec) s =
       .next (s.rowAnswer via 0x3880 1 rec.toNat { s with softRepairs := s.softRepairs ++ [rec] })) ∧
     (repairType rec = 1 ∨ repairType rec = 2 → ∃ t, exec (.applyRepairRecord via rec) s = .next t ∧
       t.softRepairs = s.softRepairs ++ [rec] ∧ t.crofts = s.crofts ∧ t.cellars = s.cellars ∧
       (∀ a, s.err (a / 8) = 0 → t.byte a = s.byte a ∧ t.err (a / 8) = 0) ∧
       (∀ k w d, repairType rec = 1 → s.logicalCroft (bits rec.toNat 57 3) (bits rec.toNat 49 8) = some k →
         w < 8192 → s.readEcc (croftBase k / 8 + bits rec.toNat 47 2 * 8192 + w) = .corrected d →
         t.word (croftBase k / 8 + bits rec.toNat 47 2 * 8192 + w) = d ∧
           t.err (croftBase k / 8 + bits rec.toNat 47 2 * 8192 + w) = 0) ∧
       (∀ w d, repairType rec = 2 → inRow rec w = true → s.readEcc w = .corrected d → t.word w = d ∧ t.err w = 0) ∧
       ∀ n : Cellar, t.view (cObj n.val) 0xA = t.rowRepairs n.val)) ∧
  ((∀ (via : Via) (s : State),
     let k := s.obj 0x2307 1 % 1024
     let p := s.obj 0x2307 2
     s.reachedBy via = true → p ≤ 131 → s.dev = .prep ∨ s.dev = .set ∨ s.dev = .hold ∨ s.dev = .halt →
     (s.croft k).mode = 0 ∨ (s.croft k).sheet = .upLoadable → s.logicalCroft (k / 128) p = none →
     s.remap = none → exec (.croftRemap via) s =
       .next (s.rowAnswer via 0x2307 3 1 ({ s with remap := some (k, p) }.setObj 0x2307 4 1))) ∧
   (∀ (s : State) (k p : Nat), s.remap = some (k, p) → ∃ t, exec .remapComplete s = .next t ∧
     t.remap = none ∧ t.obj 0x2307 4 = 2 ∧ t.physCroft k = p ∧ (t.croft k).sheet = (s.croft k).sheet ∧
     (t.croft k).words = [] ∧ (∀ j, j ≠ k → t.croft j = s.croft j) ∧
     (∀ a, croftBase k ≤ a → a < croftBase k + 0x40000 → t.byte a = 0) ∧
     (∀ a, a < croftBase k ∨ croftBase k + 0x40000 ≤ a → t.byte a = s.byte a)))

/-- A background test starts on a bank that is ACTIVE and not in use, or on a scratchpad bank, with the words of its
first block saved, and reads running; a stop waits for its block (R146, R148, R339, R354). A block under test (R146
to R148): done, its words are back as saved and the test goes on to its next block, stops, or ends with its verdict,
and a mismatch is recorded; an access to the block makes it give way, at the fourth time for good; and it resumes
once no access has come for 1,024 cycles. A start while the test runs begins it anew.
Where it rests on a choice of the model: assumption log 16, 87. -/
def Obligations.BackgroundTests : Prop :=
  (∀ (via : Via) (s : State), s.reachedBy via = true →
     let begins := fun (k : Nat) (e : TestEng) (t : State) =>
       ((s.test k).running = false → t.test k =
           { e with saved := (upFrom 0 64).map (fun j => s.savedWord (testWord k e j)) } ∧
         (∀ j, j ≠ k → t.test j = s.test j) ∧ t.mem = s.mem ∧ t.errs = s.errs ∧ t.crofts = s.crofts) ∧
       (t.test k).running = true ∧ (t.test k).block = 0 ∧ (t.test k).unit = e.unit ∧
       t.obj (testStatusObj k).1 (testStatusObj k).2 = 1
     (∀ h : Hamlet,
       let o := hObj h.val + 0x27
       let k := h.val * 128 + s.obj o 1 % 128
       let b := bits (s.obj o 1) 7 2
       (s.bankModeNow k b = 2 → s.bankFree k b = true → ∃ t, exec (.larderTestStart via h) s = .next t ∧
         begins h.val { TestEng.rest with running := true, unit := s.obj o 1 % 128 * 4 + b } t) ∧
       ((s.test h.val).running = true → exec (.larderTestStop via h) s =
         .next (s.rowAnswer via o 2 2 (s.setTest h.val { s.test h.val with stopping := true })))) ∧
     (∃ t, exec (.scratchpadTestStart via) s = .next t ∧
       begins 8 { TestEng.rest with running := true, unit := s.obj 0x5320 4 % 16 } t) ∧
     ((s.test 8).running = true → exec (.scratchpadTestStop via) s =
       .next (s.rowAnswer via 0x5320 5 2 (s.setTest 8 { s.test 8 with stopping := true })))) ∧
  (∀ (u : TestUnit) (s : State),
     let k := testKey u
     let t := s.test k
     let o := testStatusObj k
     let saves := fun (e : TestEng) (v : State) =>
       { e with saved := (upFrom 0 64).map (fun j => v.savedWord (testWord k e j)) }
     t.running = true →
     (t.yielded = false → t.held = [] → ∀ found : List Mismatch, ∃ v, exec (.testBlockDone u found) s = .next v ∧
       (∀ j w e, j < 64 → t.saved[j]? = some (w, e) → v.word (testWord k t j) = w % 2 ^ 64 ∧
         v.err (testWord k t j) = e) ∧
       (∀ w, w ∉ s.testWords k → v.word w = s.word w ∧ v.err w = s.err w) ∧
       (t.stopping = true → v.test k = .rest ∧ v.obj o.1 o.2 = 0) ∧
       (t.stopping = false → t.block + 1 < blocksPerBank k → v.test k =
         saves { t with failed := t.failed || found != [], block := t.block + 1, yields := 0, yielded := false } v) ∧
       (t.stopping = false → blocksPerBank k ≤ t.block + 1 → v.test k = .rest ∧
         v.obj o.1 o.2 = (if found = [] then t.verdict else 3)) ∧
       (∀ m, found = [m] → v.obj (testResultObj k).1 (testResultObj k).2 = s.testRecord k m)) ∧
     (t.yielded = false → t.held ≠ [] →
       (t.yields + 1 ≠ 4 → ∃ v, exec (.testBlockYield u) s = .next v ∧
         v.test k = { t with held := [], yielded := true, yields := t.yields + 1 }) ∧
       (t.yields + 1 = 4 → t.stopping = false → t.block + 1 < blocksPerBank k →
         ∃ v, exec (.testBlockYield u) s = .next v ∧ (v.test k).block = t.block + 1 ∧
           (v.test k).skipped = t.skipped + 1)) ∧
     (t.yielded = true → ∃ v, exec (.testBlockResume u) s = .next v ∧ v.test k = saves { t with yielded := false } v ∧
       v.mem = s.mem ∧ v.errs = s.errs ∧ v.crofts = s.crofts))

/-! ## Cellars, upsets and croft remap (R121, R125 to R140, R423, R508) -/

/-- A request that has arrived whole is served once (R125 to R130): a read of a word that no write of the rota
touches logs the stored word for its return, and an X-mode read both words of its pair (R134); a write joins the
pending store and leaves the stack as it was; a request that R126 or R127 refuses is counted and its return lands as
zero; one whose OP nibble was absent is idle (R137). The return of a binding is put on the
green port and quad of its hand-off slot of the present stroke, and zeros where no request stands behind it, or only
one of before the lower of its requester's sheet (R128, R129, R136, R137). Where it rests on a choice of the model:
assumption log 8, 16, 88. -/
def Obligations.CellarTraffic : Prop :=
  (∀ (n : Cellar) (bi : Fin 4096) (s : State) (b : Binding),
     let c := s.cellar n.val
     let q := c.request bi.val b.xpair
     let land := s.rota + (b.rstroke + readLatency s.level s.strokeClock) / s.rotaLen
     let logs := fun (t : State) (w : Option Nat) (d k : Nat) => (t.cellar n.val).log = c.log ++
       [⟨bi.val, s.rota, b.rstroke, land, w, b.xpair, BitVec.ofNat 64 d, BitVec.ofNat 64 k⟩]
     c.bindings[bi.val]? = some b → c.ready.contains bi.val = true →
     (c.absent.contains bi.val = true → b.rd = true → ∃ t, exec (.cellarRequest n bi false) s = .next t ∧
       logs t none 0 0 ∧ t.mem = s.mem ∧ t.objs = s.objs ∧ (t.cellar n.val).pend = c.pend) ∧
     (c.absent.contains bi.val = false → q.known = true →
       (∀ d, b.xpair = false → q.op = 1 → b.rd = true → wordAllowed c.regions b.pch q.word = true → c.pend = [] →
         s.readEcc q.word = .clean d → ∃ t, exec (.cellarRequest n bi false) s = .next t ∧ t.mem = s.mem ∧
           (t.cellar n.val).ready = c.ready.erase bi.val ∧ logs t (some q.word) d (2 ^ 64 - 1)) ∧
       (∀ d k, b.xpair = true → q.op = 1 → b.rd = true → wordAllowed c.regions b.pch (2 * q.word) = true →
         wordAllowed c.regions b.pch (2 * q.word + 1) = true → c.pend = [] → s.readEcc (2 * q.word) = .clean d →
         s.readEcc (2 * q.word + 1) = .clean k → ∃ t, exec (.cellarRequest n bi false) s = .next t ∧
           t.mem = s.mem ∧ (t.cellar n.val).ready = c.ready.erase bi.val ∧ logs t (some (2 * q.word)) d k) ∧
       (∀ bad, b.xpair = false → q.op = 2 → b.wr = true → b.rd = false →
         wordAllowed c.regions b.pch q.word = true → c.pend = [] →
         ∃ t, exec (.cellarRequest n bi bad) s = .next t ∧ t.mem = s.mem ∧ (t.cellar n.val).pend =
             [⟨q.word, BitVec.allOnes 16, BitVec.ofNat 64 q.data, s.rota, b.rstroke, b.req, false⟩]) ∧
       (∀ bad, b.xpair = false → q.op ≠ 0 → b.rd = true → wordAllowed c.regions b.pch q.word = false →
         ∃ t, exec (.cellarRequest n bi bad) s = .next t ∧ t.mem = s.mem ∧ (t.cellar n.val).pend = c.pend ∧
           t.obj (cObj n.val) 8 = satAdd 32 (s.obj (cObj n.val) 8) 1 ∧ logs t none 0 0))) ∧
  (∀ (n : Cellar) (bi : Fin 4096) (s : State) (b : Binding) (e : CSlot) (t : Nat),
     let c := s.cellar n.val
     let r := c.log.find? (fun x => x.binding == bi.val && x.landRota == s.rota &&
       !(s.firstRotaOf b.req == s.rota && decide (x.reqRota < s.rota)))
     let old := (Tbl.get 0 s.opn.agentOut (e.gport * 4 + e.pquad)).toNat
     s.phase = .rota t → c.bindings[bi.val]? = some b → c.slots = [e] → e.bank = s.bankNow → e.dir = true →
     e.binding = bi.val → e.stroke = t →
     exec (.cellarReturn n bi) s = .next (s.handOff e.gport e.pquad
       (BitVec.ofNat 34 (fillQuad e.mask (returnNibble b.xpair r) e.first old (upFrom 0 8)))) ∧
     (r = none → ∀ x j, returnNibble x r j = 0))

/-- Temperature and refresh of a cellar (R139, R140): a reading and its band are recorded; a debt of 4 rounds asks
for REFRESH and one of 8 rings foul as well, each once; and a trained cellar reads ready with every word at zero
(R508). Where it rests on a choice of the model: assumption log 9, 16, 88. -/
def Obligations.CellarUpkeep : Prop :=
  ∀ (n : Cellar) (s : State),
    let i := cObj n.val
    let c := s.cellar n.val
    (∀ temp : Int, temp ≤ 105 → exec (.cellarTemperatureRead n temp) s =
      .next ((s.setObj i 2 (pattern 8 temp)).setObj i 3 (nextBand (s.obj i 3) temp))) ∧
    (∀ temp : Int, 105 < temp → exec (.cellarTemperatureRead n temp) s =
      .next (((s.setObj i 2 (pattern 8 temp)).setObj i 3 2).fire (1064 + n.val) 3)) ∧
    (s.dev = .run → 4 ≤ s.roundsOwed n.val → c.asked = false → s.bell.refresh = none →
      exec (.refreshFallowRequest n) s = .next { (s.setCellar n.val { c with asked := true }).bump i 4 with
        bell := { s.bell with refresh := some s.requestExec } }) ∧
    (c.asked = true → exec (.refreshFallowRequest n) s = .next s) ∧
    (c.forced = true → exec (.forcedRefresh n) s = .next s) ∧
    (s.dev = .run → 8 ≤ s.roundsOwed n.val → c.forced = false → s.bell.refresh = none →
      s.requestExec ∉ s.bell.fouls → exec (.forcedRefresh n) s =
        .next { (s.setCellar n.val { c with asked := true, forced := true }).bump i 4 with
          bell := { s.bell with refresh := some s.requestExec, fouls := s.bell.fouls ++ [s.requestExec] } }) ∧
    (s.obj i 1 = 1 → ∃ t, exec (.cellarReady n) s = .next t ∧ t.obj i 1 = 2 ∧
      (∀ a, n.val * cellarBytes ≤ a → a < (n.val + 1) * cellarBytes → t.byte a = 0 ∧ t.err (a / 8) = 0) ∧
      (∀ a, a < n.val * cellarBytes ∨ (n.val + 1) * cellarBytes ≤ a → t.byte a = s.byte a ∧
        t.err (a / 8) = s.err (a / 8)))

/-- An upset flips one stored bit and nothing else (R121, R424). One in a frame's words is met by the fabric at once
(R425): a region held in reset takes its INIT values as its frames now give them, the fabric settles, and nothing else
changes. Where it rests on a choice of the model: assumption log 3, 21. -/
def Obligations.UpsetFlipsOneBit : Prop :=
  ∀ s : State,
    (∀ (h : Hamlet) (c : Croft) (b : Fin 64) (w : Fin 1024) (bit : Fin 80),
      let k := h.val * 128 + c.val
      exec (.upset (.instruction h c b w bit)) s = .next (s.setCroft k ((s.croft k).setWord b.val w.val
        ((s.croft k).word b.val w.val ^^^ (1#80 <<< bit.val))))) ∧
    (∀ (h : Hamlet) (c : Croft) (w : Fin 32768) (bit : Fin 72),
      let a := croftBase (h.val * 128 + c.val) / 8 + w.val
      exec (.upset (.larder h c w bit)) s = .next (s.setErr a (s.err a ^^^ (1#72 <<< bit.val)))) ∧
    (∀ (n : Cellar) (w : Fin 3221225472) (bit : Fin 72),
      let a := n.val * cellarWords + w.val
      exec (.upset (.cellar n w bit)) s = .next (s.setErr a (s.err a ^^^ (1#72 <<< bit.val)))) ∧
    (∀ (w : Fin 1048576) (bit : Fin 72),
      let a := scratchBase / 8 + w.val
      exec (.upset (.scratchpad w bit)) s = .next (s.setErr a (s.err a ^^^ (1#72 <<< bit.val)))) ∧
    (∀ (r : Region) (f : Fin 4160) (w : Fin 16) (bit : Fin 72),
      let a := hedgeBase r.val / 8 + 16 * f.val + w.val
      let v := s.setErr a (s.err a ^^^ (1#72 <<< bit.val))
      exec (.upset (.frame r f w bit)) s = .next ((v.frameChanged r.val).freeNext) ∧
        (v.frameChanged r.val) = { v with hedge := { v.hedge with
          ff := (v.frameChanged r.val).hedge.ff, keepers := (v.frameChanged r.val).hedge.keepers,
          regions := (v.frameChanged r.val).hedge.regions } } ∧
        ((s.region r.val).inReset = false → v.settled (v.frameChanged r.val)))

/-! ## The on-package network (R169 to R189) -/

/-- Response buffers (R169, R173, R175 to R177): RSV opens its transaction and enters its want behind those before it, or
is answered SHUTTERED (R186); GRANT gives the first waiting entry its buffers, ends its transaction, counts its wait, and
leaves no access waiting that needed them; RELEASE returns unused ones, or is turned away where its target or its way is
shuttered. A flit whose parity fails is discarded, counted and reported; one with a reserved code, or that breaks the
rule of R177, an RSV of a number with no entry among them, is discarded and counted; one that its initiator holds back
(R175, R188) does not arrive. Where it rests on a choice of the model: assumption log 20, 41, 42, 89, 104. -/
def Obligations.ResponseBuffers : Prop :=
  (∀ (tgt : Target) (src : BitVec 11) (tag : BitVec 8) (ask : ReqAsk) (s : State),
     let t := targetKey tgt
     let f := requestFlit src tag (targetDest tgt) ask
     let i := f.src.toNat
     let r := s.rsv t i
     let n := f.size.toNat + 1
     let shut := s.targetShut t = true ∨ s.pathShut i t = true
     (reqGood f = false →
       exec (.rsv tgt src tag ask) s = .next ((s.bump 0x4800 2).fire (1024 + finder f.dest) 2) ∧
       exec (.release tgt (src, tag) ask) s = .next ((s.bump 0x4800 2).fire (1024 + finder f.dest) 2)) ∧
     (reqGood f = true → f.cls = 0 ∨ f.op = 0 ∨ 5 ≤ f.op.toNat →
       exec (.rsv tgt src tag ask) s = .next (s.bump 0x4800 3) ∧ exec (.release tgt (src, tag) ask) s = .next (s.bump 0x4800 3)) ∧
     (reqGood f = true → f.cls ≠ 0 → f.op = 1 → s.classHeld (f.cls.toNat - 1) = true ∨ s.tagRests i f.tag.toNat = true →
       exec (.rsv tgt src tag ask) s = .next s) ∧
     (reqGood f = true → f.cls ≠ 0 → f.op = 1 → s.classHeld (f.cls.toNat - 1) = false →
       s.tagRests i f.tag.toNat = false →
       let v := if packetInit i then s.openTrans (.ask i f.tag.toNat t) else s
       (shut → reservedInit i = false → ∃ u, exec (.rsv tgt src tag ask) s = .next u ∧ u.answered i opShuttered [] ∧
         u.obj 0x4800 5 = satAdd 32 (s.obj 0x4800 5) 1 ∧ u.opn = { s.opn with
           trans := s.opn.trans.filter (fun o => !(o.init == i && o.tag == f.tag.toNat)) } ∧ u.mem = s.mem) ∧
       (¬ shut → n ≤ 4 → packetInit i = true → r.want = 0 → r.heldM + r.heldTB + n ≤ 4 →
         exec (.rsv tgt src tag ask) s = .next { v with opn := { v.opn with
           rsvs := Tbl.set .none s.opn.rsvs (t * 2048 + i)
             { r with want := n, cls := f.cls.toNat - 1, order := s.opn.rsvOrder, tag := f.tag.toNat, net := false },
           rsvOrder := s.opn.rsvOrder + 1 } }) ∧
       (¬ shut → 4 < n ∨ packetInit i = false ∨ r.want ≠ 0 ∨ 4 < r.heldM + r.heldTB + n →
         exec (.rsv tgt src tag ask) s = .next (v.bump 0x4800 3))) ∧
     (reqGood f = true → f.cls ≠ 0 → f.op = 2 → s.classHeld (f.cls.toNat - 1) = true →
       exec (.release tgt (src, tag) ask) s = .next s) ∧
     (reqGood f = true → f.cls ≠ 0 → f.op = 2 → s.classHeld (f.cls.toNat - 1) = false →
       (shut → exec (.release tgt (src, tag) ask) s = .next (s.bump 0x4800 5)) ∧
       (¬ shut → n ≤ 4 → packetInit i = true → n ≤ r.heldM + r.heldTB - r.busy →
         exec (.release tgt (src, tag) ask) s = .next (s.setRsv t i { r with
           heldTB := r.heldTB - min n r.heldTB, heldM := r.heldM - (n - min n r.heldTB) })) ∧
       (¬ shut → 4 < n ∨ packetInit i = false ∨ r.heldM + r.heldTB - r.busy < n →
         exec (.release tgt (src, tag) ask) s = .next (s.bump 0x4800 3)))) ∧
  (∀ (tgt : Target) (init : Initiator) (way : GrantWay) (s : State) (o : Trans),
     let t := targetKey tgt
     let i := init.val
     let r := s.rsv t i
     let reserved := (targetPool t).2
     let others := (targetPool t).1 - (targetPool t).2
     let granted := fun x : Rsv => ((s.setRsv t i x).endTrans i r.tag).bump (0x4880 + (i - 1024)) 6 way.wait
     packetInit i = true → reservedInit i = false → s.greenOn = true → r.want ≠ 0 → r.net = false →
     way.fate.flips = [] → s.wayShut (targetNode t) (initNode i) = false →
     s.opn.trans.find? (fun x => x.init == i && x.tag == r.tag && x.kind == .rsv) = some o → o.tgt = t →
     s.opn.rsvs.all (fun e => e.1 / 2048 != t || e.2.want == 0 || e.1 % 2048 == i || r.before e.2) = true →
     (s.waitsFor t i = false →
       (r.cls = 0 → (s.poolsHeld t).1 + r.want ≤ reserved → exec (.grant tgt init way) s =
         .next (granted { r with heldM := r.heldM + r.want, want := 0 })) ∧
       (r.cls ≠ 0 ∨ reserved < (s.poolsHeld t).1 + r.want → (s.poolsHeld t).2 + r.want ≤ others →
         exec (.grant tgt init way) s = .next (granted { r with heldTB := r.heldTB + r.want, want := 0 })) ∧
       (r.cls ≠ 0 ∨ reserved < (s.poolsHeld t).1 + r.want → others < (s.poolsHeld t).2 + r.want →
         exec (.grant tgt init way) s = .next s)) ∧
     (∀ p off n, s.opn.parked = [p] → p.asker.home = t + 1 → p.asker.init = i → s.classHeld p.asker.cls = false →
       p.place = .config off → p.acc = .read n → r.busy ≤ r.heldM + r.heldTB →
       (s.poolsHeld t).2 + r.want ≤ others →
       ∃ u, exec (.grant tgt init way) s = .next u ∧ u.opn.parked = [] ∧ u.mem = s.mem))

/-- A READ packet that holds a response buffer is answered, and its buffer frees (R172, R176): with the stored bytes
of the configuration window or of a cellar, with the error of a place that has no power; an address that no
target lists is answered ERROR_DECODE (R171), one behind a shutter SHUTTERED (R186), and a request with no buffer is
discarded and counted (R176). Memory stays as it was. A WRITE packet that holds a response buffer is performed once
its request and all its beats are there, in either order, and acknowledged, and its buffer frees (R170, R172, R174,
R176): each enabled byte of a cellar holds the byte written and every other byte of memory is as it was; a line that a
core holds makes it wait (R178); until then it waits in part, and a beat whose CRC fails is discarded, counted and
reported (R173). Where it rests on a choice of the model: assumption log 20, 41, 42, 89. -/
def Obligations.PacketsReadAndWrite : Prop :=
  ∀ (src : BitVec 11) (tag : BitVec 8) (dest : BitVec 11) (ask : ReqAsk) (lat : Nat) (s : State),
    let f := requestFlit src tag dest ask
    let i := f.src.toNat
    let n := 2 ^ f.size.toNat
    let comes := packetInit i = true ∧ reservedInit i = false ∧ reqGood f = true ∧ f.cls ≠ 0 ∧ f.size ≠ 7 ∧
      s.classHeld (f.cls.toNat - 1) = false ∧ s.tagRests i f.tag.toNat = false ∧
      s.opn.trans.any (fun o => o.init == i && o.tag == f.tag.toNat) = false
    let clear := fun p : Place => s.listed n p = true ∧ s.targetShut p.target = false ∧
      s.pathShut i p.target = false ∧ s.hasBuffer p.target i = true ∧ s.waitsFor p.target i = false
    let freed := fun (t : State) (k : Nat) =>
      t.rsv k i = { (s.rsv k i).drop (f.cls.toNat - 1) with busy := (s.rsv k i).busy }
    (comes → f.op = 3 →
      (flitPlace f = none ∨ (∃ p, flitPlace f = some p ∧ s.listed n p = false) →
        ∃ t, exec (.packetRead src tag dest ask lat .arrives) s = .next t ∧ t.answered i opDecode [] ∧ s.traffic t i 0) ∧
      (∀ p, flitPlace f = some p → s.listed n p = true → s.targetShut p.target = true ∨ s.pathShut i p.target = true →
        ∃ t, exec (.packetRead src tag dest ask lat .arrives) s = .next t ∧ t.answered i opShuttered [] ∧ t.mem = s.mem ∧
          t.obj 0x4800 5 = satAdd 32 (s.obj 0x4800 5) 1) ∧
      (∀ p, flitPlace f = some p → s.listed n p = true → s.targetShut p.target = false →
        s.pathShut i p.target = false → s.hasBuffer p.target i = false →
        ∃ t, exec (.packetRead src tag dest ask lat .arrives) s = .next t ∧ t.obj 0x4800 3 = satAdd 32 (s.obj 0x4800 3) 1 ∧
          t.answer = s.answer ∧ t.mem = s.mem) ∧
      (∀ p, flitPlace f = some p → clear p →
        (s.gate p ≠ 0 → ∃ t, exec (.packetRead src tag dest ask lat .arrives) s = .next t ∧ t.answered i (s.gate p) [] ∧
          t.mem = s.mem ∧ freed t p.target) ∧
        (s.gate p = 0 → packetSize p.offset n = true →
          (∀ off, p = .config off → ∃ t, exec (.packetRead src tag dest ask lat .arrives) s = .next t ∧
            t.answered i opData (s.configBytes off n) ∧ s.traffic t i p.target ∧ freed t p.target) ∧
          (∀ a, p = .cellar a → a / cellarBytes = (a + n - 1) / cellarBytes → (∀ w, s.err w = 0) →
            ∃ t, exec (.packetRead src tag dest ask lat .arrives) s = .next t ∧ t.answered i opData (s.bytes a n) ∧
              s.traffic t i p.target ∧ freed t p.target)))) ∧
    (comes → f.op = 4 → s.opn.halves.any (Half.same i f.tag.toNat f.dest.toNat) = false →
      (flitPlace f = none ∨ (∃ p, flitPlace f = some p ∧ s.listed n p = false) →
        ∃ t, exec (.packetWrite src tag dest [.request ask] lat .arrives) s = .next t ∧ t.answered i opDecode [] ∧
          s.traffic t i 0) ∧
      (∀ p, flitPlace f = some p → clear p → ∃ t x, exec (.packetWrite src tag dest [.request ask] lat .arrives) s = .next t ∧
        t.opn.halves = s.opn.halves ++ [x] ∧ x.src = i ∧ x.tag = f.tag.toNat ∧ x.dest = nodeId f.dest.toNat ∧
        x.req.map (·.1) = some f ∧ x.beats = [] ∧ t.answer = s.answer ∧ t.mem = s.mem) ∧
      (∀ (a : Nat) (bs : List DataBeat) (flits : List WriteFlit),
        let k := 1024 + a / cellarBytes
        let ds := bs.map (dataFlit src tag dest)
        let data := (upFrom 0 n).map (fun j => beatByte a j ds)
        flitPlace f = some (.cellar a) → clear (.cellar a) → s.gate (.cellar a) = 0 → packetSize a n = true →
        a / cellarBytes = (a + n - 1) / cellarBytes → f.addr.toNat = a →
        (∀ d ∈ ds, dataGood d = true ∧ d.cls ≠ 0 ∧ d.kind = 0) →
        ds.map (fun d => d.beat.toNat) = upFrom 0 (beatCount a n) →
        flits = .request ask :: bs.map .data ∨ flits = bs.map .data ++ [.request ask] →
        (s.filterOf k = [] → ∃ t, exec (.packetWrite src tag dest flits lat .arrives) s = .next t ∧ t.answered i opAck [] ∧
          freed t k ∧ t.opn.halves = s.opn.halves ∧
          (∀ j b, data[j]? = some (b, true) → t.byte (a + j) = b) ∧
          (∀ j b, data[j]? = some (b, false) → s.err ((a + j) / 8) = 0 → t.byte (a + j) = s.byte (a + j)) ∧
          (∀ c, c < a ∨ a + n ≤ c → s.err (c / 8) = 0 → t.byte c = s.byte c)) ∧
        (holdersIn (s.filterOf k) (a % cellarBytes) n i ≠ [] →
          ∃ t h, exec (.packetWrite src tag dest flits lat .arrives) s = .next t ∧ t.mem = s.mem ∧
            t.heldWrites = s.heldWrites ++ [h] ∧ h.home = k ∧ h.addr = a % cellarBytes ∧ h.acc = .write data ∧
            h.waits = holdersIn (s.filterOf k) (a % cellarBytes) n i))) ∧
    (∀ b : DataBeat, dataGood (dataFlit src tag dest b) = false →
      exec (.packetWrite src tag dest [.data b] lat .arrives) s =
        .next ((s.bump 0x4800 2).fire (1024 + finder dest) 2)) ∧
    (reqGood f = false → exec (.packetRead src tag dest ask lat .arrives) s = .next ((s.bump 0x4800 2).fire (1024 + finder f.dest) 2))

/-- Lost flits and timeouts (R173, R175): a check error is counted and raises the event of the hamlet whose router finds
it, and leaves the transaction waiting, for good where its answer is the flit that was lost; a READ, WRITE or RSV that
has waited for the timeout ends as failed, which its user is told with the access that waited for the GRANT, its tag
rests, and one buffer is released; a write in part that has waited so long is discarded, and frees the buffer that its
request uses. Where it rests on a choice of the model: assumption log 16. -/
def Obligations.LostTransactions : Prop :=
  (∀ (h : Hamlet) (net : PacketNet) (tgt : Target) (init : Initiator) (tag : BitVec 8) (s : State),
    let mine := fun o : Trans => o.init == init.val && o.tag == tag.toNat
    let u := (s.bump 0x4800 2).fire (1024 + h.val) 2
    (s.opn.trans.any mine = false → exec (.packetCheckError h net tgt init tag) s =
      .next { u with opn := { s.opn with trans := s.opn.trans ++
        [⟨init.val, tag.toNat, targetKey tgt, 0, false, decide (net = .response), .access 0 2 false⟩] } }) ∧
    (s.opn.trans.any mine = true → exec (.packetCheckError h net tgt init tag) s =
      .next { u with opn := { s.opn with trans := s.opn.trans.map (fun o =>
        if net = .response ∧ mine o = true then { o with spoiled := true } else o) } })) ∧
  (∀ (init : Initiator) (tag : BitVec 8) (s : State),
    let i := init.val
    let found := s.opn.trans.find? (fun o => o.init == i && o.tag == tag.toNat && decide (s.obj 0x4800 4 ≤ o.waited))
    let others := s.opn.trans.filter (fun x => !(x.init == i && x.tag == tag.toNat))
    (found = none → exec (.transactionTimeout init tag) s = .next s) ∧
    (∀ o, found = some o → ∃ t, exec (.transactionTimeout init tag) s = .next t ∧ t.answered i 0xF [] ∧
      t.opn.retired = s.opn.retired ++ [{ o with waited := 0 }] ∧ t.mem = s.mem ∧
      (o.kind ≠ .rsv → t.opn.parked = s.opn.parked) ∧
      (∀ p, o.kind = .rsv → s.opn.parked = [p] → p.asker.home = o.tgt + 1 → p.asker.init = i → t.opn.parked = []) ∧
      (o.kind ≠ .rsv ∨ s.opn.parked.length ≤ 1 → t.opn.trans = others ∧
        (let r := s.rsv o.tgt i
         packetInit i = true → 1 ≤ r.heldM + r.heldTB - r.busy → t.rsv o.tgt i = { r with
           heldTB := r.heldTB - min 1 r.heldTB, heldM := r.heldM - (1 - min 1 r.heldTB) })))) ∧
  (∀ (tgt : Target) (init : Initiator) (s : State),
    let k := targetKey tgt
    let found := s.opn.halves.find? (fun x => x.src == init.val && decide (s.obj 0x4800 4 ≤ x.waited) &&
      (match x.req with
        | some r => r.2.home == k + 1
        | none => nodeId x.dest == targetNode k))
    (found = none → exec (.unmatchedWriteTimeout tgt init) s = .next s) ∧
    (∀ x, found = some x →
      let s1 := { s with opn := { s.opn with halves := s.opn.halves.erase x } }
      (x.req = none → exec (.unmatchedWriteTimeout tgt init) s = .next s1) ∧
      (∀ r, x.req = some r → s.waitsFor k r.2.init = false → exec (.unmatchedWriteTimeout tgt init) s =
        .next (s1.setRsv k r.2.init { (s.rsv k r.2.init).drop r.2.cls with busy := (s.rsv k r.2.init).busy - 1 }))))

/-- Coherence (R178, R179, R334): INVALIDATE takes the line out of both caches of the core; INV_ACK takes the core out of
the home's filter, and a write that waited for it alone is performed and acknowledged. A flit whose parity fails is
discarded, counted and reported; one with a reserved OP is discarded and counted, and one that names no home is
discarded; routers on the way that pass no traffic hold a message back (R32, R186). Where it rests on a choice of the
model: assumption log 43, 89, 104. -/
def Obligations.CoherenceMessages : Prop :=
  ∀ (op : BitVec 3) (core : BitVec 4) (line : SnoopLine) (s : State),
    let f := snoopFlit op core line
    let k := f.core.toNat
    (snoopGood f = false → exec (.invalidate op core line) s = .next ((s.bump 0x4800 2).fire 1024 2) ∧
      exec (.invAck op core line) s = .next ((s.bump 0x4800 2).fire (1024 + finder f.home) 2)) ∧
    (snoopGood f = true → f.op = 0 ∨ 3 ≤ f.op.toNat →
      exec (.invalidate op core line) s = .next (s.bump 0x4800 3) ∧ exec (.invAck op core line) s = .next (s.bump 0x4800 3)) ∧
    (snoopGood f = true → f.op = 1 ∨ f.op = 2 → flitHome f = none →
      exec (.invalidate op core line) s = .next s ∧ exec (.invAck op core line) s = .next s) ∧
    (∀ t, snoopGood f = true → flitHome f = some t →
      let at64 := homeBase t / 64 + f.line.toNat
      let e := (f.line.toNat, k)
      let s1 := s.setFilter t ((s.filterOf t).filter (· != e))
      (f.op = 1 → s.wayShut (targetNode t) 1024 = true → exec (.invalidate op core line) s = .next s) ∧
      (f.op = 2 → s.wayShut 1024 (targetNode t) = true → exec (.invAck op core line) s = .next s) ∧
      (f.op = 1 → s.wayShut (targetNode t) 1024 = false → exec (.invalidate op core line) s = .next (s.setCore k { s.core k with
        icache := Tbl.del at64 (s.core k).icache, dcache := Tbl.del at64 (s.core k).dcache,
        got := (s.core k).got.filter (fun x => !fillOf at64 x.1) })) ∧
      (f.op = 2 → s.coreHolds k at64 = true → exec (.invAck op core line) s = .next s) ∧
      (f.op = 2 → s.wayShut 1024 (targetNode t) = false → s.coreHolds k at64 = false →
        (s.heldWrites = [] → exec (.invAck op core line) s = .next s1) ∧
        (∀ h, s.heldWrites = [h] → h.home = t → h.waits.filter (· != e) ≠ [] → exec (.invAck op core line) s =
          .next { s1 with heldWrites := [{ h with waits := h.waits.filter (· != e) }] }) ∧
        (∀ h n data, s.heldWrites = [h] → t = 1024 + n → n < 4 → h.home = t → h.acc = .write data → h.waits = [e] →
          s.filterOf t = [e] → s.obj (cObj n) 1 = 2 → h.addr + data.length ≤ cellarBytes → data ≠ [] →
          ∃ u, exec (.invAck op core line) s = .next u ∧ u.heldWrites = [] ∧ u.filterOf t = [] ∧
            (∀ j b, data[j]? = some (b, true) → u.byte (n * cellarBytes + h.addr + j) = b) ∧
            (∀ o, h.asker.fate = .arrives → h.asker.via = none → reservedInit h.asker.init = false →
              s.opn.trans.find? (fun o => o.init == h.asker.init && o.tag == h.asker.tag) = some o →
              o.spoiled = false → o.user = false ∨ 1088 ≤ h.asker.init → u.answered h.asker.init opAck []))))

/-- Shutters (R185 to R187): SHUTTER starts the drain of an endpoint that nothing uses; the drain ends at completion or
after 2,048 strokes; UNSHUTTER waits for power, and opens once it is good. Slot-table swaps (R188): with a shadow bank
that is loaded, a swap is made at once in PREP, SET and HOLD, armed in RUN for a rota at least two ahead, or armed with
the next lower; it can be cancelled while armed; and it drains from the start of the rota before it. Where it rests on a
choice of the model (SHUTTER of an endpoint that is not OPEN and UNSHUTTER of one that is not shuttered change nothing):
assumption log 16, 90. -/
def Obligations.ShuttersAndTableSwaps : Prop :=
  let asksNone := fun s : State => s.opn.trans.all (fun o => o.kind != .rsv) = true
  ((∀ (via : Via) (s : State), s.reachedBy via = true →
     let e := s.obj 0x4804 1
     (endpointExists e = true → s.mayShutter e = true → s.shutState e = 0 → s.opn.treservations = [] →
       exec (.shutter via) s = .next (s.rowAnswer via 0x4804 2 1 (s.setShut e 1))) ∧
     (endpointExists e = true → s.mayShutter e = true → s.shutState e = 0 → ∃ t, exec (.shutter via) s = .next t ∧
       t.shutState e = 1 ∧ t.mem = s.mem ∧ t.opn.treservations = s.opn.treservations.filter (fun r =>
         ((packetPath (initNode r.init) r.node).find? (shutLink e)).isNone)) ∧
     (endpointExists e = true → s.mayShutter e = true → s.shutState e ≠ 0 → exec (.shutter via) s = .next (s.rowAnswer via 0x4804 2 1 s)) ∧
     (via = .ring → endpointExists e = false ∨ s.mayShutter e = false →
       exec (.shutter via) s = .next (s.bump 0x1010 0xB)) ∧
     (s.shutState e = 1 ∨ s.shutState e = 2 → ∃ t, exec (.unshutter via) s = .next t ∧ t.shutState e = 3 ∧
       t.mem = s.mem ∧ ∀ k i, endpointTarget e = some k → i < 2048 → t.rsv k i = .none) ∧
     (s.shutState e = 1 ∨ s.shutState e = 2 → s.opn.parked = [] → asksNone s → exec (.unshutter via) s =
       .next (s.rowAnswer via 0x4804 2 2 ((match endpointTarget e with
         | some t => s.clearRsvs t
         | none => s).setShut e 3))) ∧
     (s.shutState e ≠ 1 → s.shutState e ≠ 2 → exec (.unshutter via) s = .next (s.rowAnswer via 0x4804 2 2 s))) ∧
   (∀ (e : Endpoint) (s : State) (x : Shut),
     let code := endpointCode e
     s.opn.shuts.find? (fun y => y.endpoint == code) = some x → x.state = 1 →
     s.outstanding code = [] ∨ 2048 ≤ x.strokes →
     ∃ t, exec (.shutterDrainEnd e) s = .next t ∧ t.shutState code = 2 ∧ t.mem = s.mem ∧
       (s.opn.parked = [] → asksNone s → s.outstanding code = [] → t.objs = s.objs) ∧
       (∀ n, (s.outstanding code).length = n + 1 → t.obj 0x4804 4 = satAdd 32 (s.obj 0x4804 4) (n + 1)) ∧
       (∀ k i, endpointTarget code = some k → i < 2048 → t.rsv k i = .none ∧ t.halvesAt k = []) ∧
       (∀ h c, e = .croft h c → (t.croft code).waiters = [] ∧ (t.croft code).held = [])) ∧
   (∀ (e : Endpoint) (s : State),
     let code := endpointCode e
     s.shutState code = 3 → s.endpointGood code = true → exec (.unshutterOpen e) s =
       .next { s with opn := { s.opn with shuts := s.opn.shuts.filter (fun x => x.endpoint != code) } })) ∧
  ((∀ (via : Via) (s : State), s.reachedBy via = true →
     (s.obj 0x4801 2 = 0 → s.opn.shadowOk = true →
       (s.dev = .prep ∨ s.dev = .set ∨ s.dev = .hold →
         (s.opn.treservations = [] → exec (.swapArmAtRota via) s =
           .next (s.rowAnswer via 0x4801 5 1 { s with opn := { s.opn with active := 1 - s.opn.active, shadowOk := false } })) ∧
         ∃ t, exec (.swapArmAtRota via) s = .next t ∧ t.opn.active = 1 - s.opn.active ∧ t.opn.shadowOk = false ∧
           t.mem = s.mem ∧ ∀ r ∈ t.opn.treservations, r ∈ s.opn.treservations) ∧
       (s.dev = .run → s.rota + 2 ≤ s.obj 0x4801 3 → exec (.swapArmAtRota via) s =
         .next (s.rowAnswer via 0x4801 5 1 ({ s with opn := { s.opn with
           swapRota := s.obj 0x4801 3, swapArmed := true, swapLower := false } }.setObj 0x4801 2 1))) ∧
       exec (.swapArmWithLower via) s =
         .next (s.rowAnswer via 0x4801 5 2 ({ s with opn := { s.opn with swapArmed := true, swapLower := true } }.setObj 0x4801 2 1))) ∧
     (s.obj 0x4801 2 = 1 → exec (.swapCancel via) s =
       .next (s.rowAnswer via 0x4801 5 3 ({ s with opn := { s.opn with swapArmed := false, swapLower := false } }.setObj 0x4801 2 0)))) ∧
   (∀ s : State, s.obj 0x4801 2 = 1 → s.opn.swapLower = false → s.phase = .rota 0 → s.rota + 1 = s.opn.swapRota →
     exec .swapDrainStart s = .next ({ s with opn := { s.opn with swapArmed := false } }.setObj 0x4801 2 2)))

/-- The table and reservation objects (R182, R184, R189): a T reservation whose path has the open strokes is in force,
one whose path has not is refused, and one is removed; an entry of the shadow bank is replaced, its reserved bits at
zero; and the counters of an initiator return to their defaults. Where it rests on a choice of the model (the node and
entry that are selected modulo 1,024; the links of the path that the hub's output to a green port is): assumption log 44,
92, 98, 103. -/
def Obligations.NetworkObjects : Prop :=
  ∀ (via : Via) (s : State), s.reachedBy via = true →
    (let r : TRsv := ⟨s.obj 0x4803 1, s.obj 0x4803 2, s.obj 0x4803 3⟩
     let mine := fun x : TRsv => x.init == r.init && x.node == r.node
     let base := { s with opn := { s.opn with treservations := s.opn.treservations.filter (fun x => !mine x) } }
     let fits := fun l : Nat × Nat => decide (base.linkBudget l + r.budget ≤ base.fewestOpen s.bankNow l.1 l.2)
     ((packetPath (initNode r.init) r.node).all fits = true → exec (.tApply via) s =
       .next (s.rowAnswer via 0x4803 4 1 ({ s with opn := { s.opn with
         treservations := s.opn.treservations.filter (fun x => !mine x) ++ [r],
         revoked := s.opn.revoked.filter (fun x => !mine x) } }.setObj 0x4803 5 0))) ∧
     ((packetPath (initNode r.init) r.node).all fits = false → exec (.tApply via) s =
       .next (s.rowAnswer via 0x4803 4 1 (s.setObj 0x4803 5 2))) ∧
     exec (.tRemove via) s = .next (s.rowAnswer via 0x4803 4 2 ({ s with opn := { s.opn with
       treservations := s.opn.treservations.filter (fun x => !mine x),
       revoked := s.opn.revoked.filter (fun x => !mine x) } }.setObj 0x4803 5 0))) ∧
    (∀ value : BitVec 64, s.obj 0x4805 3 = 1 → s.obj 0x4801 2 = 0 →
      let n := s.obj 0x4805 1 % 1024
      let t := s.obj 0x4805 4 % 1024
      let b := 1 - s.bankNow
      let o := s.opn
      (s.obj 0x4805 2 < 6 → exec (.tableEntryWrite via false value) s = .next (s.rowAnswer via 0x4805 5 value.toNat { s with opn := { o with
        routes := Tbl.set routeNone o.routes (routeKey b t n (s.obj 0x4805 2))
          (value.setWidth 24 &&& routeMask) } })) ∧
      (s.obj 0x4805 2 = 6 → exec (.tableEntryWrite via false value) s = .next (s.rowAnswer via 0x4805 5 value.toNat { s with opn := { o with
        injects := Tbl.set 0 o.injects (tableKey b t n) (value.setWidth 24) } })) ∧
      (s.obj 0x4805 2 = 7 → exec (.tableEntryWrite via true value) s = .next (s.rowAnswer via 0x4805 6 (value.toNat % 256) { s with opn := { o with
        ejects := Tbl.set 0 o.ejects (tableKey b t n)
          ((value.setWidth 8 ++ (Tbl.get 0 o.ejects (tableKey b t n)).setWidth 64) &&& ejectMask) } }))) ∧
    (∀ init : Fin 128, ∃ t, exec (.statisticsClear via init) s = .next (s.rowAnswer via (0x4880 + init.val) 0x18 1 t) ∧
      t = { s with objs := t.objs, opn := { s.opn with
        samples := s.opn.samples.filter (fun e => e.1 != 1024 + init.val) } } ∧
      (∀ sub, 1 ≤ sub → sub ≤ 0x17 → t.obj (0x4880 + init.val) sub = objDefault (0x4880 + init.val) sub) ∧
      (∀ j sub, sub < 256 → j ≠ 0x4880 + init.val → t.obj j sub = s.obj j sub))

/-! ## Franel ports (R191 to R236) -/

/-- Bring-up of a lane and a port (R210 to R213): a lane passes from CDR over BLOCK to FRAME, and is ALIGNED as the
logical lane that it found or is the spare; a port whose lanes are ready and whose partner agrees is TRAINED where
the skew fits, records the skew in any case, and counts good frames until it may report itself UP.
Where it rests on a choice of the model (a skew above 255 is recorded as 255): assumption log 16, 108. -/
def Obligations.BringUp : Prop :=
  ∀ (p : Port) (s : State),
    let n := p.val
    (∀ l : Lane,
      let o := pObj n + 8 + l.val
      let lane := fun st role : Nat => ((s.setObj o 1 st).setObj o 2 role).setObj o 0xC 1
      (s.laneState n l.val = 1 → exec (.laneCdrLock p l) s = .next (lane 2 0xFF)) ∧
      (∀ ok, s.laneState n l.val = 2 → exec (.laneBlockLock p l ok) s = .next (lane (if ok then 3 else 1) 0xFF)) ∧
      (∀ ln spare, s.laneState n l.val = 3 →
        exec (.laneFrameAlign p l false ln spare) s = .next (lane 2 0xFF) ∧
        exec (.laneFrameAlign p l true ln false) s = .next ((lane 4 ln.val).setPort n { s.port n with
          scrimRun := Tbl.del l.val (s.port n).scrimRun, failed := Tbl.del l.val (s.port n).failed }) ∧
        ∃ t, exec (.laneFrameAlign p l true ln true) s = .next t ∧ t.laneState n l.val = 5 ∧
          (t.port n).goodSpare = 0 ∧
          t.obj (pObj n) 6 = (if s.obj (pObj n) 6 = 2 ∧ bitAt (s.obj (pObj n) 0xC) l.val = false then 1
            else s.obj (pObj n) 6))) ∧
    (∀ skew, s.portState n = 1 →
      (activeLanes (s.portMode n)).all (fun ln =>
        ((upFrom 0 8).filter (fun l => s.laneState n l == 4 && s.laneRole n l == ln)).length == 1) = true →
      (skew ≤ 8 → (s.port n).partner.seen = true → (s.port n).partner.mode = s.portMode n →
        ∃ t, exec (.portTrained p skew) s = .next t ∧ t.portState n = 2 ∧
        t.obj (pObj n + 2) 7 = skew ∧ t.obj (pObj n) 0xA = 0) ∧
      (skew ≤ 8 → (s.port n).partner.seen = false ∨ (s.port n).partner.mode ≠ s.portMode n →
        exec (.portTrained p skew) s = .next (s.setObj (pObj n + 2) 7 skew)) ∧
      (8 < skew → exec (.portTrained p skew) s =
        .next ((s.setObj (pObj n + 2) 7 (min skew 255)).fire (1032 + n) 3))) ∧
    (s.portState n = 2 → 1024 ≤ s.obj (pObj n) 0xA →
      exec (.goodFrameCount p) s = .next (s.setPort n { s.port n with rxUp := true }))

/-- A port frame (R211, R217, R218, R224, R227): in an UP port the groups of a frame whose delivery has not passed are
held for it under its tag; in a port that trains a good frame counts towards bring-up and a bad one restarts the
count, and a trained port that loses a lane trains again. The messages of a link (R203, R204, R211, R213, R214):
LINK_STATUS names the partner, lets a port that has counted its frames be UP from its next frame, and sends an UP port
of another mode back to training; one with a reserved code is discarded and counted; PACE_PROBE keeps the greatest
need of the frames measured while both ends are locked to one master, and a measure command starts over. The lanes of a
port that is OFF change nothing while none is aligned. Where it rests on a choice of the model: assumption log 30, 31, 32,
35, 97, 108. -/
def Obligations.PortFramesAndMessages : Prop :=
  (∀ (p : Port) (lanes : List LaneFrame) (ready : Nat) (s : State),
     let n := p.val
     let s0 := s.swapArrives n lanes
     let vs := (activeLanes (s.portMode n)).map (s0.viewLane n lanes)
     let tag := frameTag vs (s.port n).lastTag
     let counted := if s0.portFrameGood n vs tag then satAdd 32 (s.obj (pObj n) 0xA) 1 else 0
     ((s.port n).swap = none → s0 = s) ∧
     (s.portState n = 0 → (∀ l, l < 8 → s.laneState n l ≠ 4 ∧ s.laneState n l ≠ 5) →
       exec (.frameReceive p lanes ready) s = .next s) ∧
     (s.portMode n ≠ 0 → (∀ x, getAt none vs 0 = some x → x.ctype = 0) →
     (s.portUp n = true → s.obj (pObj n + 1) 1 ≠ 0 → s.frameInTime n tag = true →
       (∀ v ∈ vs, ∀ x, v = some x → x.type ≠ 3) → ∃ t h, exec (.frameReceive p lanes ready) s = .next t ∧
         (t.port n).frames = Tbl.put tag h (s.port n).frames ∧ (t.port n).lastTag = tag ∧
         h.groups = (upFrom 0 16).map (heldGroup vs) ∧ h.ready = ready ∧ t.mem = s.mem) ∧
     (s.portState n = 1 ∨ s.portState n = 2 → ∃ t, exec (.frameReceive p lanes ready) s = .next t ∧
       (t.port n).lastTag = tag ∧
       (s.portState n = 1 → t.portState n = 1 ∧ t.obj (pObj n) 0xA = counted) ∧
       (s.portState n = 2 → (t.portState n = 2 ∧ t.obj (pObj n) 0xA = counted) ∨
         (t.portState n = 1 ∧ t.obj (pObj n) 0xA = 0 ∧
           ∃ l, l < 8 ∧ s0.laneState n l = 4 ∧ t.laneState n l ≠ 4))))) ∧
  ((∀ (p : Port) (msg : BitVec 112) (s : State),
     let n := p.val
     let m := msg.toNat
     bits m 57 2 = 1 ∨ bits m 57 2 = 2 → bitAt m 55 = false → s.portState n ≠ 0 →
     ∃ t, exec (.linkStatus p msg) s = .next t ∧
       t.obj (pObj n) 7 = bits m 64 48 + bits m 59 5 <<< 48 ∧ t.obj (pObj n) 8 = bits m 44 8 ∧
       (t.port n).partner = ⟨true, bits m 57 2, bitAt m 56⟩ ∧
       (s.portState n = 2 → t.portState n = 2) ∧
       (s.portState n = 2 → (s.port n).rxUp = true → bitAt m 56 = true → (t.frameStart n).portState n = 3) ∧
       (s.portState n = 3 → bits m 57 2 ≠ s.portMode n → t.portState n = 1) ∧
       (s.portState n = 3 → bits m 57 2 = s.portMode n → t.portState n = 3)) ∧
   (∀ (p : Port) (msg : BitVec 112) (s : State), s.portState p.val ≠ 0 →
     bits msg.toNat 57 2 = 0 ∨ bits msg.toNat 57 2 = 3 ∨ (bitAt msg.toNat 55 = true ∧ bits msg.toNat 52 3 = 7) →
     exec (.linkStatus p msg) s = .next (s.bump (pObj p.val + 2) 4)) ∧
   (∀ (p : Port) (msg : BitVec 112) (lastReady : BitVec 64) (s : State),
     let measured := (s.portState p.val = 2 ∨ (s.port p.val).measuring ≠ 0) ∧ s.portLocked p.val = true
     (measured → exec (.paceProbe p msg lastReady) s = .next (s.setPort p.val { s.port p.val with
       worst := some (max (paceNeeded s.strokeClock (bits msg.toNat 48 64) lastReady.toNat).toNat
         ((s.port p.val).worst.getD 0)) })) ∧
     (¬ measured → exec (.paceProbe p msg lastReady) s = .next s)) ∧
   (∀ (via : Via) (p : Port) (s : State), s.reachedBy via = true →
     exec (.measureCommand via p) s =
       .next (s.rowAnswer via (pObj p.val + 1) 6 1 (s.setPort p.val { s.port p.val with measuring := 1024, worst := none }))))

/-- The port commands (R211, R230, R231): retrain enters TRAINING where the port may run and OFF where it may not; take
down turns the port OFF, while its lanes go on as R210 lets them (OFF only where absent, where the port cannot run its
mode, or without power, and in PRBS under a test mode); a lane swap starts in a port whose spare stands ready, and is
refused in any other; and readmit forgets the swaps that bar a lane. Where it rests on a choice of the model (the PRBS
lane of a port that is OFF): assumption log 19, 79. -/
def Obligations.PortCommands : Prop :=
  ∀ (via : Via) (p : Port) (s : State), s.reachedBy via = true →
    let n := p.val
    let again := s.setPort n { s.port n with takenDown := false }
    (s.store.reload.contains n = false → ∃ t, exec (.retrain via p) s = .next t ∧
      (t.port n).takenDown = false ∧ t.portState n = (if again.portMayRun n then 1 else 0)) ∧
    (∃ t, exec (.takeDown via p) s = .next t ∧ (t.port n).takenDown = true ∧ t.portState n = 0 ∧
      ∀ l, l < 8 →
        let rest := if s.granted (1064 + n) = false ∨ s.portWired n = false ∨
          (s.port n).absent.getLsbD l = true then 0 else if s.obj (pObj n + 8 + l) 3 = 0 then 1 else 7
        t.laneState n l = (if rest = 0 ∨ s.laneState n l = 0 then rest else s.laneState n l)) ∧
    (via = .ring → s.obj (pObj n) 6 ≠ 1 ∨ s.portState n = 4 →
      exec (.swapLaneCommand via p) s = .next (s.bump 0x1010 0xB)) ∧
    (s.obj (pObj n) 6 = 1 → s.portState n ≠ 4 → ∃ t, exec (.swapLaneCommand via p) s = .next t ∧
      (t.port n).swap = some (.of (s.obj (pObj n) 4) none) ∧
      t.portState n = (if s.portState n = 3 then 4 else s.portState n) ∧
      (s.dev = .run → t.bell.swap = some (s.bell.swap.getD s.requestExec)) ∧
      (s.dev ≠ .run → t.bell = s.bell)) ∧
    exec (.readmit via p) s =
      .next (s.rowAnswer via (pObj p.val) 3 4 ((s.setPort n { s.port n with swapOuts := [] }).setObj (pObj n) 0xC 0))

/-- Lane loss and swaps (R210, R227 to R230): a lost ALIGNED lane of an UP port is counted and goes back to CDR, the port
starts a swap onto its spare or is DEGRADED without one, and in RUN the rota rings foul; the swap frame exchanges the
lane and the spare at both ends, in RUN at its tag and outside RUN at the first frame on the spare that passes, is seeded
with the lost lane's number and is no SPARE frame; a swap whose four frames have passed in time brings the port back to
UP, one with a frame that failed or that is late degrades it, and neither happens before; and a spare that has been good
for 1,024 frames stands ready again. Test modes and injection (R232 to R234): a test mode is taken where R233 leaves it
open, and takes the lane out of service; the checker counts the bits it checks and the errors it finds; and an injected
error inverts the bit that its position names, once, or from interval to interval until it is stopped. Where it rests on
a choice of the model (the test mode of a port that is OFF among them): assumption log 33, 34, 79, 108. -/
def Obligations.LaneSwapsAndTests : Prop :=
  (∀ (p : Port) (s : State),
     let n := p.val
     (∀ l : Lane, s.laneState n l.val = 4 → s.portState n = 3 →
       ∃ t, exec (.laneLost p l) s = .next t ∧ t.laneState n l.val = 1 ∧
         t.obj (pObj n + 2) 5 = satAdd 32 (s.obj (pObj n + 2) 5) 1 ∧
         t.portState n = (if (s.rxSpare n).isSome ∧ s.obj (pObj n) 6 = 1 then 4 else 5) ∧
         (s.dev = .run → s.requestExec ∈ t.bell.fouls)) ∧
     (∀ l : Lane, s.laneState n l.val = 5 → exec (.laneLost p l) s = .next (
       let o := pObj n + 8 + l.val
       let s1 := ((s.setObj o 1 1).setObj o 2 0xFF).setObj o 0xC 1
       if s.obj (pObj n) 6 = 1 then s1.setObj (pObj n) 6 2 else s1)) ∧
     (∀ w : SwapRec, (s.port n).out.swap = some w → w.done = false → w.frame = some (s.count / 16 % 4096) →
       let m := (s.port n).out.map.toNat
       exec (.swapFrame p true) s = .next (s.setPort n { s.port n with out := { (s.port n).out with
         map := BitVec.ofNat 32 (putBits (putBits m (3 * w.lane) 3 (bits m 21 3)) 21 3 (bits m (3 * w.lane) 3)),
         swap := some { w with done := true } } })) ∧
     (∀ (w : SwapRec) (sp : Nat), (s.port n).swap = some w → w.done = false → s.rxSpare n = some sp →
       bits (s.obj (pObj n) 5) (3 * w.lane) 3 ≠ sp →
       (s.dev = .run → w.frame = some (((s.port n).lastTag + 1) % 4096) →
         ∃ t, exec (.swapFrame p false) s = .next t ∧ t.laneState n sp = 4 ∧ t.laneRole n sp = w.lane ∧
           t.obj (pObj n) 6 = 3 ∧ (t.port n).swap = some { w with done := true } ∧
           (t.port n).lost = (s.port n).lost.filter (fun x => x != w.lane)) ∧
       (s.dev = .run → w.frame ≠ some (((s.port n).lastTag + 1) % 4096) →
         exec (.swapFrame p false) s = .next s) ∧
       (s.dev ≠ .run → exec (.swapFrame p false) s = .next s ∧
         ∀ (lanes : List LaneFrame) (ui : Nat), s.laneUi n lanes sp = some ui →
           let v := viewFrame w.lane ui
           let t := s.swapArrives n lanes
           (v.fails = false → v.type ≠ 12 → t.laneState n sp = 4 ∧ t.laneRole n sp = w.lane ∧ t.obj (pObj n) 6 = 3 ∧
             (t.port n).swap = some { w with frame := some v.tag, done := true }) ∧
           (v.fails = true ∨ v.type = 12 → t = s))) ∧
     (∀ w : SwapRec, (s.port n).swap = some w →
       (s.swapProven w = true → ∃ t, exec (.swapVerify p true) s = .next t ∧ (t.port n).swap = none ∧
         t.obj (pObj n) 0xB = satAdd 32 (s.obj (pObj n) 0xB) 1 ∧
         t.portState n = (if s.portState n = 4 then 3 else s.portState n)) ∧
       (s.swapProven w = false → exec (.swapVerify p true) s = .next s) ∧
       (w.failed = true ∨ s.swapLate w = true → ∃ t, exec (.swapVerify p false) s = .next t ∧ (t.port n).swap = none ∧
         t.portState n = (if s.portState n = 4 then 5 else s.portState n)) ∧
       (w.failed = false → s.swapLate w = false → exec (.swapVerify p false) s = .next s)) ∧
     (s.obj (pObj n) 6 = 3 → (s.rxSpare n).isSome = true → 1024 ≤ (s.port n).goodSpare →
       exec (.spareRegained p) s = .next (s.setObj (pObj n) 6 1))) ∧
  (∀ (p : Port) (l : Lane) (s : State),
     let n := p.val
     let o := pObj n + 8 + l.val
     let r := s.port n
     let out := r.out
     let framed := s.obj o 3 = 0
     let pos := s.obj o 9
     let left := Tbl.get 0 out.periodic l.val
     (∀ (via : Via) (mode : BitVec 8), s.reachedBy via = true → mode.toNat ≤ 4 → s.testModeOpen n = true →
       let rest := if s.granted (1064 + n) = false ∨ s.portWired n = false ∨
         r.absent.getLsbD l.val = true then 0 else if mode.toNat = 0 then 1 else 7
       (mode.toNat = s.obj o 3 → exec (.laneTestModeWrite via p l mode) s = .next (s.rowAnswer via (lObj p.val l.val) 3 mode.toNat s)) ∧
       (mode.toNat ≠ s.obj o 3 → ∃ t, exec (.laneTestModeWrite via p l mode) s = .next t ∧
         t.obj o 3 = mode.toNat ∧ t.obj o 4 = (if rest = 7 then 1 else 0) ∧ t.laneState n l.val = rest)) ∧
     (∀ mode : BitVec 8, s.reachedBy .ring = true → 4 < mode.toNat ∨ s.testModeOpen n = false →
       exec (.laneTestModeWrite .ring p l mode) s = .next (s.bump 0x1010 0xB)) ∧
     (∀ rx, s.obj o 3 ≠ 0 → s.laneState n l.val = 7 →
       let c := Checker.run (s.obj o 3)
         (if s.laneInverts n l.val 19 then rx.map (fun b => !b) else rx) (Tbl.get .seeking r.checkers l.val)
       exec (.prbsCheckerLock p l rx) s =
         .next ((((s.setPort n { r with checkers := Tbl.set .seeking r.checkers l.val c.1 }).setObj o 4
           (if c.1.locked then 2 else 1)).bump o 5 c.2.1).bump o 6 c.2.2)) ∧
     (∀ via : Via, s.reachedBy via = true →
       (framed → exec (.injectSingle via p l) s = .next (s.rowAnswer via (lObj p.val l.val) 7 1 (s.setPort n { r with out := { out with
         invertNext := Tbl.set 0 out.invertNext l.val
           (Tbl.get 0 out.invertNext l.val ^^^ (1#320 <<< pos)) } }))) ∧
       (¬ framed → exec (.injectSingle via p l) s = .next (s.rowAnswer via (lObj p.val l.val) 7 1 (s.setPort n { r with out := { out with
         invertPrbs := Tbl.set 0 out.invertPrbs l.val (Tbl.get 0 out.invertPrbs l.val ^^^ 1#20) } }))) ∧
       exec (.injectStartPeriodic via p l) s = .next (s.rowAnswer via (lObj p.val l.val) 7 2 (s.setPort n { r with out := { out with
         periodic := Tbl.set 0 out.periodic l.val (if framed then 321 + pos else 1) } })) ∧
       exec (.injectStop via p l) s = .next (s.rowAnswer via (lObj p.val l.val) 7 3 (s.setPort n { r with out := { out with
         periodic := Tbl.del l.val out.periodic } }))) ∧
     (left ≠ 0 → framed → left ≤ 320 → exec (.injectIntervalExpiry p l) s = .next (s.setPort n { r with
       out := { out with
         invertNow := Tbl.set 0 out.invertNow l.val (Tbl.get 0 out.invertNow l.val ^^^ (1#320 <<< (left - 1))),
         periodic := Tbl.set 0 out.periodic l.val (left + s.obj o 8) } })) ∧
     (left ≠ 0 → ¬ framed → left ≤ 20 → exec (.injectIntervalExpiry p l) s = .next (s.setPort n { r with
       out := { out with
         invertPrbs := Tbl.set 0 out.invertPrbs l.val (Tbl.get 0 out.invertPrbs l.val ^^^ (1#20 <<< (left - 1))),
         periodic := Tbl.set 0 out.periodic l.val (left + s.obj o 8) } })))

/-! ## The hedgerow and its banks (R283 to R306, R425) -/

/-- Region sheets and the objects of the fabric (R291, R292, R302, R306): a raise takes the next rota as its raise
rota; a lower whose frames pass their checks takes this rota and joins its lines again; and a line, a peephole
channel and the settings of a PLL take the value written where their chapter allows it. A write of region frames
(R8, R304): it is stored with reserved bits at zero and fresh check bits in PREP, SET or an UP_LOADABLE region, only
acknowledged elsewhere, and answered ERROR_DECODE outside the frames. A capture edge of a clock line that runs (R285,
R288, R300): every flip-flop of the region on that line and edge takes its next value, those on another line or edge
keep theirs, and the pins are sampled; a cell with an asynchronous set/reset follows it at once and is not named here;
without an edge only the pins change.
Where it rests on a choice of the model: assumption log 41, 46, 47, 94. -/
def Obligations.FabricObjectsAndFrames : Prop :=
  (∀ (via : Via) (s : State), s.reachedBy via = true →
     (∀ r : Region, s.dev = .run →
       let x := s.region r.val
       (x.sheet = .down → exec (.regionRaise via r) s =
         .next (s.rowAnswer via (0x5010 + r.val) 2 1 (s.setRegion r.val { x with sheet := .raising, sheetRota := s.rota + 1 }))) ∧
       (x.sheet = .upLoadable → s.regionFail r.val = none → ∃ t, exec (.regionLower via r) s =
           .next (s.rowAnswer via (0x5010 + r.val) 2 2 t) ∧
         t = { s with hedge := t.hedge, objs := t.objs } ∧
         t.region r.val = { x with sheet := .lowering, sheetRota := s.rota, configured := true } ∧
         (∀ q, q ≠ r.val → t.region q = s.region q) ∧
         (∀ e, e ∈ t.hedge.offLines ↔ (e ∈ s.hedge.offLines ∧ r.val ∉ e.2 ∧
           e.1 ∉ (drivenLines (s.frames r.val) (s.cells r.val)).map (·.1))) ∧
         (∀ m i, m < 8 → slotOwner (s.frames r.val) m = some i → (t.hinit i).firstRota = s.rota + 1) ∧
         t.obj (0x5020 + r.val) 1 = t.bankState r.val ∧
         (∀ i sub, i ≠ 0x5020 + r.val → sub < 256 → t.obj i sub = s.obj i sub))) ∧
     (∀ line : BitVec 16, line.toNat < 4096 →
       ((s.lineDrivers line.toNat).length < 2 → ∃ t, exec (.reEnableLine via line) s =
           .next (s.rowAnswer via 0x5000 3 line.toNat t) ∧
         { s with hedge := { s.hedge with
           offLines := s.hedge.offLines.filter (fun x => x.1 != line.toNat) } }.settled t) ∧
       (via = .ring → 2 ≤ (s.lineDrivers line.toNat).length →
         exec (.reEnableLine via line) s = .next (s.bump 0x1010 0xB))) ∧
     (∀ (r : Region) (k : Fin 64) (sel : BitVec 16),
       selectorOk (fun m => (s.region r.val).configured && slotOwned (s.frames r.val) m) (sel.toNat % 2 ^ 14) = true →
       exec (.peepholeWrite via r k sel) s = .next (s.rowAnswer via (0x5040 + r.val) (k.val + 1) sel.toNat (s.setObj (0x5040 + r.val) (k.val + 1) (sel.toNat % 2 ^ 14)))) ∧
     (∀ (j : Fin 4) (value : BitVec 32),
       let m := bits value.toNat 0 7
       let n := if bits value.toNat 7 3 = 0 then 8 else bits value.toNat 7 3
       let o := bits value.toNat 10 6
       8 ≤ m → m ≤ 120 → 1 ≤ o → 800 * n ≤ 100 * m → 100 * m ≤ 1600 * n → 10 * n * o ≤ 100 * m →
       100 * m ≤ 500 * n * o → s.pllUsed j.val = false → exec (.pllSettingsWrite via j value) s =
         .next (s.rowAnswer via 0x5001 (j.val + 1) value.toNat ((s.setObj 0x5001 (j.val + 1) (value.toNat % 2 ^ 17)).setObj 0x5001 5
           (s.obj 0x5001 5 &&& (15 ^^^ (1 <<< j.val))))))) ∧
  (∀ (init : Initiator) (r : Region) (off : Nat) (data : List Byte) (s : State),
     let base := hedgeBase r.val + off
     let i := init.val
     let n := data.length
     (packetInit i = true → reservedInit i = false → 532480 < off + n →
       ∃ t, exec (.regionWindowWrite init r off data) s = .next t ∧ t.answered i opDecode [] ∧ s.traffic t i 1032) ∧
     (s.reaches i (.hedge r.val off) n = true →
       (s.regionLoadable r.val = false → ∃ t, exec (.regionWindowWrite init r off data) s = .next t ∧
         t.answered i opAck [] ∧ s.traffic t i 1032) ∧
       (s.regionLoadable r.val = true → ∃ t, exec (.regionWindowWrite init r off data) s = .next t ∧
         t.answered i opAck [] ∧ t.crofts = s.crofts ∧ t.cellars = s.cellars ∧
         (∀ j, j < n → some (t.byte (base + j)) = data[j]?.map (fun b =>
             b &&& BitVec.ofNat 8 (frameMask ((off + j) / 8) >>> (8 * ((off + j) % 8)))) ∧
           t.err ((base + j) / 8) = 0) ∧
         (∀ a, (a < base ∨ base + n ≤ a) → s.err (a / 8) = 0 → t.byte a = s.byte a)))) ∧
  (∀ (r : Region) (line : Fin 8) (rising : Bool) (pins : BitVec 40) (s : State),
     let n := r.val
     let s0 := s.setRegion n { s.region n with pins := pins }
     let byte := clockSource (s.frames n) line.val
     let src := byte % 16
     let edge := (src = 1 ∧ rising = false) ∨ (2 ≤ src ∧ src < 6 ∧ bitAt (s.obj 0x5001 5) (src - 2) = true) ∨
       ((src = 6 ∨ src = 7) ∧ s.bankActive (byte / 16) = true)
     ((s.region n).running = true → edge →
       ∃ t, exec (.hedgerowClockEdge r line rising pins) s = .next t ∧ (t.region n).pins = pins ∧ t.mem = s.mem ∧
         t.objs = s.objs ∧ ∀ k d, k ∈ s.cells n → d < 2 →
           let c := cellRec (s.frames n) k
           bitAt c 75 = false →
           t.ffAt n k d = (if bits c 69 3 = line.val ∧ edgeTakes rising (bitAt c 72) = true then s0.ffNext n k c d
             else s.ffAt n k d)) ∧
     ((s.region n).running = false ∨ ¬ edge →
       ∃ t, exec (.hedgerowClockEdge r line rising pins) s = .next t ∧ s0.settled t))

/-- The rota port (R293, R297, R298): at the end of a tick each owned slot shows the tick, the rota, no commit pulse
and the receive data that it addresses, and a write to its transmit registers lands; the pulse of a decided rota is
shown once, with the data that it commits; and a packet of an initiator is sent, ends with the code and data of its
answer, and waits on where the answer is lost. Supplies and contention (R291, R301): a supply sample gives the bank its
state; a contended line is forced off, counted and named.
Where it rests on a choice of the model: assumption log 41, 45, 94. -/
def Obligations.RotaPortAndBanks : Prop :=
  ((∀ (s : State) (r m i : Nat), (r, m, i) ∈ s.ownedSlots → (∀ e ∈ s.ownedSlots, e.2.2 = i → e = (r, m, i)) →
     let w := s.sig r 0 (portInput (s.frames r) m 39)
     let a := s.portField r m 0 7
     (s.tickEnds = true →
     ∃ t, exec .rotaClockTick s = .next t ∧ (t.hinit i).tick = s.tickNow.1 ∧ (t.hinit i).run = s.tickNow.2 ∧
       (t.hinit i).pulse = 0 ∧ (t.hinit i).rota = BitVec.ofNat 16 s.rota ∧
       (t.hinit i).rxa = s.portField r m 40 7 ∧
       (t.hinit i).rxd = (t.hinit i).shown (slotCommitted (s.frames r) m) ∧
       (w = true → a < 64 →
         Tbl.get 0 (t.hinit i).tx a = BitVec.ofNat 32 (s.portField r m 7 32)) ∧
       (w = true → 64 ≤ a → a % 8 = 4 → (s.hinit i).busy = false →
         (t.hinit i).start = true ∧ (t.hinit i).busy = true ∧ (t.hinit i).done = false) ∧
       (w = false → (t.hinit i).tx = (s.hinit i).tx)) ∧
     (s.tickEnds = false → exec .rotaClockTick s = .next s)) ∧
   (∀ (s : State) (clear : Bool) (k : Nat), s.hedge.decided = some (clear, k) →
     Tbl.wf (fun _ => HInit.blank) s.hedge.inits = true →
     ∃ t, exec .commitPulse s = .next t ∧ t.hedge.decided = none ∧
       ∀ e ∈ s.ownedSlots, (t.hinit e.2.2).pulse = (if clear then 1 else 2) ∧
         (t.hinit e.2.2).rota = BitVec.ofNat 16 k ∧
         (s.committedInit e.2.2 = true → (t.hinit e.2.2).rxd = (t.hinit e.2.2).shown true ∧
           (clear = true → (t.hinit e.2.2).copy = (Tbl.get [] (s.hinit e.2.2).rxLogs k).foldl
             (fun t e => Tbl.set 0 t e.1 e.2) (s.hinit e.2.2).copy))) ∧
   (∀ (i : Fin 64) (s : State),
     let h := s.hinit i.val
     let init := 1024 + i.val
     (h.start = false → exec (.packetStart i) s = .next s) ∧
     (∀ a acc cls, h.start = true → h.fields = (a, acc, cls) → placeOf a = none →
       ∃ t, exec (.packetStart i) s = .next t ∧ t.answered init opDecode [] ∧
         t.hinit i.val = { h with start := false, answer := some (none, opDecode, []) }) ∧
     (∀ a n cls off, h.start = true → h.fields = (a, .read n, cls) → placeOf a = some (.config off) →
       s.wayTo init cls 1034 = true → s.gate (.config off) = 0 → configListed off n = true →
       packetSize off n = true → ∃ t who, exec (.packetStart i) s = .next t ∧ who.init = init ∧
         t.hinit i.val = { h with start := false, answer := some (some who, opData, s.configBytes off n) } ∧
         (t.opn.trans.any (fun o => o.init == init && o.tag == who.tag)) = true ∧ t.answer = s.answer ∧
         t.mem = s.mem) ∧
     (∀ lat fate, h.busy = false ∨ h.answer = none → exec (.packetDone i lat fate) s = .next s) ∧
     (∀ lat fate op bs,
       let ok := op = opData ∨ op = opAck
       let ended := { h with
         busy := false, done := true, answer := none, code := BitVec.ofNat 4 (if ok then 0 else op),
         data := BitVec.ofNat 64 (leNat bs) }
       (h.busy = true → h.answer = some (none, op, bs) → exec (.packetDone i lat fate) s =
         .next (if ok then s.setHinit i.val ended else (s.setHinit i.val ended).bump (0x5080 + i.val) 5)) ∧
       (∀ (who : Asker) (n : Hamlet), h.busy = true → h.answer = some (some who, op, bs) → who.init = init → who.user = true →
         (fate = .arrives → ∃ t, exec (.packetDone i lat fate) s = .next t ∧ t.answered init op bs ∧
           t.hinit i.val = ended ∧ t.mem = s.mem ∧
           t.opn.trans = s.opn.trans.filter (fun o => !(o.init == init && o.tag == who.tag))) ∧
         (∀ e, fate = ⟨n, [e]⟩ → e ≠ 0 → op ≠ opData →
           netGood .response ((respWord (answerFlit who.source who op 0)).setWidth 144 ^^^ e) = false →
           exec (.packetDone i lat fate) s = .next
             (((s.setHinit i.val { h with answer := none }).bump 0x4800 2).fire (1024 + n.val) 2)))))) ∧
  ((∀ (b : Region) (mv : Nat) (s : State), s.power.vstby = false → exec (.bankSupplySample b mv) s = .next s) ∧
   (∀ (b : Region) (mv : Nat) (s : State), s.power.vstby = true → ∃ t, exec (.bankSupplySample b mv) s = .next t ∧
     let x := s.region b.val
     let off := x.configured = false ∨ s.dev = .fault ∨ s.allset.seen = false ∨
       vioGood (min mv 0xFFFF) (declaredVio (s.frames b.val)) = false
     t.obj (0x5020 + b.val) 2 = min mv 0xFFFF ∧ t.mem = s.mem ∧
     t.hedge = { s.hedge with ff := t.hedge.ff, keepers := t.hedge.keepers } ∧
     (mv < 900 → t.obj (0x5020 + b.val) 1 = 0) ∧
     (900 ≤ mv → off → t.obj (0x5020 + b.val) 1 = 1) ∧
     (900 ≤ mv → ¬ off → t.obj (0x5020 + b.val) 1 =
       (if x.sheet = .upHeld ∨ x.sheet = .upLoadable ∨ x.sheet = .lowering then 3 else 2))) ∧
   (∀ (line : Fin 4096) (a b : Region × Fin 16384) (s : State),
     exec (.globalContention line a b) s = .next
       ((({ s with hedge := { s.hedge with offLines :=
         (line.val, [a.1.val, b.1.val]) :: s.hedge.offLines } }.bump 0x5000 1).setObj 0x5000 2
         (line.val + a.1.val <<< 12 + a.2.val <<< 16)).fire 1345 0)))

/-! ## Troughs and tallies (R307 to R331) -/

/-- The far side's producer (R308 to R310, R315, R318, R330): PUSH stores its item at the position and passes it, to
the next bank where it ends its packet; a full trough answers BUSY and a trough of the other direction ERROR_DECODE;
the last item of a checked packet passes only where the tally's result is the item. The access is a packet of its
initiator. Where it rests on a choice of the model: assumption log 41, 49. -/
def Obligations.TroughProducer : Prop :=
  ∀ (init : Initiator) (t : Fin 256) (item : BitVec 64) (eop : Bool) (s : State),
    let o := 0x5100 + t.val
    let c : Instr := if eop then .pushEop init t item else .push init t item
    let p := s.obj o 5
    let ends := eop = true ∨ p % 512 = 511
    s.reaches init.val (.trough t.val (if eop then 8 else 0)) 8 = true →
    (s.obj o 1 ≠ 1 → ∃ u, exec c s = .next u ∧ u.answered init.val opDecode [] ∧ s.traffic u init.val 1029) ∧
    (s.obj o 1 = 1 → troughFull p (s.obj o 6) = true → ∃ u, exec c s = .next u ∧ u.answered init.val opBusy [] ∧
      (s.bump o 0xA).traffic u init.val 1029) ∧
    (s.obj o 1 = 1 → troughFull p (s.obj o 6) = false → ∃ u, exec c s = .next u ∧ u.answered init.val opAck [] ∧
      u.itemAt t.val p = item.toNat ∧ u.crofts = s.crofts ∧ u.cellars = s.cellars ∧
      (u.trough t.val).eop.getLsbD (p % 1024) = eop ∧ (∀ j, j ≠ t.val → u.trough j = s.trough j) ∧
      (∀ a, a < itemAddr t.val p ∨ itemAddr t.val p + 8 ≤ a → u.byte a = s.byte a) ∧
      (bitAt (s.obj o 2) 1 = false → u.obj o 5 = (if ends then nextBank p else (p + 1) % 2048)) ∧
      (bitAt (s.obj o 2) 1 = true → ends → p % 512 ≠ 0 →
        u.obj o 5 = (if (s.tallyCheck (bits (s.obj o 2) 4 4) item.toNat).2 then nextBank p else p / 512 * 512)))

/-- The far side's consumer (R310 to R312, R317): POP passes the item at the position where one is admissible, and
gives the idle item where none is; DROP discards the packet at hand. The bank view (R318): a producer's bytes are
stored from its position up to the end of its bank; PUBLISH passes the items that it names and RELEASE those of a
consumer; and a reset outside RUN returns every position to 0 (R323). Each access is a packet of its initiator.
Where it rests on a choice of the model: assumption log 41, 49. -/
def Obligations.TroughConsumerAndBankView : Prop :=
  (∀ (init : Initiator) (t : Fin 256) (s : State),
     let o := 0x5100 + t.val
     let r := s.obj o 5
     let x := s.trough t.val
     let d := dropPacket x r (s.obj o 6) x.mark
     let gone := ((s.setObj o 5 d.1).setTrough t.val { x with mark := d.2.1 }).bump o 0xC d.2.2
     s.obj o 1 = 2 →
     (s.reaches init.val (.trough t.val 0x10) 8 = true →
       (admissible r (s.obj o 6) (s.thresh t.val) = true → ∃ u, exec (.pop init t) s = .next u ∧
         u.answered init.val opData (leBytes 8 (s.itemAt t.val r)) ∧ u.obj o 5 = x.after r ∧
         u.trough t.val = { x with popStatus := 1 + 2 * b2n (x.endsAt r) + 4 * b2n (r % 512 == 0) } ∧
         u.mem = s.mem) ∧
       (admissible r (s.obj o 6) (s.thresh t.val) = false → ∃ u, exec (.pop init t) s = .next u ∧
         u.answered init.val opData (leBytes 8 (s.obj o 4)) ∧
         ((s.bump o 9).setTrough t.val { x with popStatus := 0 }).traffic u init.val 1029)) ∧
     (s.reaches init.val (.trough t.val 0x28) 8 = true → ∃ u, exec (.drop init t) s = .next u ∧
       u.answered init.val opAck [] ∧ gone.traffic u init.val 1029) ∧
     (r % 512 ≠ 0 → packetWhole r (s.obj o 6) = true → d.1 = nextBank r ∧ d.2.1 = false) ∧
     (r % 512 ≠ 0 → packetWhole r (s.obj o 6) = false → d.1 = s.obj o 6 ∧ d.2.1 = true)) ∧
  ((∀ (init : Initiator) (t : Fin 256) (off : Nat) (data : List Byte) (s : State),
     let p := s.obj (0x5100 + t.val) 5 % 1024
     s.reaches init.val (.trough t.val (0x8000 + off)) data.length = true →
     larderSize data.length = true → s.obj (0x5100 + t.val) 1 = 1 → p ≤ off / 8 →
     (off + data.length - 1) / 8 < p / 512 * 512 + 512 →
     ∃ u, exec (.bankViewWrite init t off data) s = .next u ∧ u.answered init.val opAck [] ∧
       (s.setBytes (troughBase t.val + 0x8000 + off) data).traffic u init.val 1029) ∧
   (∀ (init : Initiator) (t : Fin 256) (value : BitVec 64) (s : State),
     let o := 0x5100 + t.val
     let n := bits value.toNat 0 10
     let p := s.obj o 5
     s.reaches init.val (.trough t.val 0x30) 8 = true →
     s.obj o 1 = 1 → bitAt (s.obj o 2) 1 = false → 1 ≤ n → p < 2048 → p % 512 + n ≤ 512 →
     troughFull p (s.obj o 6) = false → ∃ u, exec (.publish init t value) s = .next u ∧
       u.answered init.val opAck [] ∧ u.mem = s.mem ∧
       u.obj o 5 = (if bitAt value.toNat 16 = true ∨ (p + n) % 512 = 0 then nextBank p else (p + n) % 2048)) ∧
   (∀ (init : Initiator) (t : Fin 256) (value : BitVec 64) (s : State),
     let o := 0x5100 + t.val
     let n := bits value.toNat 0 10
     let x := s.trough t.val
     s.reaches init.val (.trough t.val 0x38) 8 = true →
     s.obj o 1 = 2 → 1 ≤ n → n ≤ x.packetLeft (s.obj o 5) (s.obj o 6) 512 →
     ∃ u, exec (.troughRelease init t value) s = .next u ∧ u.answered init.val opAck [] ∧ u.mem = s.mem ∧
       u.obj o 5 = (upFrom 0 n).foldl (fun p _ => x.after p) (s.obj o 5)) ∧
   (∀ (via : Via) (t : Fin 256) (s : State), s.reachedBy via = true → s.dev ≠ .run →
     let o := 0x5100 + t.val
     exec (.troughReset via t) s = .next (s.rowAnswer via (0x5100 + t.val) 8 1 ((((s.setObj o 5 0).setObj o 6 0).setObj o 7 0).setTrough t.val
       { s.trough t.val with mark := false, markKept := false, window := 0, windows := [], ends := [], ops := [],
                             results := [] }))))

/-- Tallies (R324 to R327): a feed advances the running register by the CRC of its bytes and counts them, where the
tally has no other source, and is refused where it has; the bytes of a source are taken the same way; restart loads
the initial value; and the running register takes a value of the tally's width. A feed is a packet of its initiator.
Where it rests on a choice of the model: assumption log 41. -/
def Obligations.Tallies : Prop :=
  ∀ (n : Fin 16) (s : State),
    let o := 0x5200 + n.val
    let w := s.obj o 1
    let fed := fun bs : List Byte =>
      (s.setObj o 7 (crcBits w (s.obj o 2 % 2 ^ w) (s.obj o 7 % 2 ^ w) (byteBits (bitAt (s.obj o 4) 0) bs))).setObj
        o 0xC ((s.obj o 0xC + bs.length) % 2 ^ 64)
    (Tbl.get [] s.snooped n.val = [] →
      (∀ (init : Initiator) (data : List Byte), data.length = 1 ∨ data.length = 2 ∨ data.length = 4 →
        s.reaches init.val (.tally n.val 0) data.length = true →
        (s.obj o 6 % 16 = 0 → ∃ t, exec (.tallyFeed init n data) s = .next t ∧ t.answered init.val opAck [] ∧
          (fed data).traffic t init.val 1030) ∧
        (s.obj o 6 % 16 ≠ 0 → s.obj o 6 ≠ init.val * 16 + 3 → ∃ t, exec (.tallyFeed init n data) s = .next t ∧
          t.answered init.val opDecode [] ∧ s.traffic t init.val 1030)) ∧
      (∀ data, s.obj o 6 % 16 = 2 → exec (.tallySnoopFeed n data) s = .next (fed data)) ∧
      (∀ via : Via, s.reachedBy via = true →
        exec (.tallyRestart via n) s = .next (s.rowAnswer via (0x5200 + n.val) 0xA 1 ((s.setObj o 7 (s.obj o 3 % 2 ^ w)).setObj o 0xC 0)) ∧
        ∀ value : BitVec 64, exec (.tallyRunningWrite via n value) s =
          .next (s.rowAnswer via (0x5200 + n.val) 7 value.toNat (s.setObj o 7 (value.toNat % 2 ^ w))))) ∧
    (Tbl.get [] s.snooped n.val ≠ [] → s.obj o 6 % 16 ≠ 2 → ∀ data, exec (.tallySnoopFeed n data) s =
      .next { fed (Tbl.get [] s.snooped n.val) with snooped := Tbl.del n.val s.snooped })

/-! ## The verger and its tasks (R340 to R350) -/

/-- ARM, SIGNAL and CANCEL (R343 to R346): each is a packet to COMMAND, and takes the verger one cycle. An armed task
waits for its count, or is READY at the tail of its list where the count is 0; a signal lowers the count, and makes
the task READY at 0; a cancelled task is IDLE; and a command that R345 refuses changes nothing but the count of errors
and its event. While the verger is busy, a command waits in its queue and is acknowledged; while the queue holds 256,
its acknowledgement is withheld. Where it rests on a choice of the model: assumption log 41, 50, 51. -/
def Obligations.TaskCommands : Prop :=
  ∀ (init : Initiator) (task : BitVec 12) (s : State), s.reaches init.val (.verger 0x30000) 8 = true →
    let t := task.toNat
    let r := s.task t
    let i := init.val
    let s0 := ({ s with verger := ⟨[], [], s.vergerCycle⟩ } : State).peak 0x5300 4 1
    let ends := fun (c : Instr) (x : State) =>
      ∃ u, exec c s = .next u ∧ u.answered i opAck [] ∧ x.traffic u i 1031
    let err := (s0.bump 0x5300 5).fire 1347 1
    (s.verger = .rest →
      (tState r = tsIdle → s.armRefused r = false →
        (tInit r ≠ 0 → ends (.arm init task) (s0.setTask t
          (withState (withResume (withCount r (tInit r)) false) tsWaiting))) ∧
        (tInit r = 0 → tDelayUse r = false → ∃ u, exec (.arm init task) s = .next u ∧ u.answered i opAck [] ∧
          tState (u.task t) = tsReady ∧ u.readyList (tPrio r) = s.readyList (tPrio r) ++ [t])) ∧
      (tState r ≠ tsIdle ∨ s.armRefused r = true → ends (.arm init task) err) ∧
      (∀ amount : BitVec 12,
        (amount = 0 → ends (.signal init task amount) err) ∧
        (amount ≠ 0 → tState r = tsWaiting → amount.toNat < tCount r →
          ends (.signal init task amount) (s0.setTask t (withCount r (tCount r - amount.toNat)))) ∧
        (amount ≠ 0 → tState r = tsWaiting → tCount r = amount.toNat → tDelayUse r = false →
          ∃ u, exec (.signal init task amount) s = .next u ∧ u.answered i opAck [] ∧ tState (u.task t) = tsReady ∧
            u.readyList (tPrio r) = s.readyList (tPrio r) ++ [t]) ∧
        (amount ≠ 0 → tState r = tsIdle → ends (.signal init task amount) ((s0.bump 0x5300 6).fire 1347 0))) ∧
      (tState r = tsWaiting ∨ tState r = tsDelayed →
        ends (.cancel init task) (s0.setTask t (withState r tsIdle))) ∧
      (tState r = tsReady → ∃ u, exec (.cancel init task) s = .next u ∧ u.answered i opAck [] ∧
        tState (u.task t) = tsIdle ∧ t ∉ u.readyList (tPrio r) ∧ u.cores = s.cores) ∧
      (tState r = tsIdle ∨ tState r = tsRunning → ends (.cancel init task) err)) ∧
    (s.verger.held = [] →
      let w := 3 + t <<< 4
      (s.verger.busy ≠ 0 → s.verger.queue.length < 256 → ends (.cancel init task)
        (({ s with verger := { s.verger with queue := s.verger.queue ++ [(i, w)] } } : State).peak 0x5300 4
          (s.verger.queue.length + 1))) ∧
      (s.verger.queue.length = 256 → ∃ u who, exec (.cancel init task) s = .next u ∧
        u.verger = { s.verger with held := [(who, w)] } ∧ who.init = i ∧ u.answer = s.answer ∧ u.tasks = s.tasks))

/-- TAKE (R347): a free core is given the task chosen for it, which runs on it from then on, or 0 where there is
none; a core that runs a task is told that task again. DONE and YIELD of a core that runs a task, and words that are
no command (R343, R345, R348): the core is free; a task that is done is IDLE and counted; one that yields is READY
at the head of its list with RESUME set. Each is a packet of its initiator. Where it rests on a choice of the model:
assumption log 22, 41, 50, 51. -/
def Obligations.CoresTakeAndEndTasks : Prop :=
  (∀ (k : CoreNo) (s : State), s.reaches (1088 + k.val) (.verger (0x31000 + k.val * 16)) 8 = true →
     let c := s.core k.val
     let value := fun t r => t + b2n (tResume r) <<< 12 + 1 <<< 13 + tEntry r <<< 16
     (∀ t, c.task = none → s.choose k.val = some t → ∃ u, exec (.take k) s = .next u ∧
       u.answered (1088 + k.val) opData (leBytes 8 (value t (s.task t))) ∧
       (u.core k.val).task = some t ∧ tState (u.task t) = tsRunning ∧ tAffinity (u.task t) = some k.val ∧
       t ∉ u.readyList (tPrio (s.task t))) ∧
     (c.task = none → s.choose k.val = none → ∃ u, exec (.take k) s = .next u ∧
       u.answered (1088 + k.val) opData (leBytes 8 0) ∧ (u.core k.val).task = none ∧
       (u.core k.val).dispatch = false ∧ u.tasks = s.tasks ∧ u.ready = s.ready) ∧
     (∀ t, c.task = some t → ∃ u, exec (.take k) s = .next u ∧
       u.answered (1088 + k.val) opData (leBytes 8 (value t (s.task t))) ∧ s.traffic u (1088 + k.val) 1031)) ∧
  (∀ (init : Initiator) (s : State), s.reaches init.val (.verger 0x30000) 8 = true → s.verger = .rest →
     let s0 := ({ s with verger := ⟨[], [], s.vergerCycle⟩ } : State).peak 0x5300 4 1
     let fails := fun (c : Instr) => ∃ u, exec c s = .next u ∧ u.answered init.val opAck [] ∧
       ((s0.bump 0x5300 5).fire 1347 1).traffic u init.val 1031
     (∀ (k : CoreNo) (t : Nat), init.val = 1088 + k.val → (s.core k.val).task = some t →
       (∃ u, exec (.done init) s = .next u ∧ u.answered init.val opAck [] ∧
         (u.core k.val).task = none ∧ tState (u.task t) = tsIdle ∧
         u.verger = ⟨[], [], (1 + (tSuccCount (s.task t) + 3) / 4) * s.vergerCycle⟩ ∧
         u.obj (0x5310 + k.val) 4 = satAdd 32 (s.obj (0x5310 + k.val) 4) 1) ∧
       (∃ u, exec (.yield init) s = .next u ∧ u.answered init.val opAck [] ∧
         (u.core k.val).task = none ∧ tState (u.task t) = tsReady ∧ tResume (u.task t) = true ∧
         u.readyList (tPrio (s.task t)) = t :: s.readyList (tPrio (s.task t)))) ∧
     (s.runner init.val = none → fails (.done init) ∧ fails (.yield init)) ∧
     (∀ word : BitVec 64, word.toNat % 16 = 0 ∨ 6 ≤ word.toNat % 16 → fails (.commandError init word)))

/-- Delay lists and pre-empts (R349, R350): a due task at the head of a list becomes READY, and a list whose head is not
due waits; a pre-empt that a core has let pass is withdrawn, counted, and raised as its event. The commands of a service
core (R337, R354): its caches are emptied as named; held in reset it has no task, and the task it ran is READY again with
RESUME clear; released it starts at its firmware entry. Where it rests on a choice of the model (the registers at
release; a release in FAULT, which holds every core in reset, is refused): assumption log 13, 51, 111. -/
def Obligations.DelayListsAndCoreCommands : Prop :=
  ((∀ (j : Fin 4) (s : State) (t : Nat) (rest : List Nat), s.delayList j.val = t :: rest →
     (s.wakeDue j.val (tWake (s.task t)) = true → ∃ u, exec (.delayListDue j) s = .next u ∧
       tState (u.task t) = tsReady) ∧
     (s.wakeDue j.val (tWake (s.task t)) = false → exec (.delayListDue j) s = .next s)) ∧
   (∀ (k : CoreNo) (s : State) (t : Nat), (s.core k.val).preempt = some t →
     let s1 := ((s.withdraw k.val).bump 0x5300 9).fire 1347 2
     (tState (s1.task t) ≠ tsReady → exec (.preEmptOverrun k) s = .next s1) ∧
     (tState (s1.task t) = tsReady → exec (.preEmptOverrun k) s = .next (s1.offer t (some k.val))) ∧
     ∃ u, exec (.preEmptOverrun k) s = .next u ∧ (u.core k.val).preempt = none ∧
       u.obj 0x5300 9 = satAdd 32 (s.obj 0x5300 9) 1 ∧ u.tasks = s.tasks)) ∧
  (∀ (via : Via) (k : CoreNo) (s : State), s.reachedBy via = true →
     let c := s.core k.val
     (∀ which : BitVec 8, 1 ≤ which.toNat → which.toNat ≤ 3 → exec (.cacheCommand via k which) s =
       .next (s.rowAnswer via (0x5310 + k.val) 6 which.toNat (s.setCore k.val { c with
         icache := if bitAt which.toNat 0 then [] else c.icache,
         dcache := if bitAt which.toNat 1 then [] else c.dcache }))) ∧
     (∃ u, exec (.coreHoldReset via k) s = .next u ∧ (u.core k.val).held = true ∧ (u.core k.val).task = none ∧
       (u.core k.val).regs = [] ∧ (u.core k.val).icache = [] ∧ (u.core k.val).dcache = [] ∧
       ∀ t, c.task = some t → tState (u.task t) = tsReady ∧ tResume (u.task t) = false) ∧
     (∀ e, c.entry = some e → s.dev ≠ .fault → ∃ u, exec (.coreRelease via k) s = .next u ∧
       (u.core k.val).held = false ∧ (u.core k.val).pc = BitVec.ofNat 64 e ∧ (u.core k.val).regs = [] ∧
       (u.core k.val).task = none ∧ (c.held = true → u.tasks = s.tasks)) ∧
     (via = .ring → c.entry = none ∨ s.dev = .fault → exec (.coreRelease via k) s = .next (s.bump 0x1010 0xB)))

/-- Interrupts and faults of a core (R333, R335, R336): mtimecmp reached raises the timer interrupt; an access that
is answered with an error is the exception of R335, with the address in mtval; and a reservation that times out is
lost. One instruction of a core (R333): where an enabled interrupt waits, it is taken; else a 32-bit instruction
that the core's instruction cache holds is run: an OP or OP-IMM word writes its result, ECALL takes exception 11,
and no other register, core or byte of memory changes; and while the core waits for an access it runs nothing (R335).
Where it rests on a choice of the model: assumption log 13. -/
def Obligations.CoreExecution : Prop :=
  (∀ (k : CoreNo) (s : State),
     let c := s.core k.val
     (c.held = false → c.mtimecmp ≤ s.mtime →
       exec (.mtimecmpReached k) s = .next (s.setCore k.val { c with mtip := true })) ∧
     exec (.reservationTimeout k) s = .next (s.setCore k.val { c with reservation := none }) ∧
     (∀ (kind : CoreAccess) (addr : BitVec 64), c.held = false →
       ∃ t, exec (.coreAccessFault k kind addr) s = .next t ∧ t.csr k.val 0x341 = c.pc ∧
         t.csr k.val 0x342 = BitVec.ofNat 64 (accessCause kind) ∧ t.csr k.val 0x343 = addr ∧
         t.csr k.val 0x300 = (if (s.csr k.val 0x300).getLsbD 3 then 0x80 else 0) ∧
         (t.core k.val).pc = s.csr k.val 0x305 &&& ~~~3 ∧ (t.core k.val).reservation = none ∧
         (t.core k.val).regs = c.regs ∧ (∀ j, j ≠ k.val → t.core j = s.core j) ∧ t.mem = s.mem ∧ t.objs = s.objs)) ∧
  (∀ (k : CoreNo) (s : State),
     let c := s.core k.val
     let line := Tbl.get [] c.icache (c.pc.toNat / 64)
     let at' := c.pc.toNat % 64
     let w := leNat ((line.drop at').take 2) + 65536 * leNat ((line.drop (at' + 2)).take 2)
     s.coreRuns k.val = true → c.wait = none → c.got = [] →
     (∀ i, s.interrupt k.val = some i → ∃ t, exec (.coreInstruction k) s = .next t ∧ t.csr k.val 0x341 = c.pc ∧
       t.csr k.val 0x342 = BitVec.ofNat 64 (i + 2 ^ 63) ∧ t.csr k.val 0x300 = 0x80 ∧
       (t.core k.val).pc = (s.csr k.val 0x305 &&& ~~~3) +
         (if (s.csr k.val 0x305).getLsbD 0 then BitVec.ofNat 64 (4 * i) else 0) ∧
       (t.core k.val).regs = c.regs ∧ (∀ j, j ≠ k.val → t.core j = s.core j) ∧ t.mem = s.mem) ∧
     (s.interrupt k.val = none → line ≠ [] → at' ≤ 60 →
       (∀ i, i < 4 → (s.homeOf (c.pc.toNat + i)).isSome = true) → w % 4 = 3 →
       (∀ v, (w % 128 = 0x13 ∧ opImm w false (s.reg k.val (bits w 15 5)) = some v) ∨
           (w % 128 = 0x33 ∧
             opReg w false (s.reg k.val (bits w 15 5)) (s.reg k.val (bits w 20 5)) = some v) →
         ∃ t, exec (.coreInstruction k) s = .next t ∧ (t.core k.val).pc = c.pc + 4 ∧
           (∀ r, t.reg k.val r = if r = bits w 7 5 ∧ r ≠ 0 then v else s.reg k.val r) ∧
           t.csr k.val 0xB02 = s.csr k.val 0xB02 + 1 ∧ (∀ n, n ≠ 0xB02 → t.csr k.val n = s.csr k.val n) ∧
           (∀ j, j ≠ k.val → t.core j = s.core j) ∧ t.mem = s.mem ∧ t.objs = s.objs) ∧
       (w = 0x73 → ∃ t, exec (.coreInstruction k) s = .next t ∧ t.csr k.val 0x341 = c.pc ∧
         t.csr k.val 0x342 = 11 ∧ t.csr k.val 0x343 = 0 ∧
         (t.core k.val).pc = s.csr k.val 0x305 &&& ~~~3 ∧ (t.core k.val).regs = c.regs ∧ t.mem = s.mem))) ∧
  (∀ (k : CoreNo) (s : State), (s.core k.val).wait.isSome = true → exec (.coreInstruction k) s = .next s)

/-! ## Watch units (R355 to R382) -/

/-- The commands of a watch unit (R363, R369): arming from IDLE or DONE clears the capture memory and starts RUNNING
with its depth; a forced trigger waits for the next sample; a stop leaves RUNNING or POST for DONE, or for DRAINING
while records are staged; and a reset returns to IDLE with memory kept.
Where it rests on a choice of the model: assumption log 55. -/
def Obligations.WatchCommands : Prop :=
  ∀ (via : Via) (u : WatchUnit) (s : State), s.reachedBy via = true →
    let i := wObj u.val
    let w := s.watch u.val
    (s.armAbort u.val = none → ∃ t, exec (.watchArm via u) s = .next t ∧ t.watchState u.val = 1 ∧
      t.obj i 4 = (if s.spills u.val then s.obj (i + 1) 6 else s.captureBytes u.val) / s.recordSize u.val ∧
      (∀ sub ∈ [3, 5, 6, 7, 8, 9, 0xA, 0xB, 0xC, 0xE], t.obj i sub = objDefault i sub) ∧
      t.watch u.val = { WatchRec.rest with since := w.since } ∧
      (∀ a, watchBase u.val ≤ a → a < watchBase u.val + offProbe → t.byte a = 0) ∧
      (∀ a, a < watchBase u.val ∨ watchBase u.val + offProbe ≤ a → t.byte a = s.byte a)) ∧
    (s.watchState u.val = 1 →
      exec (.forceTrigger via u) s = .next (s.rowAnswer via (wObj u.val) 1 2 (s.setWatch u.val { w with force := true }))) ∧
    (s.watchState u.val = 1 ∨ s.watchState u.val = 2 → exec (.watchStop via u) s =
      .next (s.rowAnswer via (wObj u.val) 1 3 ((s.setWatch u.val { w with stopping := true }).setObj i 2 (if w.staged = [] then 4 else 3)))) ∧
    (∃ t, exec (.watchReset via u) s = .next t ∧ t.watchState u.val = objDefault i 2 ∧
      (∀ sub ∈ [3, 5, 6, 7, 0xE], t.obj i sub = objDefault i sub) ∧
      t.watch u.val = { WatchRec.rest with since := w.since } ∧ t.mem = s.mem)

/-- The end of a capture (R363, R365): POST ends once its records stand; staged records go to the spill region, here one
of 16 bytes; and DRAINING ends, with the event, once none is staged. A write of a watch window (R356, R358, R378, R379):
listed offsets of a unit in IDLE or DONE take the bytes with reserved bits at zero, the capture memory none; in another
state they are acknowledged and kept as they were; and an access that is not listed, or that leaves an entry of the
probe-channel or sample-selector table that its table does not allow, answers ERROR_DECODE. Both kinds of write are
packets of their initiators. Where it rests on a choice of the model: assumption log 41, 55. -/
def Obligations.WatchEndsAndWindow : Prop :=
  (∀ (u : WatchUnit) (s : State),
     let i := wObj u.val
     let w := s.watch u.val
     (s.watchState u.val = 2 → s.obj (i + 1) 2 ≤ s.obj i 7 →
       (w.staged = [] → exec (.postComplete u) s = .next ((s.setObj i 2 4).fire (1324 + u.val) 1)) ∧
       (w.staged ≠ [] → exec (.postComplete u) s = .next (s.setObj i 2 3))) ∧
     (s.watchState u.val = 3 → w.staged = [] → s.spillIdle u.val = true →
       exec (.drainComplete u) s = .next ((s.setObj i 2 4).fire (1324 + u.val) 1)) ∧
     (∀ place idx, w.staged = [(place, idx)] → w.sent = 0 → s.obj (i + 1) 1 = 0 → s.obj (i + 1) 5 % 16 = 0 →
       let a := s.obj (i + 1) 5 + 16 * idx
       s.reaches (1114 + u.val) (.cellar (a / 64 * 64)) 64 = true → a < 4 * cellarBytes →
       s.filterOf (1024 + a / cellarBytes) = [] → ∃ t, exec (.spillWrite u) s = .next t ∧
         t.answered (1114 + u.val) opAck [] ∧ (t.watch u.val).staged = [] ∧
         (∀ j, j < 16 → t.byte (a + j) = s.byte (watchBase u.val + 16 * place + j) ∧ t.err ((a + j) / 8) = 0) ∧
         (∀ b, b < a ∨ a + 16 ≤ b → t.byte b = s.byte b))) ∧
  (∀ (init : Initiator) (u : WatchUnit) (off : Nat) (data : List Byte) (s : State),
     let listed := (upFrom off data.length).all watchListed
     let n := data.length
     let put := s.windowPut u.val off (data.map (fun b => (b, true)))
     let entries := fun ok : Nat → Bool => ∀ h, off / 2 ≤ h → h ≤ (off + n - 1) / 2 →
       ok (put.leAt (watchBase u.val + 2 * h) 2) = true
     let fits := put.entriesOk u.val off n = true
     let ends := fun (op tgt : Nat) (x : State) => ∃ t, exec (.watchWindowWrite init u off data) s = .next t ∧
       t.answered init.val op [] ∧ x.traffic t init.val tgt
     (packetInit init.val = true → reservedInit init.val = false → listed = false → ends opDecode 0 s) ∧
     (s.reaches init.val (.watch u.val off) data.length = true →
       (larderSize data.length = false → ends opDecode (1040 + u.val) s) ∧
       (larderSize data.length = true →
         (off + n ≤ offProbe ∨ offCond ≤ off → fits) ∧
         (offProbe ≤ off → off + n ≤ offSelect → (fits ↔ entries probeOk)) ∧
         (offSelect ≤ off → off + n ≤ offSelect + 1024 → (fits ↔ entries (fun e => e / 4096 == 0))) ∧
         (¬ fits → ends opDecode (1040 + u.val) s) ∧
         (fits → s.watchWritable u.val = true → ends opAck (1040 + u.val) put ∧
           (∀ j b, data[j]? = some b → put.byte (watchBase u.val + off + j) =
             if offProbe ≤ off + j then windowByte u.val (off + j) b else s.byte (watchBase u.val + off + j)) ∧
           (∀ a, a < watchBase u.val + off ∨ watchBase u.val + off + data.length ≤ a → put.byte a = s.byte a)) ∧
         (fits → s.watchWritable u.val = false → ends opAck (1040 + u.val) s))))

/-! ## Steeple time (R383 to R395) -/

/-- The counter and its messages (R383, R386, R387, R389, R391): a reference period advances the value by INC except in
STANDBY, and there is none without the reference (R439); a SYNC of the slave port is taken and, with a completed pair,
gives offset, delay and the adjustment; a DELAY_REQ is answered by a master port; a DELAY_RESP completes the pair; a
discarded message is counted; and a lost master means HOLDOVER. Master selection (R387, R388): an ANNOUNCE that is taken,
and the loss of one, choose the winner again and give each port its role; and a port whose message is due queues the
message of its role with its next SEQID. Where it rests on a choice of the model (an offset or delay that its object
cannot hold has no clause): assumption log 57. -/
def Obligations.SteepleNetwork : Prop :=
  ((∀ s : State, (s.obj 0x2100 1 = 4 ∨ s.power.reference = false → exec .referencePeriod s = .next s) ∧
     (s.obj 0x2100 1 ≠ 4 → s.power.reference = true → ∃ t, exec .referencePeriod s = .next t ∧
       t.mtime = s.mtime + 1 ∧ t.mem = s.mem ∧ t.steeple = { s.steeple with
         value := pattern 96 ((s.steeple.value : Int) + s.steepleInc), sub := 0,
         base := s.steeple.base + s.strokeClock })) ∧
   (∀ (p : Port) (msg : BitVec 112) (ready : BitVec 64) (s : State),
     (s.steepleTakes p.val 0 msg = false → exec (.sync p msg ready) s = .next (s.bump (0x2240 + p.val) 3)) ∧
     (s.steepleTakes p.val 0 msg = true → s.obj 0x2200 7 = p.val →
       (s.steeple.pair = none → exec (.sync p msg ready) s = .next { s.setObj 0x2200 3
           (pattern 32 (clip (signed 32 (bits msg.toNat 0 32)))) with
         steeple := { s.steeple with sync := some (bodyTime msg, ready.toNat) } }) ∧
       (∀ t3 t4, s.steeple.pair = some (t3, t4) → s.obj 0x2200 1 = 3 →
         let d1 := timeDiff ready.toNat (bodyTime msg)
         let d2 := timeDiff t4 t3
         let offset := (d1 - d2 - s.objInt (0x2240 + p.val) 1 32 * 2 ^ 24) / 2
         let delay := (d1 + d2) / 2 / 2 ^ 24
         ∃ t, exec (.sync p msg ready) s = .next t ∧
           (-2 ^ 31 ≤ offset / 2 ^ 24 → offset / 2 ^ 24 < 2 ^ 31 → t.obj 0x2200 5 = pattern 32 (offset / 2 ^ 24)) ∧
           (0 ≤ delay → delay < 2 ^ 32 → t.obj 0x2200 6 = pattern 32 delay) ∧ t.steeple.value = s.steeple.value ∧
           t.steeple.adj = clip (-offset * (s.strokeClock : Int) /
             (16 * 2 ^ bits (s.obj 0x2201 5) 0 4 : Int)))) ∧
     (s.steepleTakes p.val 1 msg = true → s.obj (0x2240 + p.val) 2 = 1 → exec (.delayReq p msg ready) s =
       .next (s.steepleSend p.val
         (steepleMsg 9 (s.obj 0x2201 1) (bits msg.toNat 80 16) (stampBody ready.toNat)))) ∧
     (∀ t3, s.steepleTakes p.val 9 msg = true → s.steeple.asked = some (bits msg.toNat 80 16, some t3) →
       s.obj 0x2200 7 = p.val → s.obj 0x2200 1 ≠ 4 → exec (.delayResp p msg) s =
         .next { s with steeple := { s.steeple with pair := some (t3, bodyTime msg), asked := none } })) ∧
   (∀ s : State, (s.obj 0x2200 1 = 2 ∨ s.obj 0x2200 1 = 3 → ∃ t, exec .syncTimeout s = .next t ∧
       t.obj 0x2200 1 = 4 ∧ t.steeple = s.steeple.forget ∧ bitAt (t.obj 0x2200 4) 0 = true) ∧
     (s.obj 0x2200 1 ≠ 2 → s.obj 0x2200 1 ≠ 3 → exec .syncTimeout s = .next s))) ∧
  ((∀ (p : Port) (msg : BitVec 112) (s : State),
     (∀ a : Option (BitVec 80),
       let s1 := s.setAnnounce p.val a
       (a = some (BitVec.ofNat 80 msg.toNat) → s.steepleTakes p.val 11 msg = true → ∃ t,
         exec (.announce p msg) s = .next t ∧ Tbl.get none t.steeple.announces p.val = a ∧
         t.obj 0x2200 7 = (match s1.winner with
           | some c => if c.port = 32 then 0xFF else c.port
           | none => 0xFF) ∧
         ∀ q, q < 32 → t.obj (0x2240 + q) 2 = s1.steepleRole s1.winner q) ∧
       (a = none → ∃ t, exec (.announceExpiry p) s = .next t ∧ Tbl.get none t.steeple.announces p.val = none ∧
         t.obj 0x2200 7 = (match s1.winner with
           | some c => if c.port = 32 then 0xFF else c.port
           | none => 0xFF) ∧
         ∀ q, q < 32 → t.obj (0x2240 + q) 2 = s1.steepleRole s1.winner q))) ∧
   (∀ (p : Port) (s : State), bitAt (s.obj 0x2201 6) p.val = true →
     let role := s.obj (0x2240 + p.val) 2
     let sends := fun (due : SteepleDue) (type body : Nat) =>
       exec (.steepleSendDue p due) s = .next ((s.nextSeq p.val type).1.steepleSend p.val
         (steepleMsg type (s.obj 0x2201 1) (s.nextSeq p.val type).2 body))
     (role = 1 → sends .sync 0 0) ∧ (role = 2 → sends .delayReq 1 0) ∧
     (∀ c, role = 1 → s.winner = some c → sends .announce 11 (bits c.rank 48 24 <<< 56 +
       ((if c.port = 32 then 0 else c.steps + 1) % 256) <<< 48 + c.rank % 2 ^ 48))))

/-- Pulse outputs (R392, R395): arming takes settings in range and the due time; disarming ends the pulse; an armed
single pulse begins at the first stroke that reaches its due time, for its WIDTH, and is then done, a periodic one stays
armed for the next, and one on the rota begins at its stroke of a rota; until then a pulse under way goes on, and one
that has lasted its WIDTH ends. Capture inputs (R393, R395): an edge of the mode, 3 strokes or more after the last, is
stamped into the FIFO while it holds fewer than 16, and is counted as lost where it holds 16; a nearer edge and one of
the other direction are not taken, nor is any in STANDBY; an edge that is taken wakes the device; and a pop takes the
oldest stamp. Where it rests on a choice of the model: assumption log 19, 57, 114. -/
def Obligations.PulsesAndCaptures : Prop :=
  (∀ (i : Fin 8) (s : State),
     let o := 0x2210 + i.val
     let due := (s.pulse i.val).due
     let width := s.obj o 4
     let rests := if s.pulseOn i.val then s else s.setPulse i.val { s.pulse i.val with span := .idle }
     let byTime : PulseSpan := .time s.nowValue (s.nowValue + width * 2 ^ 32)
     (∀ via : Via, s.reachedBy via = true →
       (s.pulseRanges i.val = true → exec (.pulseArm via i) s =
         .next (s.rowAnswer via o 5 1 ((s.setPulse i.val ⟨s.obj o 2, .idle⟩).setObj o 6 1))) ∧
       exec (.pulseDisarm via i) s = .next (s.rowAnswer via o 5 2 ((s.setPulse i.val .rest).setObj o 6 0))) ∧
     (s.obj o 6 % 128 ≠ 1 → exec (.pulseFire i) s = .next rests) ∧
     (s.obj o 6 % 128 = 1 →
       (s.obj o 1 % 4 = 1 → reached s.now due = true → ∃ t, exec (.pulseFire i) s = .next t ∧
         t.pulse i.val = ⟨due, byTime⟩ ∧ t.obj o 6 % 128 = 2) ∧
       (s.obj o 1 % 4 = 2 → reached s.now due = true → ∃ t, exec (.pulseFire i) s = .next t ∧
         t.pulse i.val = ⟨(due + s.obj o 3) % 2 ^ 32, byTime⟩ ∧ t.obj o 6 % 128 = 1) ∧
       (s.obj o 1 % 4 = 3 → s.dev = .run → s.phase = .rota (s.obj o 2 % 1024) → ∃ t, exec (.pulseFire i) s = .next t ∧
         t.pulse i.val = ⟨due, .strokes s.count (s.count + width)⟩ ∧ t.obj o 6 % 128 = 1) ∧
       (s.obj o 1 % 4 = 1 ∨ s.obj o 1 % 4 = 2 → reached s.now due = false → exec (.pulseFire i) s = .next rests) ∧
       (s.obj o 1 % 4 = 3 → s.dev ≠ .run ∨ s.phase ≠ .rota (s.obj o 2 % 1024) →
         exec (.pulseFire i) s = .next rests))) ∧
  (∀ (i : Fin 8) (rising : Bool) (s : State),
     let o := 0x2220 + i.val
     let q := Tbl.get [] s.steeple.captures i.val
     let prev := Tbl.get 0 s.steeple.edges i.val
     let mode := s.obj o 1
     let taken := (mode = 3 ∨ (mode = 1 ∧ rising = true) ∨ (mode = 2 ∧ rising = false)) ∧ s.power.vstby = true ∧
       s.obj 0x2100 1 ≠ 4
     let far := prev = 0 ∨ prev + 3 ≤ s.strokeIndex + 1
     (¬ taken → exec (.captureEdge i rising) s = .next s) ∧
     (taken → s.obj 0x2100 1 = 0 → ¬ far → exec (.captureEdge i rising) s = .next s) ∧
     (taken → 1 ≤ s.obj 0x2100 1 → s.obj 0x2100 1 ≤ 3 →
       exec (.captureEdge i rising) s = .next ((s.captureEdge i.val).wakeUp 4)) ∧
     (taken → s.obj 0x2100 1 = 0 → far →
       (q.length < 16 → ∃ t, exec (.captureEdge i rising) s = .next t ∧ t.obj o 6 % 32 = q.length + 1 ∧
         Tbl.get [] t.steeple.captures i.val =
           q ++ [⟨s.valueAt ((s.steeple.sub : Int) - 2) % 2 ^ 64, s.count, s.rotaRecord⟩] ∧ t.mem = s.mem) ∧
       (16 ≤ q.length → ∃ t, exec (.captureEdge i rising) s = .next t ∧
         Tbl.get [] t.steeple.captures i.val = q ∧
         t.obj o 6 = q.length + 32 * satAdd 27 (s.obj o 6 / 32) 1 ∧ t.mem = s.mem)) ∧
     (∀ via : Via, s.reachedBy via = true →
       exec (.capturePop via i) s = .next (s.rowAnswer via o 5 1 (s.setCapture i.val q.tail 0))))

/-! ## The store, keys and start-up (R396 to R414, R426) -/

/-- The store commands (R403, R404, R405): a write of an image that passes puts it, with a new SEQ, into the copy that is
not selected; one that fails ends with its status; erase empties the copy that is not selected first; mirror copies the
selected one; and apply puts an accepted area in force. The end of a store command and the patrol (R403, R404, R426): an
erase empties the other copy; a write or mirror completes its envelope and reports the status of the copy; and the patrol
judges every area and shows in the store state. Where it rests on a choice of the model: assumption log 19, 62, 63, 111. -/
def Obligations.StoreCommandsAndPatrol : Prop :=
  (∀ (via : Via) (s : State), s.reachedBy via = true → s.storeClosed = false →
     let a := s.obj 0x2302 1
     let n := s.obj 0x2302 2
     let img := s.bytes (configBase + 0x2000000) n
     let bank := (s.writeTarget a).1
     ((areaInfo a).isSome = true → 64 ≤ n → n + 16 ≤ areaSize a →
       (s.judgeImage a img = 0 → ∃ t, exec (.storeWrite via) s = .next t ∧ t.store.command = some (1, a, bank) ∧
         t.obj 0x2302 4 = 1 ∧ t.obj 0x2300 1 = 2 ∧ t.leAt (copyAddr a bank) 4 = (s.writeTarget a).2 ∧
         t.leAt (copyAddr a bank + 4) 4 = n ∧
         (∀ j, j < n → t.byte (copyAddr a bank + 16 + j) = s.byte (configBase + 0x2000000 + j)) ∧
         (∀ b, b < copyAddr a bank ∨ copyAddr a bank + 16 + n ≤ b → t.byte b = s.byte b)) ∧
       (s.judgeImage a img ≠ 0 → exec (.storeWrite via) s = .next (s.rowAnswer via 0x2302 3 1 (s.storeEnd 3 (s.judgeImage a img))))) ∧
     ((areaInfo a).isSome = true → a ≠ 1 →
       let last := (s.selectedBank a).getD 1
       ∃ t, exec (.storeErase via) s = .next t ∧ t.store.command = some (2, a, last) ∧ t.obj 0x2302 4 = 1 ∧
         (∀ j, j < 16 → t.byte (copyAddr a (1 - last) + j) = 0) ∧
         (∀ b, b < copyAddr a (1 - last) ∨ copyAddr a (1 - last) + 16 ≤ b → t.byte b = s.byte b)) ∧
     (∀ b, s.selectedBank a = some b →
       let total := s.leAt (copyAddr a b + 4) 4
       ∃ t, exec (.storeMirror via) s = .next t ∧ t.store.command = some (3, a, 1 - b) ∧ t.obj 0x2302 4 = 1 ∧
         (∀ j, j < total → t.byte (copyAddr a (1 - b) + 16 + j) = s.byte (copyAddr a b + 16 + j)) ∧
         (∀ c, c < copyAddr a (1 - b) ∨ copyAddr a (1 - b) + 16 + total ≤ c → t.byte c = s.byte c)) ∧
     (s.applyAccepted a = true → s.store.command = none → ∃ t, exec (.storeApply via) s = .next t ∧
       t.obj 0x2302 4 = 2 ∧ t.obj 0x2302 5 = 0 ∧ t.obj 0x2300 1 = 0 ∧ t.store.command = none ∧
       (a = 3 → s.forceOf 36 = none → t.forceOf 3 = s.recordOf 3 ∧ t.mem = s.mem))) ∧
  (∀ s : State,
     (∀ a bank, s.store.command = some (2, a, bank) → ∃ t, exec .storeCommandComplete s = .next t ∧
       t.store.command = none ∧ t.obj 0x2302 4 = 2 ∧ t.obj 0x2302 5 = 0 ∧
       (∀ j, j < 16 → t.byte (copyAddr a bank + j) = 0) ∧
       (∀ b, b < copyAddr a bank ∨ copyAddr a bank + 16 ≤ b → t.byte b = s.byte b)) ∧
     (∀ cmd a bank, s.store.command = some (cmd, a, bank) → cmd ≠ 2 →
       let st := ((s.sealCopy a bank).judgeArea a).judgeCopy a bank
       ∃ t, exec .storeCommandComplete s = .next t ∧ t.store.command = none ∧
         t.obj 0x2302 4 = (if st = 0 then 2 else 3) ∧ t.obj 0x2302 5 = st ∧ t.obj 0x2300 1 = 0 ∧
         t.leAt (copyAddr a bank + 12) 4 = 2 ^ 32 - 1 - s.leAt (copyAddr a bank + 12) 4 ∧
         (∀ b, b < copyAddr a bank + 12 ∨ copyAddr a bank + 16 ≤ b → t.byte b = s.byte b)) ∧
     (s.storeClosed = false → s.obj 0x2300 4 ≠ 0 → ∃ t, exec .storePatrol s = .next t ∧ t.mem = s.mem ∧
       t.obj 0x2300 1 = 3 ∧ ∀ a, 1 ≤ a → a ≤ 35 → t.obj 0x2301 a = (s.judgeArea a).obj 0x2301 a))

/-- Keys and attestation (R406, R410): a slot that is not programmed takes the digest; a slot is revoked where it is
not the last good one; and a report of what is in force is made and, once ready, stands in its window.
Where it rests on a choice of the model: assumption log 4, 19. -/
def Obligations.KeysAndAttestation : Prop :=
  ∀ s : State,
    (∀ (via : Via) (slot : Fin 4), s.reachedBy via = true → s.dev ≠ .run →
      (slot.val ≠ 0 → s.obj 0x1100 6 ≠ 0 → bitAt (s.obj 0x1100 5) slot.val = false →
        exec (.keyProgram via slot) s = .next (s.rowAnswer via 0x1100 7 (4 + slot.val) ((s.setObj 0x1100 (slot.val + 1) (s.obj 0x1100 6)).setObj 0x1100 5
          (s.obj 0x1100 5 ||| (1 <<< slot.val))))) ∧
      ((upFrom 0 4).filter s.slotGood ≠ [slot.val] → exec (.keyRevoke via slot) s =
        .next (s.rowAnswer via 0x1100 7 (8 + slot.val) (s.setObj 0x1100 5 (s.obj 0x1100 5 ||| (1 <<< (4 + slot.val))))))) ∧
    (∀ via : Via, s.reachedBy via = true → s.obj 0x1110 3 ≠ 1 → exec (.attest via) s =
      .next (s.rowAnswer via 0x1110 2 1 ({ s with store := { s.store with report := s.reportBytes } }.setObj 0x1110 3 1))) ∧
    (s.obj 0x1110 3 = 1 →
      let base := configBase + 0x2400000
      ∃ t, exec .attestReady s = .next t ∧ t.obj 0x1110 3 = 2 ∧
        (∀ (j : Nat) b, s.store.report[j]? = some b → t.byte (base + j) = b) ∧
        (∀ a, a < base ∨ base + s.store.report.length ≤ a → t.byte a = s.byte a))

/-- Start-up, restart and reset (R411, R413, R414, R476): UNDERCOAT ends in FAULT, naming the area, or in PREP; a restart
from FAULT or PREP and a reset return to UNDERCOAT with crofts and cellars in reset and no start armed; and settle moves
HALT to HOLD with the replay count at 0. Where it rests on a choice of the model: assumption log 19, 66. -/
def Obligations.StartUp : Prop :=
  (∀ s : State, s.dev = .undercoat → ∃ t, exec .undercoat s = .next t ∧
    match s.steps1to3.1.faultArea with
    | some a => t.dev = .fault ∧ t.obj 0x2300 2 = a ∧ t.allset.cfgFail = true
    | none => t.dev = .prep) ∧
  (∀ (via : Via) (s : State), s.reachedBy via = true →
    (s.dev = .fault ∨ s.dev = .prep → ∃ t, exec (.restartCommand via) s = .next t ∧ t.dev = .undercoat ∧
      t.crofts = [] ∧ t.cellars = [] ∧ t.allset.cfgFail = false ∧ t.obj 0x2403 6 ≠ 1) ∧
    (s.dev = .prep ∨ s.dev = .set ∨ s.dev = .hold ∨ s.dev = .halt ∨ s.dev = .fault →
      ∃ t, exec (.reset via) s = .next t ∧ t.dev = .undercoat ∧ t.crofts = [] ∧ t.cellars = [] ∧
        t.obj 0x2403 6 ≠ 1) ∧
    (s.dev = .halt → s.obj 0x2401 9 = 2 ^ 64 - 1 → ∃ t, exec (.settle via) s = .next t ∧ t.dev = .hold ∧
      t.obj 0x2401 7 = 0 ∧ t.mem = s.mem ∧ t.crofts = s.crofts))

/-- Loading (R261, R416, R417): an accepted command records what is staged and reads running, and one for a full stencil
moves the device to PREP with every croft in mode 0; a completed load reports the failure of an image that is rejected,
and leaves memory as it was, or reports the image accepted, a full one with the device in SET; what its reads of the
staged words correct or cannot correct is counted (R122, R123). ALLSET (R419, R420, R430, R444): it is released once no
condition is unmet, and held low by the host; the line seen high in SET, where this device has released it, is latched; a
change of it wakes a device that sleeps; and without VSTBY nothing looks at it. Where it rests on a choice of the model:
assumption log 19, 64, 65, 105. -/
def Obligations.LoadingAndAllset : Prop :=
  ((∀ (via : Via) (s : State),
     let base := s.obj 0x2304 1
     let length := s.obj 0x2304 2
     let bind := s.obj 0x2304 4
     s.reachedBy via = true → base % 65536 = 0 → 64 ≤ length → base + length + bind ≤ 4 * cellarBytes →
     s.stageReady base (length + bind) = true → s.dev = .prep ∨ s.dev = .set ∨ s.dev = .hold ∨ s.dev = .halt →
     s.load.running = false → s.loaderRuns = true →
     ∃ t, exec (.loadCommand via) s = .next t ∧ t.load.running = true ∧ t.load.base = base ∧
       t.load.length = length ∧ t.load.bind = bind ∧ t.obj 0x2380 1 = 1 ∧ t.obj 0x2380 2 = 0 ∧
       t.obj 0x2380 3 = 0xFFFF ∧ t.mem = s.mem ∧
       (s.stagedByte (base + 6) ≠ 1 → t.dev = s.dev ∧ t.crofts = s.crofts) ∧
       (s.stagedByte (base + 6) = 1 → t.dev = .prep ∧ t.allset.released = false ∧ ∀ k, (t.croft k).mode = 0)) ∧
   (∀ s : State,
     let l := s.load
     let h0 := headerOf (s.staged l.base 64)
     let img := s.staged l.base (min l.length h0.length)
     let bind := s.staged (l.base + l.length) l.bind
     let s0 := (s.countCellarReads (l.base / 8) ((l.base + min l.length h0.length + 7) / 8)).countCellarReads
       ((l.base + l.length) / 8) ((l.base + l.length + l.bind + 7) / 8)
     let s1 := { s0 with load := { l with running := false } }.setObj 0x2380 7 (Config.sha3_256 bind)
     (l.running = false → exec .loadComplete s = .next s) ∧
     (l.running = true → ∃ t, exec .loadComplete s = .next t ∧ t.load.running = false ∧
       match s1.judgeImageLoad img bind with
       | .error f => t.obj 0x2380 1 = 3 ∧ t.obj 0x2380 2 = f.1 ∧ t.obj 0x2380 3 = f.2.1 ∧ t.obj 0x2380 4 = f.2.2 ∧
         t.dev = s.dev ∧ t.mem = s.mem ∧ (s.obj 0x2100 1 = 0 → t.cellars = s.cellars)
       | .ok _ => t.obj 0x2380 1 = 2 ∧ t.obj 0x2380 5 = (headerOf img).kind ∧
         ((headerOf img).kind = 1 → t.dev = .set)))) ∧
  (∀ s : State,
     (s.allsetWaits = 0 → s.tapDriving = false →
       exec .allsetRelease s = .next { s with allset := { s.allset with released := true } }) ∧
     (s.allsetWaits ≠ 0 → exec .allsetRelease s = .next s) ∧
     (∀ via : Via, s.reachedBy via = true →
       exec (.hostHoldWrite via 1) s =
         .next (s.rowAnswer via 0x2304 5 1 { s.setObj 0x2304 5 1 with allset := { s.allset with released := false } }) ∧
       (s.obj 0x2304 5 = 0 → exec (.hostHoldWrite via 0) s = .next (s.rowAnswer via 0x2304 5 0 (s.setObj 0x2304 5 0)))) ∧
     (∀ level, s.power.vstby = false → exec (.allsetSeen level) s = .next s) ∧
     (∀ level, s.power.vstby = true → level = false ∨ s.dev ≠ .set ∨ s.allset.released = false ∨ s.allset.seen = true →
       let u := { s with allset := { s.allset with input := level } }
       (level = s.allset.input ∨ s.obj 0x2100 1 = 0 ∨ s.obj 0x2100 1 = 4 → exec (.allsetSeen level) s = .next u) ∧
       (level ≠ s.allset.input → 1 ≤ s.obj 0x2100 1 → s.obj 0x2100 1 ≤ 3 →
         exec (.allsetSeen level) s = .next (u.wakeUp 6))) ∧
     (s.power.vstby = true → s.obj 0x2100 1 = 0 → s.dev = .set → s.allset.released = true → s.allset.seen = false → ∃ t,
       exec (.allsetSeen true) s = .next t ∧ t.allset.seen = true ∧ t.allset.released = true ∧
       t.allset.input = true ∧ t.mem = s.mem))

/-! ## Power, clocks and sleep (R430 to R455) -/

/-- The supplies (R431 to R433): VSTBY good leaves a device in STANDBY, or wakes it where VMAIN stands and auto-wake
is on; the loss of VSTBY leaves the store and the one-time-programmable cells; VMAIN good wakes for the cause that
waits; and its failure enters STANDBY from every other state, for reason 0xFE. Waking and clocks (R432, R438, R439):
WAKING goes on to UNDERCOAT once the reference is present, and says so in 0x2101.05 where it is not, with the green core
and PCIe up; a reference that comes back leaves the time as the held strokes counted it; a crystal that
fails is noted; a PLL of a powered domain locks; and the loss of the reference means HOLDOVER, and a halt of a
running device at the boundary. Where it rests on a choice of the model: assumption log 58. -/
def Obligations.SuppliesAndWaking : Prop :=
  (∀ s : State,
     (s.power.vstby = true → exec .vstbyGood s = .next s) ∧
     (s.power.vstby = false → s.power.vmain = false →
       exec .vstbyGood s = .next { s with power := { s.power with vstby := true } }) ∧
     (s.power.vstby = false → s.power.vmain = true → s.power.cause = none → s.dev = .standby → s.obj 0x2100 7 = 1 →
       ∃ t, exec .vstbyGood s = .next t ∧ t.dev = .waking ∧ t.obj 0x2100 1 = 0 ∧ t.obj 0x2100 0xA = 7) ∧
     (∃ t, exec .vstbyLoss s = .next t ∧ t.dev = .standby ∧ t.power.vstby = false ∧ t.obj 0x2100 1 = 4 ∧
       t.ring = .rest ∧ t.tap = .rest ∧ t.crofts = [] ∧ t.cellars = [] ∧ t.fuse = s.fuse ∧
       (∀ a, t.byte a = if keptBytes a then s.byte a else 0) ∧
       ∀ sub, sub ≤ 5 → t.obj 0x1100 sub = s.obj 0x1100 sub) ∧
     (s.power.vmain = true → exec .vmainGood s = .next s) ∧
     (s.power.vmain = false → s.power.cause = none → s.obj 0x2100 7 ≠ 1 →
       exec .vmainGood s = .next { s with power := { s.power with vmain := true } }) ∧
     (∀ why, s.power.vmain = false → s.power.cause = some why → s.dev = .standby → s.power.vstby = true →
       ∃ t, exec .vmainGood s = .next t ∧ t.dev = .waking ∧ t.obj 0x2100 1 = 0 ∧ t.obj 0x2100 0xA = why) ∧
     (s.dev = .standby → exec .powerFail s = .next { s with power := { s.power with vmain := false } }) ∧
     (s.dev ≠ .standby → ∃ t, exec .powerFail s = .next t ∧ t.dev = .standby ∧ t.power.vmain = false ∧
       t.obj 0x2100 1 = 4 ∧ t.obj 0x2100 0xA = 0xFE ∧ t.crofts = [] ∧ t.cellars = [] ∧
       (∀ a, t.byte a = if keptBytes a then s.byte a else 0))) ∧
  (∀ s : State,
     (∀ brdid : Fin 16, s.dev = .waking →
       (s.power.vmain = true → ∃ t, exec (.waking brdid true) s = .next t ∧ t.dev = .undercoat ∧
         t.power.brdid = brdid.val ∧ t.power.green = true) ∧
       exec (.waking brdid false) s = .next ({ s with
         power := { s.power with brdid := brdid.val, reference := false, waits := true, green := true } }.setObj 0x2101 5
           (s.obj 0x2101 5 ||| 1))) ∧
     (s.dev = .waking → s.power.vmain = true → s.power.waits = true →
       ∃ t, exec .referenceArrival s = .next t ∧ t.dev = .undercoat) ∧
     (s.power.waits = false →
       (s.power.reference = true → exec .referenceArrival s = .next s) ∧
       (s.power.reference = false → exec .referenceArrival s =
         .next { s.keepHeldTime with power := { s.power with reference := true } })) ∧
     exec .crystalTimeout s = .next (s.setObj 0x2101 3 0) ∧
     (∀ pll : Pll, s.obj 0x2100 1 ≠ 3 →
       let b := pllBit pll
       (s.pllPowered pll = true → exec (.pllLock pll) s =
         .next (s.setObj b.1 b.2.1 (s.obj b.1 b.2.1 ||| (1 <<< b.2.2)))) ∧
       (s.pllPowered pll = false → exec (.pllLock pll) s = .next s)) ∧
     (s.dev ≠ .standby → s.power.reference = true → ∃ t, exec .referenceLoss s = .next t ∧
       t.power.reference = false ∧ bitAt (t.obj 0x2101 5) 1 = true ∧ t.obj 0x2200 1 = 4 ∧ t.dev = s.dev ∧
       (s.dev = .run → 5 ∈ t.halts) ∧ (s.dev ≠ .run → t.halts = s.halts) ∧ t.mem = s.mem))

/-- Sleep by command and timer (R432, R447, R453): standby is entered from PREP, HALT and FAULT; a wake over the ring
leaves STANDBY, or waits for VMAIN; the timer wakes where it is set; and an alarm takes its value. The choice of a power
state (R441 to R445): RUN is kept where something holds it there or no state is worth its lead; else the deepest state
that is eligible and worthwhile is entered; and a wake from IDLE or NAP returns to RUN with its reason and nothing lost:
for a capture edge where an input is enabled, for an event where one for a service core is pending. Where it rests on a
choice of the model: assumption log 19, 58, 59. -/
def Obligations.SleepStates : Prop :=
  (∀ s : State,
     (∀ via : Via, s.reachedBy via = true →
       (s.dev = .prep ∨ s.dev = .halt ∨ s.dev = .fault → ∃ t, exec (.standbyCommand via) s = .next t ∧
         t.dev = .standby ∧ t.obj 0x2100 1 = 4 ∧ t.crofts = [] ∧
         (∀ a, t.byte a = if keptBytes a then s.byte a else 0)) ∧
       exec (.wakeCommand via) s = .next (s.rowAnswer via 0x2100 6 2 s) ∧
       ∀ (i : Fin 4) (value : BitVec 64), exec (.wakeAlarmWrite via i value) s =
         .next (s.rowAnswer via 0x2102 (i.val + 1) value.toNat (s.setObj 0x2102 (i.val + 1) (value.toNat % 2 ^ 33)))) ∧
     (s.dev = .standby → s.obj 0x2100 1 = 4 → s.primaryClosed = false →
       (s.power.vmain = true → ∃ t, exec (.wakeCommand .ring) s = .next t ∧ t.dev = .waking ∧
         t.obj 0x2100 1 = 0 ∧ t.obj 0x2100 0xA = 2) ∧
       (s.power.vmain = false → exec (.wakeCommand .ring) s =
         .next { s with power := { s.power with cause := some 2 } })) ∧
     (s.obj 0x2100 8 = 0 → exec .standbyWakeTimer s = .next s) ∧
     (s.obj 0x2100 8 ≠ 0 → s.dev = .standby → s.power.vstby = true → s.power.vmain = true →
       ∃ t, exec .standbyWakeTimer s = .next t ∧ t.dev = .waking ∧ t.obj 0x2100 0xA = 8)) ∧
  (∀ s : State,
     let captureOn := (upFrom 0 8).any (fun i => s.obj (0x2220 + i) 1 != 0)
     let coreEvent := (upFrom 0 16).any (fun k => s.topPending k != 0xFFFF)
     (s.dev ≠ .standby → s.obj 0x2100 1 = 0 →
       (s.mustRun = true ∨ s.chosenState = 0 → exec .powerStateChoice s = .next s) ∧
       (s.mustRun = false → s.chosenState ≠ 0 → ∃ t, exec .powerStateChoice s = .next t ∧
         t.obj 0x2100 1 = s.chosenState ∧ (s.chosenState = 4 → t.dev = .standby) ∧
         (s.chosenState = 1 ∨ s.chosenState = 2 → t.dev = s.dev ∧ t.mem = s.mem ∧ t.crofts = s.crofts))) ∧
     (∀ cause : WakeCause, cause ≠ .armed → (cause = .tcap → captureOn = true) → (cause = .eventSource → coreEvent = true) →
       s.obj 0x2100 1 = 1 ∨ s.obj 0x2100 1 = 2 → ∃ t, exec (.powerStateWake cause) s = .next t ∧ t.obj 0x2100 1 = 0 ∧ t.obj 0x2100 0xA = WakeCause.code cause ∧
         t.mem = s.mem ∧ t.crofts = s.crofts ∧ t.dev = s.dev ∧ t.power.armed = none) ∧
     (captureOn = false → exec (.powerStateWake .tcap) s = .next s) ∧
     (coreEvent = false → exec (.powerStateWake .eventSource) s = .next s) ∧
     (∀ at', s.power.armed = some at' → (s.nowNs + 2 ^ 32 - at' % 2 ^ 32) % 2 ^ 32 < 2 ^ 31 →
       s.obj 0x2100 1 = 1 ∨ s.obj 0x2100 1 = 2 → ∃ t, exec (.powerStateWake .armed) s = .next t ∧
         t.obj 0x2100 1 = 0 ∧ t.obj 0x2100 0xA = 1 ∧ t.mem = s.mem) ∧
     (∀ cause : WakeCause, s.obj 0x2100 1 = 0 → exec (.powerStateWake cause) s = .next s))

/-- The domain commands (R436, R450): a cellar that nothing names, and a core held in reset, go OFF; both come ON again;
and a hamlet or cellar that a safety shutdown cut returns once it has cooled. Aging (R451, R452, R455): a pass starts by
command, or at its period, and its end counts it and records the drift, margin and grade of a monitor that was measured;
one whose domain is OFF or in RETAIN reads no grade. Where it rests on a choice of the model: assumption log 19, 60, 61. -/
def Obligations.PowerDomainsAndAging : Prop :=
  (∀ (via : Via) (s : State), s.reachedBy via = true →
     let d := s.obj 0x2111 1
     (∀ n, n < 4 → d = 1096 + n →
       (s.cellarNamed n = false → exec (.domainOff via) s = .next (s.rowAnswer via 0x2111 2 1 ((s.loseCellar n).setOff d true))) ∧
       (s.power.cut.contains (8 + n) = false →
         (s.power.off.contains d = true →
           exec (.domainOn via) s = .next (s.rowAnswer via 0x2111 2 2 ((s.setOff d false).cellarUp n))) ∧
         (s.power.off.contains d = false → exec (.domainOn via) s = .next (s.rowAnswer via 0x2111 2 2 s))) ∧
       (s.power.cut.contains (8 + n) = true → s.power.stack.getD n 0 ≤ 95 → exec (.domainRestore via) s =
         .next (s.rowAnswer via 0x2111 2 3 ({ s with power := { s.power with
           cut := s.power.cut.filter (fun x => x != 8 + n) } }.cellarUp n)))) ∧
     (∀ k, k < 16 → d = 1100 + k →
       ((s.core k).held = true → exec (.domainOff via) s = .next (s.rowAnswer via 0x2111 2 1 (s.setOff d true))) ∧
       exec (.domainOn via) s = .next (s.rowAnswer via 0x2111 2 2 (s.setOff d false))) ∧
     (∀ h, h < 8 → d = 1056 + h → s.power.cut.contains h = true → s.objInt 0x2120 (h + 1) 8 ≤ 95 →
       ∃ t, exec (.domainRestore via) s = .next t ∧ t.power.cut = s.power.cut.filter (fun x => x != h) ∧
         ∀ c, c < 128 → t.shutState (h * 128 + c) = 3)) ∧
  (∀ s : State,
     (∀ via : Via, s.reachedBy via = true → s.power.aging = false → exec (.agingMeasure (some via)) s =
       .next (s.rowAnswer via 0x2130 2 1 { s with power := { s.power with aging := true } })) ∧
     (s.obj 0x2130 1 ≠ 0 → s.power.aging = false → s.greenOn = true → exec (.agingMeasure none) s =
       .next { s with power := { s.power with aging := true } }) ∧
     (s.power.aging = true → ∀ (drift : Int) (margin : Nat), margin < 4096 →
       s.measured 0x2148 1 = true →
       ∃ t, exec (.agingPassComplete [⟨0x2148, 1, some (drift, margin)⟩]) s = .next t ∧ t.power.aging = false ∧
         t.obj 0x2130 3 = satAdd 32 (s.obj 0x2130 3) 1 ∧
         (∀ i sub, isMonitor i sub = true → s.measured i sub = false → t.obj i sub = objDefault i sub) ∧
         t.obj 0x2148 1 = pattern 16 drift + margin <<< 16 + agingGrade drift margin <<< 28))

/-- Heat (R430, R448, R449): the highest reading of each die's sensors stands in its object and the level rises at once
to the highest die value; it falls by one where every die reads below its edge less 2 °C; and at N_j rotas one thermal
fallow is asked for. Safety shutdowns (R450): a hot hamlet or cellar loses its power and content, a running device halts
at the next boundary; and a hot green core means STANDBY, for reason 0xFE. Where it rests on a choice of the model:
assumption log 19, 58. -/
def Obligations.HeatAndShutdowns : Prop :=
  (∀ s : State,
     (∀ r : Readings, s.power.vstby = false → exec (.sensorRead r) s = .next s) ∧
     (∀ r : Readings, s.power.vstby = true → ∃ t, exec (.sensorRead r) s = .next t ∧
       (∀ h, h < 8 → t.obj 0x2120 (h + 1) = i8 ((r.hamlets.map hottest).getD h 0)) ∧ t.obj 0x2120 9 = i8 (hottest r.green) ∧
       t.power.stack = (upFrom 0 4).map (fun n => r.cellars.getD n 0) ∧
       t.obj 0x2120 0xC = max (s.obj 0x2120 0xC)
         ((t.dieReadings.map (fun x => dieValue x.1 x.2)).foldl max 0) ∧
       t.obj 0x2103 1 = r.vmain % 2 ^ 32 ∧ t.obj 0x2103 2 = r.vstby % 2 ^ 16 ∧
       t.obj 0x2103 3 = r.power % 2 ^ 32 ∧ t.obj 0x2103 4 = r.energy % 2 ^ 64 ∧ t.mem = s.mem) ∧
     (let j := s.obj 0x2120 0xC
      let cool := s.dieReadings.all (fun x => decide (x.1 < x.2 + 2 * ((j : Int) - 1) - 2))
      (j ≠ 0 → cool = true → exec .thermalLevelFall s = .next (s.setObj 0x2120 0xC (j - 1))) ∧
      (j = 0 ∨ cool = false → exec .thermalLevelFall s = .next s) ∧
      (s.dev = .run → j ≠ 0 → s.obj 0x2121 j ≤ s.power.rotas → s.bell.thermal = none →
        exec .thermalRequest s = .next ({ s with
          power := { s.power with rotas := 0 }
          bell := { s.bell with thermal := some s.requestExec } }.bump 0x2120 0xD)))) ∧
  (∀ s : State,
     (∀ h : Hamlet, 115 ≤ s.objInt 0x2120 (h.val + 1) 8 → s.power.cut.contains h.val = false →
       ∃ t, exec (.safetyShutdown (.hamlet h)) s = .next t ∧ t.power.cut = h.val :: s.power.cut ∧
         (∀ c, c < 128 → t.croft (h.val * 128 + c) = .blank) ∧ (s.dev = .run → 6 ∈ t.halts)) ∧
     (∀ n : Cellar, 110 ≤ s.power.stack.getD n.val 0 → s.power.cut.contains (8 + n.val) = false →
       ∃ t, exec (.safetyShutdown (.cellar n)) s = .next t ∧ t.power.cut = (8 + n.val) :: s.power.cut ∧
         t.cellar n.val = .blank ∧ t.obj (cObj n.val) 1 = 0 ∧ (s.dev = .run → 6 ∈ t.halts) ∧
         ∀ a, t.byte a = if n.val * cellarBytes ≤ a ∧ a < (n.val + 1) * cellarBytes then 0 else s.byte a) ∧
     (110 ≤ s.objInt 0x2120 9 8 → s.dev ≠ .standby → ∃ t, exec (.safetyShutdown .green) s = .next t ∧
       t.dev = .standby ∧ t.obj 0x2100 1 = 4 ∧ t.obj 0x2100 0xA = 0xFE))

/-! ## The ring (R456 to R468) -/

/-- A command with the expected alive value (R465, R466, R470): it is counted, the alive counter steps, the command is
performed, and its RESPONSE is due: status 0 and the value or the bytes read, or the abort code; a memory command is
packets of initiator 1113, and its RESPONSE is due once their answers have come. What leaves on the ring (R461, R463,
R464, R465, R468): a RESPONSE that is due is sent, stored, and followed by what it carries; a repeated command is
answered again by the stored one; one out of sequence is refused with a RESPONSE of its own and executes nothing; a
broadcast WRITE is performed and goes on; and an ASSIGN gives the module its address and goes on with the next. Where it
rests on a choice of the model: assumption log 19, 40, 69. -/
def Obligations.RingCommandsAndAnswers : Prop :=
  (∀ (f : RingFrame) (s : State),
     let bs := f.bytes
     let p := fPayload bs
     let i := ringField p 0 2
     let sub := ringField p 2 1
     let s1 := (s.bump 0x1010 8).setObj 0x1010 4 (aliveNext (s.obj 0x1010 4))
     let answers := fun (c : Instr) (u : State) (payload : List Byte) (a : After) =>
       exec c s = .next { u with ring := { u.ring with due := some (makeFrame 3 (fSrc bs) (u.obj 0x1010 1)
         (fAlive bs) (u.obj 0x1010 4) payload, true, a) } }
     s.hears .primary = true → s.route .primary bs = .consume → (s.bump 0x1010 8).frameFault f = none →
     s.obj 0x2100 1 = 0 → s.ring.due = none → s.ring.move = none → fAlive bs = s.obj 0x1010 4 →
     (fType bs = 1 →
       (∀ u v, s1.dictRead i sub = .ok (u, v) →
         answers (.read .primary f) u (leBytes 4 0 ++ leBytes (objBits i sub / 8) v) .nothing) ∧
       (∀ c, s1.dictRead i sub = .error c →
         answers (.read .primary f) (s1.bump 0x1010 0xB) (leBytes 4 c) .nothing)) ∧
     (fType bs = 2 → ∀ u a, s1.manage i sub (ringField p 3 1) (ringField p 4 (ringField p 3 1)) = .ok (u, a) →
       answers (.writeObject .primary f) u (leBytes 4 0) a) ∧
     (fType bs = 6 ∨ fType bs = 7 →
       let c : Instr := if fType bs = 6 then .mread .primary f else .mwrite .primary f
       let n := ringField p 6 1
       let place := placeOf (ringField p 0 6)
       let due := fun (payload : List Byte) => some (makeFrame 3 (fSrc bs) (s.obj 0x1010 1) (fAlive bs)
         (aliveNext (s.obj 0x1010 4)) payload, true, After.nothing)
       (place = none → ∃ u, exec c s = .next u ∧ u.ring.due = due (leBytes 4 (abMemory opDecode)) ∧
         u.obj 0x1010 0xB = satAdd 32 (s.obj 0x1010 0xB) 1 ∧ u.ring.move = none ∧ u.mem = s.mem) ∧
       (∀ o, place = some (.config o) → n = 1 ∨ n = 2 ∨ n = 4 ∨ n = 8 →
         (s.reaches 1113 (.config o) n = true →
           (fType bs = 6 → ∃ u, exec c s = .next u ∧ u.ring.due = due (leBytes 4 0 ++ s.configBytes o n) ∧
             u.ring.move = none ∧ u.mem = s.mem) ∧
           (fType bs = 7 → 0x2000000 ≤ o → o + n ≤ 0x2200000 → ∃ u, exec c s = .next u ∧
             u.ring.due = due (leBytes 4 0) ∧ u.ring.move = none ∧
             u.mem = (s.setBytes (configBase + o) ((p.drop 7).take n)).mem)) ∧
         (s.waitsFor 1034 1113 = true → configListed o n = true → ∃ u, exec c s = .next u ∧
           u.ring.due = none ∧ u.ring.move = some ⟨bs, true, 0, [], none⟩ ∧ u.mem = s.mem)))) ∧
  (∀ s : State,
     (∀ r rest, s.ring.refused = r :: rest → s.ring.move = none → s.primaryClosed = false → exec .response s =
       .next { s with ring := { s.ring with sentP := s.ring.sentP ++ [r], refused := rest } }) ∧
     (∀ (m : RingMove) op data, s.ring.refused = [] → s.ring.due = none → s.ring.move = some m → m.answer = some (op, data) →
       s.primaryClosed = false →
       let out := fun (payload : List Byte) => makeFrame 3 (fSrc m.frame) (s.obj 0x1010 1) (fAlive m.frame)
         (s.obj 0x1010 4) payload
       (op = opData ∨ op = opAck → m.count ≤ m.moved + packetPart (m.count - m.moved) →
         ∃ u, exec .response s = .next u ∧ u.ring.sentP = s.ring.sentP ++ [out (leBytes 4 0 ++ (m.got ++ data))] ∧
           u.ring.move = none ∧ u.ring.due = none ∧ u.mem = s.mem) ∧
       (op ≠ opData → op ≠ opAck → ∃ u, exec .response s = .next u ∧
         u.ring.sentP = s.ring.sentP ++ [out (leBytes 4 (abMemory op))] ∧
         u.obj 0x1010 0xB = satAdd 32 (s.obj 0x1010 0xB) 1 ∧ u.ring.move = none ∧ u.mem = s.mem)) ∧
     (∀ r keep a, s.ring.refused = [] → s.ring.due = some (r, keep, a) → s.ring.move = none → s.primaryClosed = false →
       exec .response s =
       .next ({ s with ring := { s.ring with
         sentP := s.ring.sentP ++ [r], due := none,
         stored := if keep then some r else s.ring.stored } }.afterEffect a)) ∧
     (∀ (f : RingFrame) r, s.hears .primary = true → s.route .primary f.bytes = .consume →
       (s.bump 0x1010 8).frameFault f = none → s.obj 0x2100 1 = 0 → s.ring.due = none → s.ring.move = none →
       fType f.bytes = 1 → fAlive f.bytes ≠ s.obj 0x1010 4 → fAlive f.bytes ≠ 0 →
       (fAlive f.bytes = alivePrev (s.obj 0x1010 4) → s.ring.stored = some r →
         exec (.read .primary f) s = .next ((s.bump 0x1010 8).sendP r)) ∧
       (fAlive f.bytes ≠ alivePrev (s.obj 0x1010 4) ∨ s.ring.stored = none → ∃ t, exec (.read .primary f) s = .next t ∧
         t.ring.refused = s.ring.refused ++ [makeFrame 3 (fSrc f.bytes) (s.obj 0x1010 1) (fAlive f.bytes) (s.obj 0x1010 4)
           (leBytes 4 abSequence)] ∧
         t.ring.due = none ∧ t.obj 0x1010 4 = s.obj 0x1010 4 ∧ t.obj 0x1010 0xB = satAdd 32 (s.obj 0x1010 0xB) 1)) ∧
     (∀ (f : RingFrame) u a,
       let p := fPayload f.bytes
       let n := ringField p 3 1
       s.hears .primary = true → 3 ≤ f.bytes.length → fDest f.bytes = ringBroadcast → fType f.bytes = 2 →
       (s.bump 0x1010 8).frameFault f = none → s.obj 0x2100 1 = 0 →
       (s.bump 0x1010 8).manage (ringField p 0 2) (ringField p 2 1) n (ringField p 4 n) = .ok (u, a) →
       exec (.broadcastWrite f) s = .next ((u.afterEffect a).sendOn s.branchClosed f.bytes)) ∧
     (∀ f : RingFrame, s.hears .primary = true → 3 ≤ f.bytes.length → fType f.bytes = 4 →
       fDest f.bytes ≠ ringBroadcast → s.frameFault f = none →
       let next := ringField (fPayload f.bytes) 0 2
       let out := withNext f.bytes (next + 1)
       next ≤ 0x4000 → ∃ t, exec (.assign .primary f) s = .next t ∧ t.obj 0x1010 1 = next ∧ t.obj 0x1010 4 = 1 ∧
         t.obj 0x1010 3 = 0 ∧ t.ring.stored = none ∧ t.mem = s.mem ∧
         (s.branchClosed = true → t.obj 0x1010 2 = 0 ∧ t.ring.sentP = s.ring.sentP ++ [out]) ∧
         (s.branchClosed = false → t.obj 0x1010 2 = next + 1 ∧ t.ring.assign = true ∧
           t.ring.sentB = s.ring.sentB ++ [out])))

/-- Frames that pass or fall (R459 to R462) and notifications (R478): a frame for another module goes out on the port of
its range as it came; one to a reserved destination, or with a code violation, is dropped and counted; with the primary
stile closed what comes on primary in goes out on primary out; and a pending source that targets the ring sends its
NOTIFY, of those that wait the first by priority and source, from a module that has an address (R460). Stiles and
receivers (R457, R463): the primary stile closes for its time and opens again; the branch stile is closed and opened by
command; and a branch receiver that loses lock closes it and raises the event. Where it rests on a choice of the model:
assumption log 19, 69. -/
def Obligations.RingForwardingAndStiles : Prop :=
  (∀ s : State,
     (∀ (port : RingPort) (f : RingFrame), s.hears port = true →
       (s.route port f.bytes = .toBranch →
         exec (.frameForward port f) s = .next { s with ring := { s.ring with
           sentB := s.ring.sentB ++ [f.bytes] } }) ∧
       (s.route port f.bytes = .toPrimary →
         exec (.frameForward port f) s = .next { s with ring := { s.ring with
           sentP := s.ring.sentP ++ [f.bytes] } }) ∧
       (s.route port f.bytes = .drop → exec (.ringFrameDiscard port f) s = .next (s.bump 0x1010 0xA)) ∧
       (s.route port f.bytes = .consume → f.violation = true →
         exec (.ringFrameDiscard port f) s = .next ((s.bump 0x1010 8).bump 0x1010 0xA))) ∧
     (∀ f : RingFrame, s.primaryClosed = true →
       exec (.frameForward .primary f) s = .next { s with ring := { s.ring with sentP := s.ring.sentP ++ [f.bytes] } }) ∧
     (∀ src : Fin 4096,
       let cfg := s.evConfig src.val
       s.evPowered = true → s.evPending src.val = true → bitAt cfg 0 = true → bits cfg 5 3 = 3 →
       s.primaryClosed = false →
       (s.obj 0x1010 1 = 0 → exec (.notify src) s = .next s) ∧
       (s.obj 0x1010 1 ≠ 0 → (∀ x, x ∈ s.ring.notes → s.notifies x = true → s.evFirst src.val x = src.val) →
         exec (.notify src) s = .next ({ s with ring := { s.ring with
           notes := s.ring.notes.filter (fun x => x != src.val) } }.sendP (makeFrame 5 0 (s.obj 0x1010 1) 0 0
             (leBytes 2 src.val ++ leBytes 1 (bits cfg 1 4) ++ leBytes 1 0 ++
               leBytes 2 (s.obj (evIndex src.val) (0x13 + src.val % 16))))))) ∧
     (∀ src other : Fin 4096, other.val ∈ s.ring.notes → s.notifies other.val = true →
       s.evFirst src.val other.val ≠ src.val → exec (.notify src) s = .next s)) ∧
  (∀ s : State,
     (∀ via : Via, s.reachedBy via = true →
       (∀ ms : BitVec 24, ms ≠ 0 → exec (.stileClosePrimary via ms) s =
         .next (s.rowAnswer via 0x1010 7 (1 + 256 * ms.toNat) { s with ring := { s.ring with closedP := some ms.toNat } })) ∧
       exec (.stileCloseBranch via) s = .next (s.rowAnswer via 0x1010 7 2 { s with ring := { s.ring with closedB := true } }) ∧
       (s.obj 0x1010 6 ≠ 0 → s.ring.lockB = true → exec (.stileOpenBranch via) s =
         .next (s.rowAnswer via 0x1010 7 3 { s with ring := { s.ring with closedB := false } }))) ∧
     exec .primaryStileReopen s = .next { s with ring := { s.ring with closedP := none } } ∧
     (s.ring.lossB = false → exec .branchLockLoss s =
       .next ({ s with ring := { s.ring with lockB := false, lossB := true } }.fire 1363 0)) ∧
     (s.ring.lossB = true → exec .branchLockLoss s = .next s) ∧
     (∀ locked : Bool, exec (.receiverLock .primary locked) s =
         .next { s with ring := { s.ring with lockP := locked } } ∧
       exec (.receiverLock .branch locked) s =
         .next { s with ring := { s.ring with lockB := locked, lossB := !locked && s.ring.lossB } }))

/-! ## Events (R477 to R480) -/

/-- A source that fires (R477, R478, R479): a source that R479 does not list never fires; a listed one sets the bit of
its cause in its latch; while enabled it becomes pending and is delivered once, and missed where it was pending already;
one for a service core wakes the device from IDLE and NAP (R444); a software source is raised by command; and the message
of a pending vector is sent once nothing masks it, of those that wait the first by priority and source. Where it rests on
a choice of the model: assumption log 19, 53, 76. -/
def Obligations.EventsFire : Prop :=
  ∀ s : State,
    (∀ (src : Fin 4096) (cause : Fin 16),
      let i := evIndex src.val
      let j := src.val % 16
      let latched := s.setObj i (0x13 + j) (s.obj i (0x13 + j) ||| (1 <<< cause.val))
      (causeListed src.val cause.val = false → exec (.eventFire src cause) s = .next s) ∧
      (s.power.vstby = false → exec (.eventFire src cause) s = .next s) ∧
      (causeListed src.val cause.val = true → s.power.vstby = true → s.evPowered = true →
        (bitAt (s.evConfig src.val) 0 = false → exec (.eventFire src cause) s = .next latched) ∧
        (bitAt (s.evConfig src.val) 0 = true → s.evPending src.val = true → exec (.eventFire src cause) s =
          .next (latched.setObj i 0x12 (s.obj i 0x12 ||| (1 <<< j)))) ∧
        (bitAt (s.evConfig src.val) 0 = true → s.evPending src.val = false →
          ∃ t, exec (.eventFire src cause) s = .next t ∧ t.evPending src.val = true ∧
            t.obj i (0x13 + j) = s.obj i (0x13 + j) ||| (1 <<< cause.val) ∧
            (bits (s.evConfig src.val) 5 3 = 1 →
              bitAt (t.obj (0x5310 + bits (s.evConfig src.val) 8 12 % 16) 3) 2 = true ∧
              (s.obj 0x2100 1 = 1 ∨ s.obj 0x2100 1 = 2 → t.obj 0x2100 1 = 0 ∧ t.obj 0x2100 0xA = 5)) ∧
            (bits (s.evConfig src.val) 5 3 = 3 → src.val ∈ t.ring.notes) ∧
            (bits (s.evConfig src.val) 5 3 = 2 → s.msixBlocked (bits (s.evConfig src.val) 8 12) = false →
              t.msixSent = s.msixSent ++ [bits (s.evConfig src.val) 8 12])))) ∧
    (∀ (via : Via) (src : BitVec 16), s.reachedBy via = true → 2048 ≤ src.toNat → src.toNat < 4096 →
      exec (.softwareRaise via src) s = .next (s.rowAnswer via 0x6000 0x23 src.toNat (s.fire src.toNat 0))) ∧
    (∀ v : Fin 64,
      let first := ∀ w, w < 64 → s.msixPending.getLsbD w = true → s.msixBlocked w = false → s.vectorBefore v.val w = true
      (s.msixPending.getLsbD v.val = true → s.msixBlocked v.val = false → first →
        exec (.msixPendingSend v) s = .next { s with
          msixPending := s.msixPending &&& ~~~(1#64 <<< v.val), msixSent := s.msixSent ++ [v.val] }) ∧
      (s.msixPending.getLsbD v.val = false ∨ s.msixBlocked v.val = true ∨ ¬ first →
        exec (.msixPendingSend v) s = .next s))

/-! ## The host port, the mirror and the test port (R472, R473, R497 to R501) -/

/-- The endpoint and its windows (R472, R473, R497, R498, R509): requests get Retry Status until PERST_L is high and the
endpoint has power; then configuration space gives what the manual fixes of it, BAR0 reads and writes objects by slot,
and BAR2 the device address space as packets of initiator 1112, where an address that nothing lists is aborted, counted
and, first of its kind, logged; and PERST_L low puts the endpoint alone into reset. The octet block and the test port
(R430, R473, R500, R501): bytes before byte 31 wait in the staging buffer, and the write that covers it writes the
object; an instruction that does not drive only loads, and SAMPLE/PRELOAD takes the lands where the green core has power;
one that drives holds ALLSET low; leaving it returns to IDCODE in Test-Logic-Reset; and without VSTBY the port does
nothing. Where it rests on a choice of the model: assumption log 3, 41, 68, 70, 71, 112, 113. -/
def Obligations.HostAndTestPorts : Prop :=
  (∀ s : State,
     (∀ (kind : CfgKind) (link : BitVec 9),
       (s.pcie.perst = false ∨ s.granted 1143 = false → exec (.configurationRequest kind link) s =
         .next { s with pcie := { s.pcie with completion := some (2, []) } }) ∧
       (s.pcie.perst = true → s.granted 1143 = true → ∃ t, exec (.configurationRequest kind link) s = .next t ∧
         t.pcie.served = true ∧ t.obj 0x1020 2 = link.toNat ∧ t.mem = s.mem ∧
         match kind with
         | .read reg => ∃ bs, t.pcie.completion = some (0, bs) ∧ bs.length = 4 ∧
             ∀ v, s.cfgRegister reg.toNat = some v → leNat bs = v.toNat
         | .write reg v => t.pcie.completion = some (0, []) ∧
             t.pcie.bar0 = (if reg = 4 then barPut 0 false s.pcie.bar0 v
               else if reg = 5 then barPut 0 true s.pcie.bar0 v else s.pcie.bar0) ∧
             t.pcie.bar2 = (if reg = 6 then barPut 2 false s.pcie.bar2 v
               else if reg = 7 then barPut 2 true s.pcie.bar2 v else s.pcie.bar2)
         | .msixRead => t.pcie.completion = some (0, s.msixCapability)
         | .msix e m => t.pcie.completion = some (0, []) ∧ t.msixEnable = e ∧ t.msixFuncMask = m
         | .aerRead => ∃ bs, t.pcie.completion = some (0, bs) ∧ bs.length = 20 ∧
             leNat (bs.take 4) = (if s.pcie.aborted.isSome then 0x8000 else 0)
         | .aerClear => t.pcie.completion = some (0, []) ∧ t.pcie.aborted = none)) ∧
     (exec (.perst true) s = .next { s with pcie := { s.pcie with perst := true } }) ∧
     (∃ t, exec (.perst false) s = .next t ∧ t.pcie = .rest ∧ t.msixEnable = false ∧ t.msixPending = 0 ∧
       t.obj 0x1020 2 = 0 ∧ t.dev = s.dev ∧ ∀ a, a < msixTable ∨ msixTable + 0x400 ≤ a → t.byte a = s.byte a) ∧
     (s.pcie.served = false → ∀ off acc, exec (.bar0Access off acc) s = .next s ∧
       exec (.bar2Access off acc) s = .next s) ∧
     (s.pcie.served = true → s.obj 0x2100 1 = 0 →
       (∀ off, off < 0x2880000 →
         let i := 0x1000 + off / 0x800
         let sub := off % 0x800 / 8
         (∀ n u v, slotAccess off n = true → s.dictRead i sub = .ok (u, v) →
           let bs := leBytes n (v >>> (8 * (off % 8)))
           ∃ t, exec (.bar0Access off (.read n)) s = .next t ∧ t.answered 1112 opData bs ∧
             ({ u with pcie := { u.pcie with completion := some (0, bs) } } : State).traffic t 1112 0) ∧
         (∀ (data : List Byte) u a, off % 8 = 0 → larderSize data.length = true →
           s.manage i sub data.length (leNat data) = .ok (u, a) →
           ∃ t, exec (.bar0Access off (.write data)) s = .next t ∧ t.answered 1112 opAck [] ∧
             (u.afterEffect a).traffic t 1112 0) ∧
         (∀ data : List Byte, slotAccess off data.length = false → ∃ t, exec (.bar0Access off (.write data)) s = .next t ∧
           t.answered 1112 opDecode [] ∧ t.obj 0x1020 4 = satAdd 32 (s.obj 0x1020 4) 1 ∧ t.mem = s.mem ∧
           t.pcie.aborted = s.pcie.aborted.or (some ⟨0, off, data.length⟩))) ∧
       (s.pcie.moves = [] → ∀ off, placeOf (s.obj 0x1020 1 + off) = none →
         (∀ n, ∃ t, exec (.bar2Access off (.read n)) s = .next t ∧ t.pcie.completion = some (4, []) ∧
           t.mem = s.mem ∧ t.pcie.moves = []) ∧
         (∀ data : List Byte, ∃ t, exec (.bar2Access off (.write data)) s = .next t ∧
           t.obj 0x1020 4 = satAdd 32 (s.obj 0x1020 4) 1 ∧ t.mem = s.mem ∧ t.pcie.moves = [] ∧
           t.pcie.aborted = s.pcie.aborted.or (some ⟨2, off, data.length⟩))) ∧
       (s.pcie.moves = [] → ∀ off o, placeOf (s.obj 0x1020 1 + off) = some (.config o) →
         (∀ n, s.reaches 1112 (.config o) n = true → ∃ t, exec (.bar2Access off (.read n)) s = .next t ∧
           t.mem = s.mem ∧ t.pcie.completion = some (0, s.configBytes o n) ∧ t.pcie.moves = []) ∧
         (∀ data : List Byte, s.reaches 1112 (.config o) data.length = true → 0x2000000 ≤ o →
           o + data.length ≤ 0x2200000 → ∃ t, exec (.bar2Access off (.write data)) s = .next t ∧
             t.answered 1112 opAck [] ∧ t.mem = (s.setBytes (configBase + o) data).mem ∧ t.pcie.moves = [])) ∧
       (∀ (m : HostMove) rest off acc, s.pcie.moves = m :: rest → ∃ t, exec (.bar2Access off acc) s = .next t ∧
         t.pcie.moves = m :: rest ++ [⟨off, s.obj 0x1020 1 + off, acc, 0, [], none⟩] ∧ t.mem = s.mem))) ∧
  (∀ s : State,
     (∀ (init : Initiator) (off : Nat) (data : List Byte), octetAccess off data.length = true →
       let laid := { s.mirror with buffer := overlay s.mirror.buffer off (data.map (fun b => (b, true))) }
       let s1 := { s with mirror := laid }
       let ends := fun (x : State) (tgt : Nat) => ∃ t, exec (.octetDataWrite init off data) s = .next t ∧
         t.answered init.val opAck [] ∧ x.traffic t init.val tgt
       (init.val ≠ 1112 → s.reaches init.val (.mirror (offOctet + off)) data.length = true → s.dev ≠ .standby →
         (off + data.length < 32 → ends s1 1033) ∧
         (off + data.length = 32 → s.selected = (0x2403, 4) →
           ends (s1.setObj 0x2403 4 (leNat (laid.buffer.take 8))) 1033)) ∧
       (init.val = 1112 → s.pcie.served = true → s.obj 0x2100 1 = 0 →
         (off + data.length < 32 → ends s1 0) ∧
         (∀ row u a, off + data.length = 32 → objRow s.selected.1 s.selected.2 = some row →
           s1.manage s.selected.1 s.selected.2 row.size (leNat (laid.buffer.take row.size)) = .ok (u, a) →
           ends (u.afterEffect a) 0))) ∧
     (s.power.vstby = false → ∀ code testEn, exec (.tapInstruction code testEn) s = .next s ∧
       exec .tapInstructionExit s = .next s) ∧
     (s.power.vstby = true →
       (∀ (code : BitVec 8) (testEn : Bool),
         let s1 := { s with tap := ⟨code, testEn, .runTestIdle, s.freeKey 0, s.tap.sampled⟩ }.freeNext
         (s.tapDriving = false → s1.tapDriving = false →
           (code ≠ 2 ∨ s1.greenOn = false → exec (.tapInstruction code testEn) s = .next s1) ∧
           (code = 2 → s1.greenOn = true → exec (.tapInstruction code testEn) s =
             .next { s1 with tap := { s1.tap with sampled := some s1.landSample } })) ∧
         (s1.tapDriving = true → exec (.tapInstruction code testEn) s =
           .next { s1 with allset := { s.allset with released := false } })) ∧
       (∃ t, exec .tapInstructionExit s = .next t ∧ t.tapDriving = false ∧ t.tapData = .idcode ∧ t.dev = s.dev ∧
         t.tap = ⟨1, s.tap.testEn, .testLogicReset, s.freeKey 0, s.tap.sampled⟩)))

/-! ## The BPs of a croft (R40 to R55) -/

/-- One stroke of the BPs of a croft in mode 1 (R41, R49, R50, R54): with HOLD clear, the output register of an EVAL
word takes the bit of TT that the four operands number, and that of an EVAL_LATCH word the bit that A, B and C
number, which is latched as pending state as well; with HOLD set it keeps its value; and history bit t takes the
output. Where it rests on a choice of the model: assumption log 7. -/
def Obligations.BpStroke : Prop :=
  ∀ (s : State) (k t b : Nat), b < 64 → t < 1024 → (s.croft k).mode = 1 →
    let c := s.croft k
    let p := fetchPayload c t b
    let ctx : ReadCtx := ⟨c, t, s.lag, false, s.freeKey (k * 1024)⟩
    let q := ctx.operands b p
    let u := ((s.croftStroke k t).1.croft k).bp b
    (wHold p = true → u.out = (c.bp b).out) ∧
    (wHold p = false → wClass p = 0 → wSub p = 0 → u.out = (wTT p).getLsbD q.vNib) ∧
    (wHold p = false → wClass p = 1 → wSub p = 0 → u.out = (wTT p).getLsbD (q.vNib % 8)) ∧
    (wClass p = 1 → wSub p = 0 → u.wmask.getLsbD (wD p % 512) = true ∧
      u.wval.getLsbD (wD p % 512) = (wTT p).getLsbD (q.vNib % 8)) ∧
    u.hist.getLsbD t = u.out ∧ (∀ i, i < 1024 → i ≠ t → u.hist.getLsbD i = (c.bp b).hist.getLsbD i) ∧
    u.read = (c.bp b).read ∧
    (wA p < t → q.a = .known ((c.bp b).hist.getLsbD (wA p))) ∧
    (wA p / 1024 = 2 → q.a = .known (c.arrival.getLsbD (wA p % 1024))) ∧
    (wA p = 0xFFF → q.a = .known true) ∧ (wA p = 0xFFE → q.a = .known false)

/-- The gang results (R75): MUX16 gives the gang data bit that S3 to S0 number; AND16, OR16 and XOR16 give the AND,
OR and XOR of the sixteen gang data bits. -/
def Obligations.GangResults : Prop :=
  ∀ (data : BitVec 16) (s : Fin 16),
    gangResult 0 data s.val = some (data.getLsbD s.val) ∧
    gangResult 1 data s.val = some (decide (∀ i : Fin 16, data.getLsbD i.val = true)) ∧
    gangResult 2 data s.val = some (decide (∃ i : Fin 16, data.getLsbD i.val = true)) ∧
    gangResult 3 data s.val = some ((upFrom 0 16).foldl (fun x i => x != data.getLsbD i) false)

/-! ## Two rules stated whole (R2, R312) -/

/-- Speed grades (R2): an S16 device takes the S13 stroke clock in PREP; an S13 device refuses a stroke-clock
setting of 1.6 GHz with the state-conflict abort, in every device state, and its stroke clock is unchanged. -/
def Obligations.StrokeClockByGrade : Prop :=
  (∀ (via : Via) (s : State), s.reachedBy via = true → s.fuse.grade = 16 → s.dev = .prep →
    exec (.registerWrite via 0x2101 2 [13]) s = .next (s.rowAnswer via 0x2101 2 13 (s.setObj 0x2101 2 13))) ∧
  (∀ (via : Via) (s : State), s.reachedBy via = true → s.fuse.grade = 13 →
    s.manage 0x2101 2 1 16 = .error 0x08000022 ∧
    ∃ t, exec (.registerWrite via 0x2101 2 [16]) s = .next t ∧ t.strokeClock = s.strokeClock ∧
      t.obj 0x2101 2 = s.obj 0x2101 2 ∧ t.mem = s.mem)

/-- A pop on empty (R312), which is a pop that finds no admissible item (R310): it returns the idle item of the
trough and leaves the consumer's position unchanged, and its status shows VALID 0; so for the far side's POP and for
the design's. -/
def Obligations.PopOnEmpty : Prop :=
  ∀ (t : Fin 256) (s : State),
    let o := 0x5100 + t.val
    let x := s.trough t.val
    (∀ init : Initiator, s.reaches init.val (.trough t.val 0x10) 8 = true → s.obj o 1 = 2 →
      admissible (s.obj o 5) (s.obj o 6) (s.thresh t.val) = false →
      ∃ u, exec (.pop init t) s = .next u ∧ u.answered init.val opData (leBytes 8 (s.obj o 4)) ∧
        u.obj o 5 = s.obj o 5 ∧ bitAt (u.trough t.val).popStatus 0 = false) ∧
    (admissible (s.obj o 7) x.window (s.thresh t.val) = false →
      (s.designPop t.val).2.item = s.obj o 4 ∧ bitAt (s.designPop t.val).2.status 0 = false ∧
        (s.designPop t.val).1.obj o 7 = s.obj o 7)
end

