-- ==== Sys2Proof/Laws/Table.lean ====
section
/-!
SUPPORT. The laws of the sparse table: reading after a write, and that every operation keeps the one canonical
form.
-/

namespace Sys2Proof

variable {α : Type}

/-- Where the keys rise from above a bound, the head lies above it and the tail rises from the head. -/
theorem Tbl.rising_cons {lo : Option Nat} {k : Nat} {v : α} {t : Tbl α} :
    Tbl.rising lo ((k, v) :: t) = true ↔ (∀ l, lo = some l → l < k) ∧ Tbl.rising (some k) t = true := by
  cases lo <;> simp [Tbl.rising]

/-- A lower bound may be lowered. -/
theorem Tbl.rising_mono {lo hi : Nat} (h : lo ≤ hi) : ∀ {t : Tbl α}, Tbl.rising (some hi) t = true →
    Tbl.rising (some lo) t = true
  | [], _ => rfl
  | (k, v) :: t, ht => by
    rw [Tbl.rising_cons] at ht ⊢
    exact ⟨fun l hl => (by cases hl; exact Nat.lt_of_le_of_lt h (ht.1 hi rfl)), ht.2⟩

/-- A bound may be dropped. -/
theorem Tbl.rising_none {lo : Option Nat} : ∀ {t : Tbl α}, Tbl.rising lo t = true → Tbl.rising none t = true
  | [], _ => rfl
  | (k, v) :: t, ht => by
    exact Tbl.rising_cons.mpr ⟨fun l hl => (by cases hl), (Tbl.rising_cons.mp ht).2⟩

/-- A key at or below the bound is not listed. -/
theorem Tbl.get_below (d : α) {q : Nat} : ∀ {lo : Nat} {t : Tbl α}, q ≤ lo → Tbl.rising (some lo) t = true →
    Tbl.get d t q = d
  | _, [], _, _ => rfl
  | lo, (k, v) :: t, hq, ht => by
    rw [Tbl.rising_cons] at ht
    have hk := ht.1 lo rfl
    simp only [Tbl.get]
    rw [if_neg (by omega)]
    exact Tbl.get_below d (by omega) ht.2

/-- Reading back what was listed. -/
theorem Tbl.get_put_same (d : α) (k : Nat) (v : α) : ∀ t : Tbl α, Tbl.get d (Tbl.put k v t) k = v
  | [] => by simp [Tbl.put, Tbl.get]
  | (k', v') :: t => by
    unfold Tbl.put
    split
    · simp [Tbl.get]
    · split
      · simp [Tbl.get]
      · rename_i h1 h2
        simp only [Tbl.get, if_neg h2]
        exact Tbl.get_put_same d k v t

/-- Listing a key leaves every other key as it was. -/
theorem Tbl.get_put_other (d : α) {k q : Nat} (v : α) (h : q ≠ k) :
    ∀ t : Tbl α, Tbl.get d (Tbl.put k v t) q = Tbl.get d t q
  | [] => by simp [Tbl.put, Tbl.get, h]
  | (k', v') :: t => by
    unfold Tbl.put
    split
    · simp [Tbl.get, h]
    · split
      · rename_i _ h2
        subst h2
        simp [Tbl.get, h]
      · simp only [Tbl.get, Tbl.get_put_other d v h t]

/-- A key that was taken out reads as the default. -/
theorem Tbl.get_del_same (d : α) (k : Nat) : ∀ t : Tbl α, Tbl.get d (Tbl.del k t) k = d
  | [] => rfl
  | (k', v') :: t => by
    unfold Tbl.del
    split
    · exact Tbl.get_del_same d k t
    · rename_i h
      simp only [Tbl.get, if_neg h]
      exact Tbl.get_del_same d k t

/-- Taking a key out leaves every other key as it was. -/
theorem Tbl.get_del_other (d : α) {k q : Nat} (h : q ≠ k) : ∀ t : Tbl α, Tbl.get d (Tbl.del k t) q = Tbl.get d t q
  | [] => rfl
  | (k', v') :: t => by
    unfold Tbl.del
    split
    · rename_i h1
      subst h1
      simp [Tbl.get, h, Tbl.get_del_other d h t]
    · simp only [Tbl.get, Tbl.get_del_other d h t]

/-- A read after a write of the same key gives the value written. -/
@[simp] theorem Tbl.get_set_same [DecidableEq α] (d : α) (t : Tbl α) (k : Nat) (v : α) :
    Tbl.get d (Tbl.set d t k v) k = v := by
  unfold Tbl.set
  split
  · rename_i h
    rw [h, Tbl.get_del_same]
  · exact Tbl.get_put_same d k v t

/-- A write leaves every other key as it was. -/
theorem Tbl.get_set_other [DecidableEq α] (d e : α) (t : Tbl α) {k q : Nat} (v : α) (h : q ≠ k) :
    Tbl.get d (Tbl.set e t k v) q = Tbl.get d t q := by
  unfold Tbl.set
  split
  · exact Tbl.get_del_other d h t
  · exact Tbl.get_put_other d v h t

/-! ## The canonical form is kept -/

theorem Tbl.rising_put (k : Nat) (v : α) : ∀ {lo : Option Nat} {t : Tbl α}, (∀ l, lo = some l → l < k) →
    Tbl.rising lo t = true → Tbl.rising lo (Tbl.put k v t) = true
  | lo, [], hk, _ => by
    unfold Tbl.put
    rw [Tbl.rising_cons]
    exact ⟨hk, rfl⟩
  | lo, (k', v') :: t, hk, ht => by
    rw [Tbl.rising_cons] at ht
    unfold Tbl.put
    split
    · rename_i h
      rw [Tbl.rising_cons, Tbl.rising_cons]
      exact ⟨hk, fun l hl => (by cases hl; exact h), ht.2⟩
    · split
      · rename_i _ h
        subst h
        rw [Tbl.rising_cons]
        exact ⟨hk, ht.2⟩
      · rw [Tbl.rising_cons]
        exact ⟨ht.1, Tbl.rising_put k v (fun l hl => by cases hl; omega) ht.2⟩

theorem Tbl.rising_del (k : Nat) : ∀ {lo : Option Nat} {t : Tbl α}, Tbl.rising lo t = true →
    Tbl.rising lo (Tbl.del k t) = true
  | _, [], _ => rfl
  | lo, (k', v') :: t, ht => by
    rw [Tbl.rising_cons] at ht
    unfold Tbl.del
    split
    · have hr : Tbl.rising lo t = true := by
        cases lo with
        | none => exact Tbl.rising_none ht.2
        | some l => exact Tbl.rising_mono (Nat.le_of_lt (ht.1 l rfl)) ht.2
      exact Tbl.rising_del k hr
    · rw [Tbl.rising_cons]
      exact ⟨ht.1, Tbl.rising_del k ht.2⟩

theorem Tbl.rising_filter (p : Nat × α → Bool) : ∀ {lo : Option Nat} {t : Tbl α}, Tbl.rising lo t = true →
    Tbl.rising lo (t.filter p) = true
  | _, [], _ => rfl
  | lo, (k', v') :: t, ht => by
    rw [Tbl.rising_cons] at ht
    rw [List.filter_cons]
    split
    · rw [Tbl.rising_cons]
      exact ⟨ht.1, Tbl.rising_filter p ht.2⟩
    · have hr : Tbl.rising lo t = true := by
        cases lo with
        | none => exact Tbl.rising_none ht.2
        | some l => exact Tbl.rising_mono (Nat.le_of_lt (ht.1 l rfl)) ht.2
      exact Tbl.rising_filter p hr

variable [DecidableEq α]

theorem Tbl.lean_put {d : Nat → α} {k : Nat} {v : α} (hv : v ≠ d k) : ∀ {t : Tbl α}, Tbl.lean d t = true →
    Tbl.lean d (Tbl.put k v t) = true
  | [], _ => by simp [Tbl.put, Tbl.lean, hv]
  | (k', v') :: t, ht => by
    simp only [Tbl.lean, Bool.and_eq_true, decide_eq_true_eq] at ht
    unfold Tbl.put
    split
    · simp [Tbl.lean, hv, ht.1, ht.2]
    · split
      · simp [Tbl.lean, hv, ht.2]
      · simp [Tbl.lean, ht.1, Tbl.lean_put hv ht.2]

theorem Tbl.lean_del {d : Nat → α} (k : Nat) : ∀ {t : Tbl α}, Tbl.lean d t = true →
    Tbl.lean d (Tbl.del k t) = true
  | [], _ => rfl
  | (k', v') :: t, ht => by
    simp only [Tbl.lean, Bool.and_eq_true, decide_eq_true_eq] at ht
    unfold Tbl.del
    split
    · exact Tbl.lean_del k ht.2
    · simp [Tbl.lean, ht.1, Tbl.lean_del k ht.2]

theorem Tbl.lean_filter {d : Nat → α} (p : Nat × α → Bool) : ∀ {t : Tbl α}, Tbl.lean d t = true →
    Tbl.lean d (t.filter p) = true
  | [], _ => rfl
  | (k', v') :: t, ht => by
    simp only [Tbl.lean, Bool.and_eq_true, decide_eq_true_eq] at ht
    rw [List.filter_cons]
    split
    · simp [Tbl.lean, ht.1, Tbl.lean_filter p ht.2]
    · exact Tbl.lean_filter p ht.2

/-- A write keeps the canonical form. -/
theorem Tbl.wf_set {d : α} {t : Tbl α} (k : Nat) (v : α) (h : Tbl.wf (fun _ => d) t = true) :
    Tbl.wf (fun _ => d) (Tbl.set d t k v) = true := by
  simp only [Tbl.wf, Bool.and_eq_true] at h ⊢
  unfold Tbl.set
  split
  · exact ⟨Tbl.rising_del k h.1, Tbl.lean_del k h.2⟩
  · rename_i hv
    exact ⟨Tbl.rising_put k v (fun l hl => by cases hl) h.1, Tbl.lean_put hv h.2⟩

/-- Keeping only some entries keeps the canonical form. -/
theorem Tbl.wf_filter {d : Nat → α} {t : Tbl α} (p : Nat × α → Bool) (h : Tbl.wf d t = true) :
    Tbl.wf d (t.filter p) = true := by
  simp only [Tbl.wf, Bool.and_eq_true] at h ⊢
  exact ⟨Tbl.rising_filter p h.1, Tbl.lean_filter p h.2⟩

end Sys2Proof
end

