-- ==== Sys2Proof/Laws/State.lean ====
section
/-!
SUPPORT. One lemma per field per update of the state: what each named update leaves as it was, and what
reading back the updated place gives.
-/

namespace Sys2Proof.Machine

open Sys2Proof

/-! ## Reading back -/

@[simp] theorem obj_setObj_same (s : State) (i sub v : Nat) : (s.setObj i sub v).obj i sub = v := by
  simp [State.obj, State.setObj]

/-- Two objects have one key only when they are one object: a sub-index is a byte (R10). -/
theorem objKey_inj {i j a b : Nat} (ha : a < 256) (hb : b < 256) : objKey i a = objKey j b ↔ i = j ∧ a = b := by
  unfold objKey
  omega

theorem obj_setObj_other (s : State) {i sub j b : Nat} (v : Nat) (h : objKey j b ≠ objKey i sub) :
    (s.setObj i sub v).obj j b = s.obj j b := by
  simp [State.obj, State.setObj, Tbl.get_set_other _ _ _ _ h]

@[simp] theorem byte_setByte_same (s : State) (a : Nat) (b : Byte) : (s.setByte a b).byte a = b := by
  simp [State.byte, State.setByte]

theorem byte_setByte_other (s : State) {a c : Nat} (b : Byte) (h : c ≠ a) :
    (s.setByte a b).byte c = s.byte c := by
  simp [State.byte, State.setByte, Tbl.get_set_other _ _ _ _ h]

@[simp] theorem err_setErr_same (s : State) (w : Nat) (e : BitVec 72) : (s.setErr w e).err w = e := by
  simp [State.err, State.setErr]

theorem err_setErr_other (s : State) {w q : Nat} (e : BitVec 72) (h : q ≠ w) :
    (s.setErr w e).err q = s.err q := by
  simp [State.err, State.setErr, Tbl.get_set_other _ _ _ _ h]

@[simp] theorem croft_setCroft_same (s : State) (k : Nat) (c : CroftRec) : (s.setCroft k c).croft k = c := by
  simp [State.croft, State.setCroft]

theorem croft_setCroft_other (s : State) {k q : Nat} (c : CroftRec) (h : q ≠ k) :
    (s.setCroft k c).croft q = s.croft q := by
  simp [State.croft, State.setCroft, Tbl.get_set_other _ _ _ _ h]

@[simp] theorem cellar_setCellar_same (s : State) (n : Nat) (c : CellarRec) : (s.setCellar n c).cellar n = c := by
  simp [State.cellar, State.setCellar]

theorem cellar_setCellar_other (s : State) {n q : Nat} (c : CellarRec) (h : q ≠ n) :
    (s.setCellar n c).cellar q = s.cellar q := by
  simp [State.cellar, State.setCellar, Tbl.get_set_other _ _ _ _ h]

@[simp] theorem port_setPort_same (s : State) (p : Nat) (r : PortRec) : (s.setPort p r).port p = r := by
  simp [State.port, State.setPort]

theorem port_setPort_other (s : State) {p q : Nat} (r : PortRec) (h : q ≠ p) :
    (s.setPort p r).port q = s.port q := by
  simp [State.port, State.setPort, Tbl.get_set_other _ _ _ _ h]

@[simp] theorem test_setTest_same (s : State) (u : Nat) (t : TestEng) : (s.setTest u t).test u = t := by
  simp [State.test, State.setTest]

theorem test_setTest_other (s : State) {u q : Nat} (t : TestEng) (h : q ≠ u) :
    (s.setTest u t).test q = s.test q := by
  simp [State.test, State.setTest, Tbl.get_set_other _ _ _ _ h]

@[simp] theorem region_setRegion_same (s : State) (r : Nat) (x : RegionRec) : (s.setRegion r x).region r = x := by
  simp [State.region, State.setRegion]

theorem region_setRegion_other (s : State) {r q : Nat} (x : RegionRec) (h : q ≠ r) :
    (s.setRegion r x).region q = s.region q := by
  simp [State.region, State.setRegion, Tbl.get_set_other _ _ _ _ h]

@[simp] theorem hinit_setHinit_same (s : State) (i : Nat) (x : HInit) : (s.setHinit i x).hinit i = x := by
  simp [State.hinit, State.setHinit]

theorem hinit_setHinit_other (s : State) {i q : Nat} (x : HInit) (h : q ≠ i) :
    (s.setHinit i x).hinit q = s.hinit q := by
  simp [State.hinit, State.setHinit, Tbl.get_set_other _ _ _ _ h]

@[simp] theorem trough_setTrough_same (s : State) (t : Nat) (x : TroughRec) : (s.setTrough t x).trough t = x := by
  simp [State.trough, State.setTrough]

theorem trough_setTrough_other (s : State) {t q : Nat} (x : TroughRec) (h : q ≠ t) :
    (s.setTrough t x).trough q = s.trough q := by
  simp [State.trough, State.setTrough, Tbl.get_set_other _ _ _ _ h]

@[simp] theorem core_setCore_same (s : State) (k : Nat) (c : CoreRec) : (s.setCore k c).core k = c := by
  simp [State.core, State.setCore]

theorem core_setCore_other (s : State) {k q : Nat} (c : CoreRec) (h : q ≠ k) :
    (s.setCore k c).core q = s.core q := by
  simp [State.core, State.setCore, Tbl.get_set_other _ _ _ _ h]

@[simp] theorem watch_setWatch_same (s : State) (u : Nat) (w : WatchRec) : (s.setWatch u w).watch u = w := by
  simp [State.watch, State.setWatch]

theorem watch_setWatch_other (s : State) {u q : Nat} (w : WatchRec) (h : q ≠ u) :
    (s.setWatch u w).watch q = s.watch q := by
  simp [State.watch, State.setWatch, Tbl.get_set_other _ _ _ _ h]

/-! ## What each update leaves as it was -/

section setObj

variable (s : State) (i sub v : Nat)

@[simp] theorem setObj_pending : (s.setObj i sub v).pending = s.pending := rfl
@[simp] theorem setObj_fuse : (s.setObj i sub v).fuse = s.fuse := rfl
@[simp] theorem setObj_freeCtr : (s.setObj i sub v).freeCtr = s.freeCtr := rfl
@[simp] theorem setObj_dev : (s.setObj i sub v).dev = s.dev := rfl
@[simp] theorem setObj_phase : (s.setObj i sub v).phase = s.phase := rfl
@[simp] theorem setObj_rota : (s.setObj i sub v).rota = s.rota := rfl
@[simp] theorem setObj_exec : (s.setObj i sub v).exec = s.exec := rfl
@[simp] theorem setObj_count : (s.setObj i sub v).count = s.count := rfl
@[simp] theorem setObj_halts : (s.setObj i sub v).halts = s.halts := rfl
@[simp] theorem setObj_uncorrected : (s.setObj i sub v).uncorrected = s.uncorrected := rfl
@[simp] theorem setObj_debug : (s.setObj i sub v).debug = s.debug := rfl
@[simp] theorem setObj_mem : (s.setObj i sub v).mem = s.mem := rfl
@[simp] theorem setObj_errs : (s.setObj i sub v).errs = s.errs := rfl
@[simp] theorem setObj_crofts : (s.setObj i sub v).crofts = s.crofts := rfl
@[simp] theorem setObj_cellars : (s.setObj i sub v).cellars = s.cellars := rfl
@[simp] theorem setObj_tests : (s.setObj i sub v).tests = s.tests := rfl
@[simp] theorem setObj_softRepairs : (s.setObj i sub v).softRepairs = s.softRepairs := rfl
@[simp] theorem setObj_croftMap : (s.setObj i sub v).croftMap = s.croftMap := rfl
@[simp] theorem setObj_bell : (s.setObj i sub v).bell = s.bell := rfl
@[simp] theorem setObj_opn : (s.setObj i sub v).opn = s.opn := rfl
@[simp] theorem setObj_answer : (s.setObj i sub v).answer = s.answer := rfl
@[simp] theorem setObj_msixEnable : (s.setObj i sub v).msixEnable = s.msixEnable := rfl
@[simp] theorem setObj_msixFuncMask : (s.setObj i sub v).msixFuncMask = s.msixFuncMask := rfl
@[simp] theorem setObj_msixPending : (s.setObj i sub v).msixPending = s.msixPending := rfl
@[simp] theorem setObj_msixSent : (s.setObj i sub v).msixSent = s.msixSent := rfl
@[simp] theorem setObj_ports : (s.setObj i sub v).ports = s.ports := rfl
@[simp] theorem setObj_steeple : (s.setObj i sub v).steeple = s.steeple := rfl
@[simp] theorem setObj_replay : (s.setObj i sub v).replay = s.replay := rfl
@[simp] theorem setObj_allset : (s.setObj i sub v).allset = s.allset := rfl
@[simp] theorem setObj_alignSpoiled : (s.setObj i sub v).alignSpoiled = s.alignSpoiled := rfl
@[simp] theorem setObj_hedge : (s.setObj i sub v).hedge = s.hedge := rfl
@[simp] theorem setObj_highest : (s.setObj i sub v).highest = s.highest := rfl
@[simp] theorem setObj_troughs : (s.setObj i sub v).troughs = s.troughs := rfl
@[simp] theorem setObj_snooped : (s.setObj i sub v).snooped = s.snooped := rfl
@[simp] theorem setObj_cores : (s.setObj i sub v).cores = s.cores := rfl
@[simp] theorem setObj_mtime : (s.setObj i sub v).mtime = s.mtime := rfl
@[simp] theorem setObj_tasks : (s.setObj i sub v).tasks = s.tasks := rfl
@[simp] theorem setObj_ready : (s.setObj i sub v).ready = s.ready := rfl
@[simp] theorem setObj_watches : (s.setObj i sub v).watches = s.watches := rfl
@[simp] theorem setObj_taps : (s.setObj i sub v).taps = s.taps := rfl
@[simp] theorem setObj_power : (s.setObj i sub v).power = s.power := rfl
@[simp] theorem setObj_store : (s.setObj i sub v).store = s.store := rfl
@[simp] theorem setObj_load : (s.setObj i sub v).load = s.load := rfl
@[simp] theorem setObj_ring : (s.setObj i sub v).ring = s.ring := rfl
@[simp] theorem setObj_mirror : (s.setObj i sub v).mirror = s.mirror := rfl
@[simp] theorem setObj_pcie : (s.setObj i sub v).pcie = s.pcie := rfl
@[simp] theorem setObj_tap : (s.setObj i sub v).tap = s.tap := rfl
@[simp] theorem setObj_heldWrites : (s.setObj i sub v).heldWrites = s.heldWrites := rfl
@[simp] theorem setObj_remap : (s.setObj i sub v).remap = s.remap := rfl
@[simp] theorem setObj_verger : (s.setObj i sub v).verger = s.verger := rfl

end setObj

section freeNext

variable (s : State)

@[simp] theorem freeNext_pending : s.freeNext.pending = s.pending := rfl
@[simp] theorem freeNext_fuse : s.freeNext.fuse = s.fuse := rfl
@[simp] theorem freeNext_dev : s.freeNext.dev = s.dev := rfl
@[simp] theorem freeNext_phase : s.freeNext.phase = s.phase := rfl
@[simp] theorem freeNext_rota : s.freeNext.rota = s.rota := rfl
@[simp] theorem freeNext_exec : s.freeNext.exec = s.exec := rfl
@[simp] theorem freeNext_count : s.freeNext.count = s.count := rfl
@[simp] theorem freeNext_halts : s.freeNext.halts = s.halts := rfl
@[simp] theorem freeNext_uncorrected : s.freeNext.uncorrected = s.uncorrected := rfl
@[simp] theorem freeNext_debug : s.freeNext.debug = s.debug := rfl
@[simp] theorem freeNext_objs : s.freeNext.objs = s.objs := rfl
@[simp] theorem freeNext_mem : s.freeNext.mem = s.mem := rfl
@[simp] theorem freeNext_errs : s.freeNext.errs = s.errs := rfl
@[simp] theorem freeNext_crofts : s.freeNext.crofts = s.crofts := rfl
@[simp] theorem freeNext_cellars : s.freeNext.cellars = s.cellars := rfl
@[simp] theorem freeNext_tests : s.freeNext.tests = s.tests := rfl
@[simp] theorem freeNext_softRepairs : s.freeNext.softRepairs = s.softRepairs := rfl
@[simp] theorem freeNext_croftMap : s.freeNext.croftMap = s.croftMap := rfl
@[simp] theorem freeNext_bell : s.freeNext.bell = s.bell := rfl
@[simp] theorem freeNext_opn : s.freeNext.opn = s.opn := rfl
@[simp] theorem freeNext_answer : s.freeNext.answer = s.answer := rfl
@[simp] theorem freeNext_msixEnable : s.freeNext.msixEnable = s.msixEnable := rfl
@[simp] theorem freeNext_msixFuncMask : s.freeNext.msixFuncMask = s.msixFuncMask := rfl
@[simp] theorem freeNext_msixPending : s.freeNext.msixPending = s.msixPending := rfl
@[simp] theorem freeNext_msixSent : s.freeNext.msixSent = s.msixSent := rfl
@[simp] theorem freeNext_ports : s.freeNext.ports = s.ports := rfl
@[simp] theorem freeNext_steeple : s.freeNext.steeple = s.steeple := rfl
@[simp] theorem freeNext_replay : s.freeNext.replay = s.replay := rfl
@[simp] theorem freeNext_allset : s.freeNext.allset = s.allset := rfl
@[simp] theorem freeNext_alignSpoiled : s.freeNext.alignSpoiled = s.alignSpoiled := rfl
@[simp] theorem freeNext_hedge : s.freeNext.hedge = s.hedge := rfl
@[simp] theorem freeNext_highest : s.freeNext.highest = s.highest := rfl
@[simp] theorem freeNext_troughs : s.freeNext.troughs = s.troughs := rfl
@[simp] theorem freeNext_snooped : s.freeNext.snooped = s.snooped := rfl
@[simp] theorem freeNext_cores : s.freeNext.cores = s.cores := rfl
@[simp] theorem freeNext_mtime : s.freeNext.mtime = s.mtime := rfl
@[simp] theorem freeNext_tasks : s.freeNext.tasks = s.tasks := rfl
@[simp] theorem freeNext_ready : s.freeNext.ready = s.ready := rfl
@[simp] theorem freeNext_watches : s.freeNext.watches = s.watches := rfl
@[simp] theorem freeNext_taps : s.freeNext.taps = s.taps := rfl
@[simp] theorem freeNext_power : s.freeNext.power = s.power := rfl
@[simp] theorem freeNext_store : s.freeNext.store = s.store := rfl
@[simp] theorem freeNext_load : s.freeNext.load = s.load := rfl
@[simp] theorem freeNext_ring : s.freeNext.ring = s.ring := rfl
@[simp] theorem freeNext_mirror : s.freeNext.mirror = s.mirror := rfl
@[simp] theorem freeNext_pcie : s.freeNext.pcie = s.pcie := rfl
@[simp] theorem freeNext_tap : s.freeNext.tap = s.tap := rfl
@[simp] theorem freeNext_heldWrites : s.freeNext.heldWrites = s.heldWrites := rfl
@[simp] theorem freeNext_remap : s.freeNext.remap = s.remap := rfl
@[simp] theorem freeNext_verger : s.freeNext.verger = s.verger := rfl

end freeNext

section setByte

variable (s : State) (a : Nat) (b : Byte)

@[simp] theorem setByte_pending : (s.setByte a b).pending = s.pending := rfl
@[simp] theorem setByte_fuse : (s.setByte a b).fuse = s.fuse := rfl
@[simp] theorem setByte_freeCtr : (s.setByte a b).freeCtr = s.freeCtr := rfl
@[simp] theorem setByte_dev : (s.setByte a b).dev = s.dev := rfl
@[simp] theorem setByte_phase : (s.setByte a b).phase = s.phase := rfl
@[simp] theorem setByte_rota : (s.setByte a b).rota = s.rota := rfl
@[simp] theorem setByte_exec : (s.setByte a b).exec = s.exec := rfl
@[simp] theorem setByte_count : (s.setByte a b).count = s.count := rfl
@[simp] theorem setByte_halts : (s.setByte a b).halts = s.halts := rfl
@[simp] theorem setByte_uncorrected : (s.setByte a b).uncorrected = s.uncorrected := rfl
@[simp] theorem setByte_debug : (s.setByte a b).debug = s.debug := rfl
@[simp] theorem setByte_objs : (s.setByte a b).objs = s.objs := rfl
@[simp] theorem setByte_errs : (s.setByte a b).errs = s.errs := rfl
@[simp] theorem setByte_crofts : (s.setByte a b).crofts = s.crofts := rfl
@[simp] theorem setByte_cellars : (s.setByte a b).cellars = s.cellars := rfl
@[simp] theorem setByte_tests : (s.setByte a b).tests = s.tests := rfl
@[simp] theorem setByte_softRepairs : (s.setByte a b).softRepairs = s.softRepairs := rfl
@[simp] theorem setByte_croftMap : (s.setByte a b).croftMap = s.croftMap := rfl
@[simp] theorem setByte_bell : (s.setByte a b).bell = s.bell := rfl
@[simp] theorem setByte_opn : (s.setByte a b).opn = s.opn := rfl
@[simp] theorem setByte_answer : (s.setByte a b).answer = s.answer := rfl
@[simp] theorem setByte_msixEnable : (s.setByte a b).msixEnable = s.msixEnable := rfl
@[simp] theorem setByte_msixFuncMask : (s.setByte a b).msixFuncMask = s.msixFuncMask := rfl
@[simp] theorem setByte_msixPending : (s.setByte a b).msixPending = s.msixPending := rfl
@[simp] theorem setByte_msixSent : (s.setByte a b).msixSent = s.msixSent := rfl
@[simp] theorem setByte_ports : (s.setByte a b).ports = s.ports := rfl
@[simp] theorem setByte_steeple : (s.setByte a b).steeple = s.steeple := rfl
@[simp] theorem setByte_replay : (s.setByte a b).replay = s.replay := rfl
@[simp] theorem setByte_allset : (s.setByte a b).allset = s.allset := rfl
@[simp] theorem setByte_alignSpoiled : (s.setByte a b).alignSpoiled = s.alignSpoiled := rfl
@[simp] theorem setByte_hedge : (s.setByte a b).hedge = s.hedge := rfl
@[simp] theorem setByte_highest : (s.setByte a b).highest = s.highest := rfl
@[simp] theorem setByte_troughs : (s.setByte a b).troughs = s.troughs := rfl
@[simp] theorem setByte_snooped : (s.setByte a b).snooped = s.snooped := rfl
@[simp] theorem setByte_cores : (s.setByte a b).cores = s.cores := rfl
@[simp] theorem setByte_mtime : (s.setByte a b).mtime = s.mtime := rfl
@[simp] theorem setByte_tasks : (s.setByte a b).tasks = s.tasks := rfl
@[simp] theorem setByte_ready : (s.setByte a b).ready = s.ready := rfl
@[simp] theorem setByte_watches : (s.setByte a b).watches = s.watches := rfl
@[simp] theorem setByte_taps : (s.setByte a b).taps = s.taps := rfl
@[simp] theorem setByte_power : (s.setByte a b).power = s.power := rfl
@[simp] theorem setByte_store : (s.setByte a b).store = s.store := rfl
@[simp] theorem setByte_load : (s.setByte a b).load = s.load := rfl
@[simp] theorem setByte_ring : (s.setByte a b).ring = s.ring := rfl
@[simp] theorem setByte_mirror : (s.setByte a b).mirror = s.mirror := rfl
@[simp] theorem setByte_pcie : (s.setByte a b).pcie = s.pcie := rfl
@[simp] theorem setByte_tap : (s.setByte a b).tap = s.tap := rfl
@[simp] theorem setByte_heldWrites : (s.setByte a b).heldWrites = s.heldWrites := rfl
@[simp] theorem setByte_remap : (s.setByte a b).remap = s.remap := rfl
@[simp] theorem setByte_verger : (s.setByte a b).verger = s.verger := rfl

end setByte

section setErr

variable (s : State) (w : Nat) (e : BitVec 72)

@[simp] theorem setErr_pending : (s.setErr w e).pending = s.pending := rfl
@[simp] theorem setErr_fuse : (s.setErr w e).fuse = s.fuse := rfl
@[simp] theorem setErr_freeCtr : (s.setErr w e).freeCtr = s.freeCtr := rfl
@[simp] theorem setErr_dev : (s.setErr w e).dev = s.dev := rfl
@[simp] theorem setErr_phase : (s.setErr w e).phase = s.phase := rfl
@[simp] theorem setErr_rota : (s.setErr w e).rota = s.rota := rfl
@[simp] theorem setErr_exec : (s.setErr w e).exec = s.exec := rfl
@[simp] theorem setErr_count : (s.setErr w e).count = s.count := rfl
@[simp] theorem setErr_halts : (s.setErr w e).halts = s.halts := rfl
@[simp] theorem setErr_uncorrected : (s.setErr w e).uncorrected = s.uncorrected := rfl
@[simp] theorem setErr_debug : (s.setErr w e).debug = s.debug := rfl
@[simp] theorem setErr_objs : (s.setErr w e).objs = s.objs := rfl
@[simp] theorem setErr_mem : (s.setErr w e).mem = s.mem := rfl
@[simp] theorem setErr_crofts : (s.setErr w e).crofts = s.crofts := rfl
@[simp] theorem setErr_cellars : (s.setErr w e).cellars = s.cellars := rfl
@[simp] theorem setErr_tests : (s.setErr w e).tests = s.tests := rfl
@[simp] theorem setErr_softRepairs : (s.setErr w e).softRepairs = s.softRepairs := rfl
@[simp] theorem setErr_croftMap : (s.setErr w e).croftMap = s.croftMap := rfl
@[simp] theorem setErr_bell : (s.setErr w e).bell = s.bell := rfl
@[simp] theorem setErr_opn : (s.setErr w e).opn = s.opn := rfl
@[simp] theorem setErr_answer : (s.setErr w e).answer = s.answer := rfl
@[simp] theorem setErr_msixEnable : (s.setErr w e).msixEnable = s.msixEnable := rfl
@[simp] theorem setErr_msixFuncMask : (s.setErr w e).msixFuncMask = s.msixFuncMask := rfl
@[simp] theorem setErr_msixPending : (s.setErr w e).msixPending = s.msixPending := rfl
@[simp] theorem setErr_msixSent : (s.setErr w e).msixSent = s.msixSent := rfl
@[simp] theorem setErr_ports : (s.setErr w e).ports = s.ports := rfl
@[simp] theorem setErr_steeple : (s.setErr w e).steeple = s.steeple := rfl
@[simp] theorem setErr_replay : (s.setErr w e).replay = s.replay := rfl
@[simp] theorem setErr_allset : (s.setErr w e).allset = s.allset := rfl
@[simp] theorem setErr_alignSpoiled : (s.setErr w e).alignSpoiled = s.alignSpoiled := rfl
@[simp] theorem setErr_hedge : (s.setErr w e).hedge = s.hedge := rfl
@[simp] theorem setErr_highest : (s.setErr w e).highest = s.highest := rfl
@[simp] theorem setErr_troughs : (s.setErr w e).troughs = s.troughs := rfl
@[simp] theorem setErr_snooped : (s.setErr w e).snooped = s.snooped := rfl
@[simp] theorem setErr_cores : (s.setErr w e).cores = s.cores := rfl
@[simp] theorem setErr_mtime : (s.setErr w e).mtime = s.mtime := rfl
@[simp] theorem setErr_tasks : (s.setErr w e).tasks = s.tasks := rfl
@[simp] theorem setErr_ready : (s.setErr w e).ready = s.ready := rfl
@[simp] theorem setErr_watches : (s.setErr w e).watches = s.watches := rfl
@[simp] theorem setErr_taps : (s.setErr w e).taps = s.taps := rfl
@[simp] theorem setErr_power : (s.setErr w e).power = s.power := rfl
@[simp] theorem setErr_store : (s.setErr w e).store = s.store := rfl
@[simp] theorem setErr_load : (s.setErr w e).load = s.load := rfl
@[simp] theorem setErr_ring : (s.setErr w e).ring = s.ring := rfl
@[simp] theorem setErr_mirror : (s.setErr w e).mirror = s.mirror := rfl
@[simp] theorem setErr_pcie : (s.setErr w e).pcie = s.pcie := rfl
@[simp] theorem setErr_tap : (s.setErr w e).tap = s.tap := rfl
@[simp] theorem setErr_heldWrites : (s.setErr w e).heldWrites = s.heldWrites := rfl
@[simp] theorem setErr_remap : (s.setErr w e).remap = s.remap := rfl
@[simp] theorem setErr_verger : (s.setErr w e).verger = s.verger := rfl

end setErr

section setCroft

variable (s : State) (k : Nat) (c : CroftRec)

@[simp] theorem setCroft_pending : (s.setCroft k c).pending = s.pending := rfl
@[simp] theorem setCroft_fuse : (s.setCroft k c).fuse = s.fuse := rfl
@[simp] theorem setCroft_freeCtr : (s.setCroft k c).freeCtr = s.freeCtr := rfl
@[simp] theorem setCroft_dev : (s.setCroft k c).dev = s.dev := rfl
@[simp] theorem setCroft_phase : (s.setCroft k c).phase = s.phase := rfl
@[simp] theorem setCroft_rota : (s.setCroft k c).rota = s.rota := rfl
@[simp] theorem setCroft_exec : (s.setCroft k c).exec = s.exec := rfl
@[simp] theorem setCroft_count : (s.setCroft k c).count = s.count := rfl
@[simp] theorem setCroft_halts : (s.setCroft k c).halts = s.halts := rfl
@[simp] theorem setCroft_uncorrected : (s.setCroft k c).uncorrected = s.uncorrected := rfl
@[simp] theorem setCroft_debug : (s.setCroft k c).debug = s.debug := rfl
@[simp] theorem setCroft_objs : (s.setCroft k c).objs = s.objs := rfl
@[simp] theorem setCroft_mem : (s.setCroft k c).mem = s.mem := rfl
@[simp] theorem setCroft_errs : (s.setCroft k c).errs = s.errs := rfl
@[simp] theorem setCroft_cellars : (s.setCroft k c).cellars = s.cellars := rfl
@[simp] theorem setCroft_tests : (s.setCroft k c).tests = s.tests := rfl
@[simp] theorem setCroft_softRepairs : (s.setCroft k c).softRepairs = s.softRepairs := rfl
@[simp] theorem setCroft_croftMap : (s.setCroft k c).croftMap = s.croftMap := rfl
@[simp] theorem setCroft_bell : (s.setCroft k c).bell = s.bell := rfl
@[simp] theorem setCroft_opn : (s.setCroft k c).opn = s.opn := rfl
@[simp] theorem setCroft_answer : (s.setCroft k c).answer = s.answer := rfl
@[simp] theorem setCroft_msixEnable : (s.setCroft k c).msixEnable = s.msixEnable := rfl
@[simp] theorem setCroft_msixFuncMask : (s.setCroft k c).msixFuncMask = s.msixFuncMask := rfl
@[simp] theorem setCroft_msixPending : (s.setCroft k c).msixPending = s.msixPending := rfl
@[simp] theorem setCroft_msixSent : (s.setCroft k c).msixSent = s.msixSent := rfl
@[simp] theorem setCroft_ports : (s.setCroft k c).ports = s.ports := rfl
@[simp] theorem setCroft_steeple : (s.setCroft k c).steeple = s.steeple := rfl
@[simp] theorem setCroft_replay : (s.setCroft k c).replay = s.replay := rfl
@[simp] theorem setCroft_allset : (s.setCroft k c).allset = s.allset := rfl
@[simp] theorem setCroft_alignSpoiled : (s.setCroft k c).alignSpoiled = s.alignSpoiled := rfl
@[simp] theorem setCroft_hedge : (s.setCroft k c).hedge = s.hedge := rfl
@[simp] theorem setCroft_highest : (s.setCroft k c).highest = s.highest := rfl
@[simp] theorem setCroft_troughs : (s.setCroft k c).troughs = s.troughs := rfl
@[simp] theorem setCroft_snooped : (s.setCroft k c).snooped = s.snooped := rfl
@[simp] theorem setCroft_cores : (s.setCroft k c).cores = s.cores := rfl
@[simp] theorem setCroft_mtime : (s.setCroft k c).mtime = s.mtime := rfl
@[simp] theorem setCroft_tasks : (s.setCroft k c).tasks = s.tasks := rfl
@[simp] theorem setCroft_ready : (s.setCroft k c).ready = s.ready := rfl
@[simp] theorem setCroft_watches : (s.setCroft k c).watches = s.watches := rfl
@[simp] theorem setCroft_taps : (s.setCroft k c).taps = s.taps := rfl
@[simp] theorem setCroft_power : (s.setCroft k c).power = s.power := rfl
@[simp] theorem setCroft_store : (s.setCroft k c).store = s.store := rfl
@[simp] theorem setCroft_load : (s.setCroft k c).load = s.load := rfl
@[simp] theorem setCroft_ring : (s.setCroft k c).ring = s.ring := rfl
@[simp] theorem setCroft_mirror : (s.setCroft k c).mirror = s.mirror := rfl
@[simp] theorem setCroft_pcie : (s.setCroft k c).pcie = s.pcie := rfl
@[simp] theorem setCroft_tap : (s.setCroft k c).tap = s.tap := rfl
@[simp] theorem setCroft_heldWrites : (s.setCroft k c).heldWrites = s.heldWrites := rfl
@[simp] theorem setCroft_remap : (s.setCroft k c).remap = s.remap := rfl
@[simp] theorem setCroft_verger : (s.setCroft k c).verger = s.verger := rfl

end setCroft

section setCellar

variable (s : State) (n : Nat) (c : CellarRec)

@[simp] theorem setCellar_pending : (s.setCellar n c).pending = s.pending := rfl
@[simp] theorem setCellar_fuse : (s.setCellar n c).fuse = s.fuse := rfl
@[simp] theorem setCellar_freeCtr : (s.setCellar n c).freeCtr = s.freeCtr := rfl
@[simp] theorem setCellar_dev : (s.setCellar n c).dev = s.dev := rfl
@[simp] theorem setCellar_phase : (s.setCellar n c).phase = s.phase := rfl
@[simp] theorem setCellar_rota : (s.setCellar n c).rota = s.rota := rfl
@[simp] theorem setCellar_exec : (s.setCellar n c).exec = s.exec := rfl
@[simp] theorem setCellar_count : (s.setCellar n c).count = s.count := rfl
@[simp] theorem setCellar_halts : (s.setCellar n c).halts = s.halts := rfl
@[simp] theorem setCellar_uncorrected : (s.setCellar n c).uncorrected = s.uncorrected := rfl
@[simp] theorem setCellar_debug : (s.setCellar n c).debug = s.debug := rfl
@[simp] theorem setCellar_objs : (s.setCellar n c).objs = s.objs := rfl
@[simp] theorem setCellar_mem : (s.setCellar n c).mem = s.mem := rfl
@[simp] theorem setCellar_errs : (s.setCellar n c).errs = s.errs := rfl
@[simp] theorem setCellar_crofts : (s.setCellar n c).crofts = s.crofts := rfl
@[simp] theorem setCellar_tests : (s.setCellar n c).tests = s.tests := rfl
@[simp] theorem setCellar_softRepairs : (s.setCellar n c).softRepairs = s.softRepairs := rfl
@[simp] theorem setCellar_croftMap : (s.setCellar n c).croftMap = s.croftMap := rfl
@[simp] theorem setCellar_bell : (s.setCellar n c).bell = s.bell := rfl
@[simp] theorem setCellar_opn : (s.setCellar n c).opn = s.opn := rfl
@[simp] theorem setCellar_answer : (s.setCellar n c).answer = s.answer := rfl
@[simp] theorem setCellar_msixEnable : (s.setCellar n c).msixEnable = s.msixEnable := rfl
@[simp] theorem setCellar_msixFuncMask : (s.setCellar n c).msixFuncMask = s.msixFuncMask := rfl
@[simp] theorem setCellar_msixPending : (s.setCellar n c).msixPending = s.msixPending := rfl
@[simp] theorem setCellar_msixSent : (s.setCellar n c).msixSent = s.msixSent := rfl
@[simp] theorem setCellar_ports : (s.setCellar n c).ports = s.ports := rfl
@[simp] theorem setCellar_steeple : (s.setCellar n c).steeple = s.steeple := rfl
@[simp] theorem setCellar_replay : (s.setCellar n c).replay = s.replay := rfl
@[simp] theorem setCellar_allset : (s.setCellar n c).allset = s.allset := rfl
@[simp] theorem setCellar_alignSpoiled : (s.setCellar n c).alignSpoiled = s.alignSpoiled := rfl
@[simp] theorem setCellar_hedge : (s.setCellar n c).hedge = s.hedge := rfl
@[simp] theorem setCellar_highest : (s.setCellar n c).highest = s.highest := rfl
@[simp] theorem setCellar_troughs : (s.setCellar n c).troughs = s.troughs := rfl
@[simp] theorem setCellar_snooped : (s.setCellar n c).snooped = s.snooped := rfl
@[simp] theorem setCellar_cores : (s.setCellar n c).cores = s.cores := rfl
@[simp] theorem setCellar_mtime : (s.setCellar n c).mtime = s.mtime := rfl
@[simp] theorem setCellar_tasks : (s.setCellar n c).tasks = s.tasks := rfl
@[simp] theorem setCellar_ready : (s.setCellar n c).ready = s.ready := rfl
@[simp] theorem setCellar_watches : (s.setCellar n c).watches = s.watches := rfl
@[simp] theorem setCellar_taps : (s.setCellar n c).taps = s.taps := rfl
@[simp] theorem setCellar_power : (s.setCellar n c).power = s.power := rfl
@[simp] theorem setCellar_store : (s.setCellar n c).store = s.store := rfl
@[simp] theorem setCellar_load : (s.setCellar n c).load = s.load := rfl
@[simp] theorem setCellar_ring : (s.setCellar n c).ring = s.ring := rfl
@[simp] theorem setCellar_mirror : (s.setCellar n c).mirror = s.mirror := rfl
@[simp] theorem setCellar_pcie : (s.setCellar n c).pcie = s.pcie := rfl
@[simp] theorem setCellar_tap : (s.setCellar n c).tap = s.tap := rfl
@[simp] theorem setCellar_heldWrites : (s.setCellar n c).heldWrites = s.heldWrites := rfl
@[simp] theorem setCellar_remap : (s.setCellar n c).remap = s.remap := rfl
@[simp] theorem setCellar_verger : (s.setCellar n c).verger = s.verger := rfl

end setCellar

section setPort

variable (s : State) (p : Nat) (r : PortRec)

@[simp] theorem setPort_pending : (s.setPort p r).pending = s.pending := rfl
@[simp] theorem setPort_fuse : (s.setPort p r).fuse = s.fuse := rfl
@[simp] theorem setPort_freeCtr : (s.setPort p r).freeCtr = s.freeCtr := rfl
@[simp] theorem setPort_dev : (s.setPort p r).dev = s.dev := rfl
@[simp] theorem setPort_phase : (s.setPort p r).phase = s.phase := rfl
@[simp] theorem setPort_rota : (s.setPort p r).rota = s.rota := rfl
@[simp] theorem setPort_exec : (s.setPort p r).exec = s.exec := rfl
@[simp] theorem setPort_count : (s.setPort p r).count = s.count := rfl
@[simp] theorem setPort_halts : (s.setPort p r).halts = s.halts := rfl
@[simp] theorem setPort_uncorrected : (s.setPort p r).uncorrected = s.uncorrected := rfl
@[simp] theorem setPort_debug : (s.setPort p r).debug = s.debug := rfl
@[simp] theorem setPort_objs : (s.setPort p r).objs = s.objs := rfl
@[simp] theorem setPort_mem : (s.setPort p r).mem = s.mem := rfl
@[simp] theorem setPort_errs : (s.setPort p r).errs = s.errs := rfl
@[simp] theorem setPort_crofts : (s.setPort p r).crofts = s.crofts := rfl
@[simp] theorem setPort_cellars : (s.setPort p r).cellars = s.cellars := rfl
@[simp] theorem setPort_tests : (s.setPort p r).tests = s.tests := rfl
@[simp] theorem setPort_softRepairs : (s.setPort p r).softRepairs = s.softRepairs := rfl
@[simp] theorem setPort_croftMap : (s.setPort p r).croftMap = s.croftMap := rfl
@[simp] theorem setPort_bell : (s.setPort p r).bell = s.bell := rfl
@[simp] theorem setPort_opn : (s.setPort p r).opn = s.opn := rfl
@[simp] theorem setPort_answer : (s.setPort p r).answer = s.answer := rfl
@[simp] theorem setPort_msixEnable : (s.setPort p r).msixEnable = s.msixEnable := rfl
@[simp] theorem setPort_msixFuncMask : (s.setPort p r).msixFuncMask = s.msixFuncMask := rfl
@[simp] theorem setPort_msixPending : (s.setPort p r).msixPending = s.msixPending := rfl
@[simp] theorem setPort_msixSent : (s.setPort p r).msixSent = s.msixSent := rfl
@[simp] theorem setPort_steeple : (s.setPort p r).steeple = s.steeple := rfl
@[simp] theorem setPort_replay : (s.setPort p r).replay = s.replay := rfl
@[simp] theorem setPort_allset : (s.setPort p r).allset = s.allset := rfl
@[simp] theorem setPort_alignSpoiled : (s.setPort p r).alignSpoiled = s.alignSpoiled := rfl
@[simp] theorem setPort_hedge : (s.setPort p r).hedge = s.hedge := rfl
@[simp] theorem setPort_highest : (s.setPort p r).highest = s.highest := rfl
@[simp] theorem setPort_troughs : (s.setPort p r).troughs = s.troughs := rfl
@[simp] theorem setPort_snooped : (s.setPort p r).snooped = s.snooped := rfl
@[simp] theorem setPort_cores : (s.setPort p r).cores = s.cores := rfl
@[simp] theorem setPort_mtime : (s.setPort p r).mtime = s.mtime := rfl
@[simp] theorem setPort_tasks : (s.setPort p r).tasks = s.tasks := rfl
@[simp] theorem setPort_ready : (s.setPort p r).ready = s.ready := rfl
@[simp] theorem setPort_watches : (s.setPort p r).watches = s.watches := rfl
@[simp] theorem setPort_taps : (s.setPort p r).taps = s.taps := rfl
@[simp] theorem setPort_power : (s.setPort p r).power = s.power := rfl
@[simp] theorem setPort_store : (s.setPort p r).store = s.store := rfl
@[simp] theorem setPort_load : (s.setPort p r).load = s.load := rfl
@[simp] theorem setPort_ring : (s.setPort p r).ring = s.ring := rfl
@[simp] theorem setPort_mirror : (s.setPort p r).mirror = s.mirror := rfl
@[simp] theorem setPort_pcie : (s.setPort p r).pcie = s.pcie := rfl
@[simp] theorem setPort_tap : (s.setPort p r).tap = s.tap := rfl
@[simp] theorem setPort_heldWrites : (s.setPort p r).heldWrites = s.heldWrites := rfl
@[simp] theorem setPort_remap : (s.setPort p r).remap = s.remap := rfl
@[simp] theorem setPort_verger : (s.setPort p r).verger = s.verger := rfl

end setPort

section setRsv

variable (s : State) (t i : Nat) (r : Rsv)

@[simp] theorem setRsv_pending : (s.setRsv t i r).pending = s.pending := rfl
@[simp] theorem setRsv_fuse : (s.setRsv t i r).fuse = s.fuse := rfl
@[simp] theorem setRsv_freeCtr : (s.setRsv t i r).freeCtr = s.freeCtr := rfl
@[simp] theorem setRsv_dev : (s.setRsv t i r).dev = s.dev := rfl
@[simp] theorem setRsv_phase : (s.setRsv t i r).phase = s.phase := rfl
@[simp] theorem setRsv_rota : (s.setRsv t i r).rota = s.rota := rfl
@[simp] theorem setRsv_exec : (s.setRsv t i r).exec = s.exec := rfl
@[simp] theorem setRsv_count : (s.setRsv t i r).count = s.count := rfl
@[simp] theorem setRsv_halts : (s.setRsv t i r).halts = s.halts := rfl
@[simp] theorem setRsv_uncorrected : (s.setRsv t i r).uncorrected = s.uncorrected := rfl
@[simp] theorem setRsv_debug : (s.setRsv t i r).debug = s.debug := rfl
@[simp] theorem setRsv_objs : (s.setRsv t i r).objs = s.objs := rfl
@[simp] theorem setRsv_mem : (s.setRsv t i r).mem = s.mem := rfl
@[simp] theorem setRsv_errs : (s.setRsv t i r).errs = s.errs := rfl
@[simp] theorem setRsv_crofts : (s.setRsv t i r).crofts = s.crofts := rfl
@[simp] theorem setRsv_cellars : (s.setRsv t i r).cellars = s.cellars := rfl
@[simp] theorem setRsv_tests : (s.setRsv t i r).tests = s.tests := rfl
@[simp] theorem setRsv_softRepairs : (s.setRsv t i r).softRepairs = s.softRepairs := rfl
@[simp] theorem setRsv_croftMap : (s.setRsv t i r).croftMap = s.croftMap := rfl
@[simp] theorem setRsv_bell : (s.setRsv t i r).bell = s.bell := rfl
@[simp] theorem setRsv_answer : (s.setRsv t i r).answer = s.answer := rfl
@[simp] theorem setRsv_msixEnable : (s.setRsv t i r).msixEnable = s.msixEnable := rfl
@[simp] theorem setRsv_msixFuncMask : (s.setRsv t i r).msixFuncMask = s.msixFuncMask := rfl
@[simp] theorem setRsv_msixPending : (s.setRsv t i r).msixPending = s.msixPending := rfl
@[simp] theorem setRsv_msixSent : (s.setRsv t i r).msixSent = s.msixSent := rfl
@[simp] theorem setRsv_ports : (s.setRsv t i r).ports = s.ports := rfl
@[simp] theorem setRsv_steeple : (s.setRsv t i r).steeple = s.steeple := rfl
@[simp] theorem setRsv_replay : (s.setRsv t i r).replay = s.replay := rfl
@[simp] theorem setRsv_allset : (s.setRsv t i r).allset = s.allset := rfl
@[simp] theorem setRsv_alignSpoiled : (s.setRsv t i r).alignSpoiled = s.alignSpoiled := rfl
@[simp] theorem setRsv_hedge : (s.setRsv t i r).hedge = s.hedge := rfl
@[simp] theorem setRsv_highest : (s.setRsv t i r).highest = s.highest := rfl
@[simp] theorem setRsv_troughs : (s.setRsv t i r).troughs = s.troughs := rfl
@[simp] theorem setRsv_snooped : (s.setRsv t i r).snooped = s.snooped := rfl
@[simp] theorem setRsv_cores : (s.setRsv t i r).cores = s.cores := rfl
@[simp] theorem setRsv_mtime : (s.setRsv t i r).mtime = s.mtime := rfl
@[simp] theorem setRsv_tasks : (s.setRsv t i r).tasks = s.tasks := rfl
@[simp] theorem setRsv_ready : (s.setRsv t i r).ready = s.ready := rfl
@[simp] theorem setRsv_watches : (s.setRsv t i r).watches = s.watches := rfl
@[simp] theorem setRsv_taps : (s.setRsv t i r).taps = s.taps := rfl
@[simp] theorem setRsv_power : (s.setRsv t i r).power = s.power := rfl
@[simp] theorem setRsv_store : (s.setRsv t i r).store = s.store := rfl
@[simp] theorem setRsv_load : (s.setRsv t i r).load = s.load := rfl
@[simp] theorem setRsv_ring : (s.setRsv t i r).ring = s.ring := rfl
@[simp] theorem setRsv_mirror : (s.setRsv t i r).mirror = s.mirror := rfl
@[simp] theorem setRsv_pcie : (s.setRsv t i r).pcie = s.pcie := rfl
@[simp] theorem setRsv_tap : (s.setRsv t i r).tap = s.tap := rfl
@[simp] theorem setRsv_heldWrites : (s.setRsv t i r).heldWrites = s.heldWrites := rfl
@[simp] theorem setRsv_remap : (s.setRsv t i r).remap = s.remap := rfl
@[simp] theorem setRsv_verger : (s.setRsv t i r).verger = s.verger := rfl

end setRsv

section setTest

variable (s : State) (u : Nat) (t : TestEng)

@[simp] theorem setTest_pending : (s.setTest u t).pending = s.pending := rfl
@[simp] theorem setTest_fuse : (s.setTest u t).fuse = s.fuse := rfl
@[simp] theorem setTest_freeCtr : (s.setTest u t).freeCtr = s.freeCtr := rfl
@[simp] theorem setTest_dev : (s.setTest u t).dev = s.dev := rfl
@[simp] theorem setTest_phase : (s.setTest u t).phase = s.phase := rfl
@[simp] theorem setTest_rota : (s.setTest u t).rota = s.rota := rfl
@[simp] theorem setTest_exec : (s.setTest u t).exec = s.exec := rfl
@[simp] theorem setTest_count : (s.setTest u t).count = s.count := rfl
@[simp] theorem setTest_halts : (s.setTest u t).halts = s.halts := rfl
@[simp] theorem setTest_uncorrected : (s.setTest u t).uncorrected = s.uncorrected := rfl
@[simp] theorem setTest_debug : (s.setTest u t).debug = s.debug := rfl
@[simp] theorem setTest_objs : (s.setTest u t).objs = s.objs := rfl
@[simp] theorem setTest_mem : (s.setTest u t).mem = s.mem := rfl
@[simp] theorem setTest_errs : (s.setTest u t).errs = s.errs := rfl
@[simp] theorem setTest_crofts : (s.setTest u t).crofts = s.crofts := rfl
@[simp] theorem setTest_cellars : (s.setTest u t).cellars = s.cellars := rfl
@[simp] theorem setTest_softRepairs : (s.setTest u t).softRepairs = s.softRepairs := rfl
@[simp] theorem setTest_croftMap : (s.setTest u t).croftMap = s.croftMap := rfl
@[simp] theorem setTest_bell : (s.setTest u t).bell = s.bell := rfl
@[simp] theorem setTest_opn : (s.setTest u t).opn = s.opn := rfl
@[simp] theorem setTest_answer : (s.setTest u t).answer = s.answer := rfl
@[simp] theorem setTest_msixEnable : (s.setTest u t).msixEnable = s.msixEnable := rfl
@[simp] theorem setTest_msixFuncMask : (s.setTest u t).msixFuncMask = s.msixFuncMask := rfl
@[simp] theorem setTest_msixPending : (s.setTest u t).msixPending = s.msixPending := rfl
@[simp] theorem setTest_msixSent : (s.setTest u t).msixSent = s.msixSent := rfl
@[simp] theorem setTest_ports : (s.setTest u t).ports = s.ports := rfl
@[simp] theorem setTest_steeple : (s.setTest u t).steeple = s.steeple := rfl
@[simp] theorem setTest_replay : (s.setTest u t).replay = s.replay := rfl
@[simp] theorem setTest_allset : (s.setTest u t).allset = s.allset := rfl
@[simp] theorem setTest_alignSpoiled : (s.setTest u t).alignSpoiled = s.alignSpoiled := rfl
@[simp] theorem setTest_hedge : (s.setTest u t).hedge = s.hedge := rfl
@[simp] theorem setTest_highest : (s.setTest u t).highest = s.highest := rfl
@[simp] theorem setTest_troughs : (s.setTest u t).troughs = s.troughs := rfl
@[simp] theorem setTest_snooped : (s.setTest u t).snooped = s.snooped := rfl
@[simp] theorem setTest_cores : (s.setTest u t).cores = s.cores := rfl
@[simp] theorem setTest_mtime : (s.setTest u t).mtime = s.mtime := rfl
@[simp] theorem setTest_tasks : (s.setTest u t).tasks = s.tasks := rfl
@[simp] theorem setTest_ready : (s.setTest u t).ready = s.ready := rfl
@[simp] theorem setTest_watches : (s.setTest u t).watches = s.watches := rfl
@[simp] theorem setTest_taps : (s.setTest u t).taps = s.taps := rfl
@[simp] theorem setTest_power : (s.setTest u t).power = s.power := rfl
@[simp] theorem setTest_store : (s.setTest u t).store = s.store := rfl
@[simp] theorem setTest_load : (s.setTest u t).load = s.load := rfl
@[simp] theorem setTest_ring : (s.setTest u t).ring = s.ring := rfl
@[simp] theorem setTest_mirror : (s.setTest u t).mirror = s.mirror := rfl
@[simp] theorem setTest_pcie : (s.setTest u t).pcie = s.pcie := rfl
@[simp] theorem setTest_tap : (s.setTest u t).tap = s.tap := rfl
@[simp] theorem setTest_heldWrites : (s.setTest u t).heldWrites = s.heldWrites := rfl
@[simp] theorem setTest_remap : (s.setTest u t).remap = s.remap := rfl
@[simp] theorem setTest_verger : (s.setTest u t).verger = s.verger := rfl

end setTest

section setRegion

variable (s : State) (r : Nat) (x : RegionRec)

@[simp] theorem setRegion_pending : (s.setRegion r x).pending = s.pending := rfl
@[simp] theorem setRegion_fuse : (s.setRegion r x).fuse = s.fuse := rfl
@[simp] theorem setRegion_freeCtr : (s.setRegion r x).freeCtr = s.freeCtr := rfl
@[simp] theorem setRegion_dev : (s.setRegion r x).dev = s.dev := rfl
@[simp] theorem setRegion_phase : (s.setRegion r x).phase = s.phase := rfl
@[simp] theorem setRegion_rota : (s.setRegion r x).rota = s.rota := rfl
@[simp] theorem setRegion_exec : (s.setRegion r x).exec = s.exec := rfl
@[simp] theorem setRegion_count : (s.setRegion r x).count = s.count := rfl
@[simp] theorem setRegion_halts : (s.setRegion r x).halts = s.halts := rfl
@[simp] theorem setRegion_uncorrected : (s.setRegion r x).uncorrected = s.uncorrected := rfl
@[simp] theorem setRegion_debug : (s.setRegion r x).debug = s.debug := rfl
@[simp] theorem setRegion_objs : (s.setRegion r x).objs = s.objs := rfl
@[simp] theorem setRegion_mem : (s.setRegion r x).mem = s.mem := rfl
@[simp] theorem setRegion_errs : (s.setRegion r x).errs = s.errs := rfl
@[simp] theorem setRegion_crofts : (s.setRegion r x).crofts = s.crofts := rfl
@[simp] theorem setRegion_cellars : (s.setRegion r x).cellars = s.cellars := rfl
@[simp] theorem setRegion_tests : (s.setRegion r x).tests = s.tests := rfl
@[simp] theorem setRegion_softRepairs : (s.setRegion r x).softRepairs = s.softRepairs := rfl
@[simp] theorem setRegion_croftMap : (s.setRegion r x).croftMap = s.croftMap := rfl
@[simp] theorem setRegion_bell : (s.setRegion r x).bell = s.bell := rfl
@[simp] theorem setRegion_opn : (s.setRegion r x).opn = s.opn := rfl
@[simp] theorem setRegion_answer : (s.setRegion r x).answer = s.answer := rfl
@[simp] theorem setRegion_msixEnable : (s.setRegion r x).msixEnable = s.msixEnable := rfl
@[simp] theorem setRegion_msixFuncMask : (s.setRegion r x).msixFuncMask = s.msixFuncMask := rfl
@[simp] theorem setRegion_msixPending : (s.setRegion r x).msixPending = s.msixPending := rfl
@[simp] theorem setRegion_msixSent : (s.setRegion r x).msixSent = s.msixSent := rfl
@[simp] theorem setRegion_ports : (s.setRegion r x).ports = s.ports := rfl
@[simp] theorem setRegion_steeple : (s.setRegion r x).steeple = s.steeple := rfl
@[simp] theorem setRegion_replay : (s.setRegion r x).replay = s.replay := rfl
@[simp] theorem setRegion_allset : (s.setRegion r x).allset = s.allset := rfl
@[simp] theorem setRegion_alignSpoiled : (s.setRegion r x).alignSpoiled = s.alignSpoiled := rfl
@[simp] theorem setRegion_highest : (s.setRegion r x).highest = s.highest := rfl
@[simp] theorem setRegion_troughs : (s.setRegion r x).troughs = s.troughs := rfl
@[simp] theorem setRegion_snooped : (s.setRegion r x).snooped = s.snooped := rfl
@[simp] theorem setRegion_cores : (s.setRegion r x).cores = s.cores := rfl
@[simp] theorem setRegion_mtime : (s.setRegion r x).mtime = s.mtime := rfl
@[simp] theorem setRegion_tasks : (s.setRegion r x).tasks = s.tasks := rfl
@[simp] theorem setRegion_ready : (s.setRegion r x).ready = s.ready := rfl
@[simp] theorem setRegion_watches : (s.setRegion r x).watches = s.watches := rfl
@[simp] theorem setRegion_taps : (s.setRegion r x).taps = s.taps := rfl
@[simp] theorem setRegion_power : (s.setRegion r x).power = s.power := rfl
@[simp] theorem setRegion_store : (s.setRegion r x).store = s.store := rfl
@[simp] theorem setRegion_load : (s.setRegion r x).load = s.load := rfl
@[simp] theorem setRegion_ring : (s.setRegion r x).ring = s.ring := rfl
@[simp] theorem setRegion_mirror : (s.setRegion r x).mirror = s.mirror := rfl
@[simp] theorem setRegion_pcie : (s.setRegion r x).pcie = s.pcie := rfl
@[simp] theorem setRegion_tap : (s.setRegion r x).tap = s.tap := rfl
@[simp] theorem setRegion_heldWrites : (s.setRegion r x).heldWrites = s.heldWrites := rfl
@[simp] theorem setRegion_remap : (s.setRegion r x).remap = s.remap := rfl
@[simp] theorem setRegion_verger : (s.setRegion r x).verger = s.verger := rfl

end setRegion

section setHinit

variable (s : State) (i : Nat) (x : HInit)

@[simp] theorem setHinit_pending : (s.setHinit i x).pending = s.pending := rfl
@[simp] theorem setHinit_fuse : (s.setHinit i x).fuse = s.fuse := rfl
@[simp] theorem setHinit_freeCtr : (s.setHinit i x).freeCtr = s.freeCtr := rfl
@[simp] theorem setHinit_dev : (s.setHinit i x).dev = s.dev := rfl
@[simp] theorem setHinit_phase : (s.setHinit i x).phase = s.phase := rfl
@[simp] theorem setHinit_rota : (s.setHinit i x).rota = s.rota := rfl
@[simp] theorem setHinit_exec : (s.setHinit i x).exec = s.exec := rfl
@[simp] theorem setHinit_count : (s.setHinit i x).count = s.count := rfl
@[simp] theorem setHinit_halts : (s.setHinit i x).halts = s.halts := rfl
@[simp] theorem setHinit_uncorrected : (s.setHinit i x).uncorrected = s.uncorrected := rfl
@[simp] theorem setHinit_debug : (s.setHinit i x).debug = s.debug := rfl
@[simp] theorem setHinit_objs : (s.setHinit i x).objs = s.objs := rfl
@[simp] theorem setHinit_mem : (s.setHinit i x).mem = s.mem := rfl
@[simp] theorem setHinit_errs : (s.setHinit i x).errs = s.errs := rfl
@[simp] theorem setHinit_crofts : (s.setHinit i x).crofts = s.crofts := rfl
@[simp] theorem setHinit_cellars : (s.setHinit i x).cellars = s.cellars := rfl
@[simp] theorem setHinit_tests : (s.setHinit i x).tests = s.tests := rfl
@[simp] theorem setHinit_softRepairs : (s.setHinit i x).softRepairs = s.softRepairs := rfl
@[simp] theorem setHinit_croftMap : (s.setHinit i x).croftMap = s.croftMap := rfl
@[simp] theorem setHinit_bell : (s.setHinit i x).bell = s.bell := rfl
@[simp] theorem setHinit_opn : (s.setHinit i x).opn = s.opn := rfl
@[simp] theorem setHinit_answer : (s.setHinit i x).answer = s.answer := rfl
@[simp] theorem setHinit_msixEnable : (s.setHinit i x).msixEnable = s.msixEnable := rfl
@[simp] theorem setHinit_msixFuncMask : (s.setHinit i x).msixFuncMask = s.msixFuncMask := rfl
@[simp] theorem setHinit_msixPending : (s.setHinit i x).msixPending = s.msixPending := rfl
@[simp] theorem setHinit_msixSent : (s.setHinit i x).msixSent = s.msixSent := rfl
@[simp] theorem setHinit_ports : (s.setHinit i x).ports = s.ports := rfl
@[simp] theorem setHinit_steeple : (s.setHinit i x).steeple = s.steeple := rfl
@[simp] theorem setHinit_replay : (s.setHinit i x).replay = s.replay := rfl
@[simp] theorem setHinit_allset : (s.setHinit i x).allset = s.allset := rfl
@[simp] theorem setHinit_alignSpoiled : (s.setHinit i x).alignSpoiled = s.alignSpoiled := rfl
@[simp] theorem setHinit_highest : (s.setHinit i x).highest = s.highest := rfl
@[simp] theorem setHinit_troughs : (s.setHinit i x).troughs = s.troughs := rfl
@[simp] theorem setHinit_snooped : (s.setHinit i x).snooped = s.snooped := rfl
@[simp] theorem setHinit_cores : (s.setHinit i x).cores = s.cores := rfl
@[simp] theorem setHinit_mtime : (s.setHinit i x).mtime = s.mtime := rfl
@[simp] theorem setHinit_tasks : (s.setHinit i x).tasks = s.tasks := rfl
@[simp] theorem setHinit_ready : (s.setHinit i x).ready = s.ready := rfl
@[simp] theorem setHinit_watches : (s.setHinit i x).watches = s.watches := rfl
@[simp] theorem setHinit_taps : (s.setHinit i x).taps = s.taps := rfl
@[simp] theorem setHinit_power : (s.setHinit i x).power = s.power := rfl
@[simp] theorem setHinit_store : (s.setHinit i x).store = s.store := rfl
@[simp] theorem setHinit_load : (s.setHinit i x).load = s.load := rfl
@[simp] theorem setHinit_ring : (s.setHinit i x).ring = s.ring := rfl
@[simp] theorem setHinit_mirror : (s.setHinit i x).mirror = s.mirror := rfl
@[simp] theorem setHinit_pcie : (s.setHinit i x).pcie = s.pcie := rfl
@[simp] theorem setHinit_tap : (s.setHinit i x).tap = s.tap := rfl
@[simp] theorem setHinit_heldWrites : (s.setHinit i x).heldWrites = s.heldWrites := rfl
@[simp] theorem setHinit_remap : (s.setHinit i x).remap = s.remap := rfl
@[simp] theorem setHinit_verger : (s.setHinit i x).verger = s.verger := rfl

end setHinit

section setTrough

variable (s : State) (t : Nat) (x : TroughRec)

@[simp] theorem setTrough_pending : (s.setTrough t x).pending = s.pending := rfl
@[simp] theorem setTrough_fuse : (s.setTrough t x).fuse = s.fuse := rfl
@[simp] theorem setTrough_freeCtr : (s.setTrough t x).freeCtr = s.freeCtr := rfl
@[simp] theorem setTrough_dev : (s.setTrough t x).dev = s.dev := rfl
@[simp] theorem setTrough_phase : (s.setTrough t x).phase = s.phase := rfl
@[simp] theorem setTrough_rota : (s.setTrough t x).rota = s.rota := rfl
@[simp] theorem setTrough_exec : (s.setTrough t x).exec = s.exec := rfl
@[simp] theorem setTrough_count : (s.setTrough t x).count = s.count := rfl
@[simp] theorem setTrough_halts : (s.setTrough t x).halts = s.halts := rfl
@[simp] theorem setTrough_uncorrected : (s.setTrough t x).uncorrected = s.uncorrected := rfl
@[simp] theorem setTrough_debug : (s.setTrough t x).debug = s.debug := rfl
@[simp] theorem setTrough_objs : (s.setTrough t x).objs = s.objs := rfl
@[simp] theorem setTrough_mem : (s.setTrough t x).mem = s.mem := rfl
@[simp] theorem setTrough_errs : (s.setTrough t x).errs = s.errs := rfl
@[simp] theorem setTrough_crofts : (s.setTrough t x).crofts = s.crofts := rfl
@[simp] theorem setTrough_cellars : (s.setTrough t x).cellars = s.cellars := rfl
@[simp] theorem setTrough_tests : (s.setTrough t x).tests = s.tests := rfl
@[simp] theorem setTrough_softRepairs : (s.setTrough t x).softRepairs = s.softRepairs := rfl
@[simp] theorem setTrough_croftMap : (s.setTrough t x).croftMap = s.croftMap := rfl
@[simp] theorem setTrough_bell : (s.setTrough t x).bell = s.bell := rfl
@[simp] theorem setTrough_opn : (s.setTrough t x).opn = s.opn := rfl
@[simp] theorem setTrough_answer : (s.setTrough t x).answer = s.answer := rfl
@[simp] theorem setTrough_msixEnable : (s.setTrough t x).msixEnable = s.msixEnable := rfl
@[simp] theorem setTrough_msixFuncMask : (s.setTrough t x).msixFuncMask = s.msixFuncMask := rfl
@[simp] theorem setTrough_msixPending : (s.setTrough t x).msixPending = s.msixPending := rfl
@[simp] theorem setTrough_msixSent : (s.setTrough t x).msixSent = s.msixSent := rfl
@[simp] theorem setTrough_ports : (s.setTrough t x).ports = s.ports := rfl
@[simp] theorem setTrough_steeple : (s.setTrough t x).steeple = s.steeple := rfl
@[simp] theorem setTrough_replay : (s.setTrough t x).replay = s.replay := rfl
@[simp] theorem setTrough_allset : (s.setTrough t x).allset = s.allset := rfl
@[simp] theorem setTrough_alignSpoiled : (s.setTrough t x).alignSpoiled = s.alignSpoiled := rfl
@[simp] theorem setTrough_hedge : (s.setTrough t x).hedge = s.hedge := rfl
@[simp] theorem setTrough_highest : (s.setTrough t x).highest = s.highest := rfl
@[simp] theorem setTrough_snooped : (s.setTrough t x).snooped = s.snooped := rfl
@[simp] theorem setTrough_cores : (s.setTrough t x).cores = s.cores := rfl
@[simp] theorem setTrough_mtime : (s.setTrough t x).mtime = s.mtime := rfl
@[simp] theorem setTrough_tasks : (s.setTrough t x).tasks = s.tasks := rfl
@[simp] theorem setTrough_ready : (s.setTrough t x).ready = s.ready := rfl
@[simp] theorem setTrough_watches : (s.setTrough t x).watches = s.watches := rfl
@[simp] theorem setTrough_taps : (s.setTrough t x).taps = s.taps := rfl
@[simp] theorem setTrough_power : (s.setTrough t x).power = s.power := rfl
@[simp] theorem setTrough_store : (s.setTrough t x).store = s.store := rfl
@[simp] theorem setTrough_load : (s.setTrough t x).load = s.load := rfl
@[simp] theorem setTrough_ring : (s.setTrough t x).ring = s.ring := rfl
@[simp] theorem setTrough_mirror : (s.setTrough t x).mirror = s.mirror := rfl
@[simp] theorem setTrough_pcie : (s.setTrough t x).pcie = s.pcie := rfl
@[simp] theorem setTrough_tap : (s.setTrough t x).tap = s.tap := rfl
@[simp] theorem setTrough_heldWrites : (s.setTrough t x).heldWrites = s.heldWrites := rfl
@[simp] theorem setTrough_remap : (s.setTrough t x).remap = s.remap := rfl
@[simp] theorem setTrough_verger : (s.setTrough t x).verger = s.verger := rfl

end setTrough

section setTask

variable (s : State) (i r : Nat)

@[simp] theorem setTask_pending : (s.setTask i r).pending = s.pending := rfl
@[simp] theorem setTask_fuse : (s.setTask i r).fuse = s.fuse := rfl
@[simp] theorem setTask_freeCtr : (s.setTask i r).freeCtr = s.freeCtr := rfl
@[simp] theorem setTask_dev : (s.setTask i r).dev = s.dev := rfl
@[simp] theorem setTask_phase : (s.setTask i r).phase = s.phase := rfl
@[simp] theorem setTask_rota : (s.setTask i r).rota = s.rota := rfl
@[simp] theorem setTask_exec : (s.setTask i r).exec = s.exec := rfl
@[simp] theorem setTask_count : (s.setTask i r).count = s.count := rfl
@[simp] theorem setTask_halts : (s.setTask i r).halts = s.halts := rfl
@[simp] theorem setTask_uncorrected : (s.setTask i r).uncorrected = s.uncorrected := rfl
@[simp] theorem setTask_debug : (s.setTask i r).debug = s.debug := rfl
@[simp] theorem setTask_objs : (s.setTask i r).objs = s.objs := rfl
@[simp] theorem setTask_mem : (s.setTask i r).mem = s.mem := rfl
@[simp] theorem setTask_errs : (s.setTask i r).errs = s.errs := rfl
@[simp] theorem setTask_crofts : (s.setTask i r).crofts = s.crofts := rfl
@[simp] theorem setTask_cellars : (s.setTask i r).cellars = s.cellars := rfl
@[simp] theorem setTask_tests : (s.setTask i r).tests = s.tests := rfl
@[simp] theorem setTask_softRepairs : (s.setTask i r).softRepairs = s.softRepairs := rfl
@[simp] theorem setTask_croftMap : (s.setTask i r).croftMap = s.croftMap := rfl
@[simp] theorem setTask_bell : (s.setTask i r).bell = s.bell := rfl
@[simp] theorem setTask_opn : (s.setTask i r).opn = s.opn := rfl
@[simp] theorem setTask_answer : (s.setTask i r).answer = s.answer := rfl
@[simp] theorem setTask_msixEnable : (s.setTask i r).msixEnable = s.msixEnable := rfl
@[simp] theorem setTask_msixFuncMask : (s.setTask i r).msixFuncMask = s.msixFuncMask := rfl
@[simp] theorem setTask_msixPending : (s.setTask i r).msixPending = s.msixPending := rfl
@[simp] theorem setTask_msixSent : (s.setTask i r).msixSent = s.msixSent := rfl
@[simp] theorem setTask_ports : (s.setTask i r).ports = s.ports := rfl
@[simp] theorem setTask_steeple : (s.setTask i r).steeple = s.steeple := rfl
@[simp] theorem setTask_replay : (s.setTask i r).replay = s.replay := rfl
@[simp] theorem setTask_allset : (s.setTask i r).allset = s.allset := rfl
@[simp] theorem setTask_alignSpoiled : (s.setTask i r).alignSpoiled = s.alignSpoiled := rfl
@[simp] theorem setTask_hedge : (s.setTask i r).hedge = s.hedge := rfl
@[simp] theorem setTask_highest : (s.setTask i r).highest = s.highest := rfl
@[simp] theorem setTask_troughs : (s.setTask i r).troughs = s.troughs := rfl
@[simp] theorem setTask_snooped : (s.setTask i r).snooped = s.snooped := rfl
@[simp] theorem setTask_cores : (s.setTask i r).cores = s.cores := rfl
@[simp] theorem setTask_mtime : (s.setTask i r).mtime = s.mtime := rfl
@[simp] theorem setTask_ready : (s.setTask i r).ready = s.ready := rfl
@[simp] theorem setTask_watches : (s.setTask i r).watches = s.watches := rfl
@[simp] theorem setTask_taps : (s.setTask i r).taps = s.taps := rfl
@[simp] theorem setTask_power : (s.setTask i r).power = s.power := rfl
@[simp] theorem setTask_store : (s.setTask i r).store = s.store := rfl
@[simp] theorem setTask_load : (s.setTask i r).load = s.load := rfl
@[simp] theorem setTask_ring : (s.setTask i r).ring = s.ring := rfl
@[simp] theorem setTask_mirror : (s.setTask i r).mirror = s.mirror := rfl
@[simp] theorem setTask_pcie : (s.setTask i r).pcie = s.pcie := rfl
@[simp] theorem setTask_tap : (s.setTask i r).tap = s.tap := rfl
@[simp] theorem setTask_heldWrites : (s.setTask i r).heldWrites = s.heldWrites := rfl
@[simp] theorem setTask_remap : (s.setTask i r).remap = s.remap := rfl
@[simp] theorem setTask_verger : (s.setTask i r).verger = s.verger := rfl

end setTask

section setReady

variable (s : State) (p : Nat) (l : List Nat)

@[simp] theorem setReady_pending : (s.setReady p l).pending = s.pending := rfl
@[simp] theorem setReady_fuse : (s.setReady p l).fuse = s.fuse := rfl
@[simp] theorem setReady_freeCtr : (s.setReady p l).freeCtr = s.freeCtr := rfl
@[simp] theorem setReady_dev : (s.setReady p l).dev = s.dev := rfl
@[simp] theorem setReady_phase : (s.setReady p l).phase = s.phase := rfl
@[simp] theorem setReady_rota : (s.setReady p l).rota = s.rota := rfl
@[simp] theorem setReady_exec : (s.setReady p l).exec = s.exec := rfl
@[simp] theorem setReady_count : (s.setReady p l).count = s.count := rfl
@[simp] theorem setReady_halts : (s.setReady p l).halts = s.halts := rfl
@[simp] theorem setReady_uncorrected : (s.setReady p l).uncorrected = s.uncorrected := rfl
@[simp] theorem setReady_debug : (s.setReady p l).debug = s.debug := rfl
@[simp] theorem setReady_objs : (s.setReady p l).objs = s.objs := rfl
@[simp] theorem setReady_mem : (s.setReady p l).mem = s.mem := rfl
@[simp] theorem setReady_errs : (s.setReady p l).errs = s.errs := rfl
@[simp] theorem setReady_crofts : (s.setReady p l).crofts = s.crofts := rfl
@[simp] theorem setReady_cellars : (s.setReady p l).cellars = s.cellars := rfl
@[simp] theorem setReady_tests : (s.setReady p l).tests = s.tests := rfl
@[simp] theorem setReady_softRepairs : (s.setReady p l).softRepairs = s.softRepairs := rfl
@[simp] theorem setReady_croftMap : (s.setReady p l).croftMap = s.croftMap := rfl
@[simp] theorem setReady_bell : (s.setReady p l).bell = s.bell := rfl
@[simp] theorem setReady_opn : (s.setReady p l).opn = s.opn := rfl
@[simp] theorem setReady_answer : (s.setReady p l).answer = s.answer := rfl
@[simp] theorem setReady_msixEnable : (s.setReady p l).msixEnable = s.msixEnable := rfl
@[simp] theorem setReady_msixFuncMask : (s.setReady p l).msixFuncMask = s.msixFuncMask := rfl
@[simp] theorem setReady_msixPending : (s.setReady p l).msixPending = s.msixPending := rfl
@[simp] theorem setReady_msixSent : (s.setReady p l).msixSent = s.msixSent := rfl
@[simp] theorem setReady_ports : (s.setReady p l).ports = s.ports := rfl
@[simp] theorem setReady_steeple : (s.setReady p l).steeple = s.steeple := rfl
@[simp] theorem setReady_replay : (s.setReady p l).replay = s.replay := rfl
@[simp] theorem setReady_allset : (s.setReady p l).allset = s.allset := rfl
@[simp] theorem setReady_alignSpoiled : (s.setReady p l).alignSpoiled = s.alignSpoiled := rfl
@[simp] theorem setReady_hedge : (s.setReady p l).hedge = s.hedge := rfl
@[simp] theorem setReady_highest : (s.setReady p l).highest = s.highest := rfl
@[simp] theorem setReady_troughs : (s.setReady p l).troughs = s.troughs := rfl
@[simp] theorem setReady_snooped : (s.setReady p l).snooped = s.snooped := rfl
@[simp] theorem setReady_cores : (s.setReady p l).cores = s.cores := rfl
@[simp] theorem setReady_mtime : (s.setReady p l).mtime = s.mtime := rfl
@[simp] theorem setReady_tasks : (s.setReady p l).tasks = s.tasks := rfl
@[simp] theorem setReady_watches : (s.setReady p l).watches = s.watches := rfl
@[simp] theorem setReady_taps : (s.setReady p l).taps = s.taps := rfl
@[simp] theorem setReady_power : (s.setReady p l).power = s.power := rfl
@[simp] theorem setReady_store : (s.setReady p l).store = s.store := rfl
@[simp] theorem setReady_load : (s.setReady p l).load = s.load := rfl
@[simp] theorem setReady_ring : (s.setReady p l).ring = s.ring := rfl
@[simp] theorem setReady_mirror : (s.setReady p l).mirror = s.mirror := rfl
@[simp] theorem setReady_pcie : (s.setReady p l).pcie = s.pcie := rfl
@[simp] theorem setReady_tap : (s.setReady p l).tap = s.tap := rfl
@[simp] theorem setReady_heldWrites : (s.setReady p l).heldWrites = s.heldWrites := rfl
@[simp] theorem setReady_remap : (s.setReady p l).remap = s.remap := rfl
@[simp] theorem setReady_verger : (s.setReady p l).verger = s.verger := rfl

end setReady

section setCore

variable (s : State) (k : Nat) (c : CoreRec)

@[simp] theorem setCore_pending : (s.setCore k c).pending = s.pending := rfl
@[simp] theorem setCore_fuse : (s.setCore k c).fuse = s.fuse := rfl
@[simp] theorem setCore_freeCtr : (s.setCore k c).freeCtr = s.freeCtr := rfl
@[simp] theorem setCore_dev : (s.setCore k c).dev = s.dev := rfl
@[simp] theorem setCore_phase : (s.setCore k c).phase = s.phase := rfl
@[simp] theorem setCore_rota : (s.setCore k c).rota = s.rota := rfl
@[simp] theorem setCore_exec : (s.setCore k c).exec = s.exec := rfl
@[simp] theorem setCore_count : (s.setCore k c).count = s.count := rfl
@[simp] theorem setCore_halts : (s.setCore k c).halts = s.halts := rfl
@[simp] theorem setCore_uncorrected : (s.setCore k c).uncorrected = s.uncorrected := rfl
@[simp] theorem setCore_debug : (s.setCore k c).debug = s.debug := rfl
@[simp] theorem setCore_objs : (s.setCore k c).objs = s.objs := rfl
@[simp] theorem setCore_mem : (s.setCore k c).mem = s.mem := rfl
@[simp] theorem setCore_errs : (s.setCore k c).errs = s.errs := rfl
@[simp] theorem setCore_crofts : (s.setCore k c).crofts = s.crofts := rfl
@[simp] theorem setCore_cellars : (s.setCore k c).cellars = s.cellars := rfl
@[simp] theorem setCore_tests : (s.setCore k c).tests = s.tests := rfl
@[simp] theorem setCore_softRepairs : (s.setCore k c).softRepairs = s.softRepairs := rfl
@[simp] theorem setCore_croftMap : (s.setCore k c).croftMap = s.croftMap := rfl
@[simp] theorem setCore_bell : (s.setCore k c).bell = s.bell := rfl
@[simp] theorem setCore_opn : (s.setCore k c).opn = s.opn := rfl
@[simp] theorem setCore_answer : (s.setCore k c).answer = s.answer := rfl
@[simp] theorem setCore_msixEnable : (s.setCore k c).msixEnable = s.msixEnable := rfl
@[simp] theorem setCore_msixFuncMask : (s.setCore k c).msixFuncMask = s.msixFuncMask := rfl
@[simp] theorem setCore_msixPending : (s.setCore k c).msixPending = s.msixPending := rfl
@[simp] theorem setCore_msixSent : (s.setCore k c).msixSent = s.msixSent := rfl
@[simp] theorem setCore_ports : (s.setCore k c).ports = s.ports := rfl
@[simp] theorem setCore_steeple : (s.setCore k c).steeple = s.steeple := rfl
@[simp] theorem setCore_replay : (s.setCore k c).replay = s.replay := rfl
@[simp] theorem setCore_allset : (s.setCore k c).allset = s.allset := rfl
@[simp] theorem setCore_alignSpoiled : (s.setCore k c).alignSpoiled = s.alignSpoiled := rfl
@[simp] theorem setCore_hedge : (s.setCore k c).hedge = s.hedge := rfl
@[simp] theorem setCore_highest : (s.setCore k c).highest = s.highest := rfl
@[simp] theorem setCore_troughs : (s.setCore k c).troughs = s.troughs := rfl
@[simp] theorem setCore_snooped : (s.setCore k c).snooped = s.snooped := rfl
@[simp] theorem setCore_mtime : (s.setCore k c).mtime = s.mtime := rfl
@[simp] theorem setCore_tasks : (s.setCore k c).tasks = s.tasks := rfl
@[simp] theorem setCore_ready : (s.setCore k c).ready = s.ready := rfl
@[simp] theorem setCore_watches : (s.setCore k c).watches = s.watches := rfl
@[simp] theorem setCore_taps : (s.setCore k c).taps = s.taps := rfl
@[simp] theorem setCore_power : (s.setCore k c).power = s.power := rfl
@[simp] theorem setCore_store : (s.setCore k c).store = s.store := rfl
@[simp] theorem setCore_load : (s.setCore k c).load = s.load := rfl
@[simp] theorem setCore_ring : (s.setCore k c).ring = s.ring := rfl
@[simp] theorem setCore_mirror : (s.setCore k c).mirror = s.mirror := rfl
@[simp] theorem setCore_pcie : (s.setCore k c).pcie = s.pcie := rfl
@[simp] theorem setCore_tap : (s.setCore k c).tap = s.tap := rfl
@[simp] theorem setCore_heldWrites : (s.setCore k c).heldWrites = s.heldWrites := rfl
@[simp] theorem setCore_remap : (s.setCore k c).remap = s.remap := rfl
@[simp] theorem setCore_verger : (s.setCore k c).verger = s.verger := rfl

end setCore

section setWatch

variable (s : State) (u : Nat) (w : WatchRec)

@[simp] theorem setWatch_pending : (s.setWatch u w).pending = s.pending := rfl
@[simp] theorem setWatch_fuse : (s.setWatch u w).fuse = s.fuse := rfl
@[simp] theorem setWatch_freeCtr : (s.setWatch u w).freeCtr = s.freeCtr := rfl
@[simp] theorem setWatch_dev : (s.setWatch u w).dev = s.dev := rfl
@[simp] theorem setWatch_phase : (s.setWatch u w).phase = s.phase := rfl
@[simp] theorem setWatch_rota : (s.setWatch u w).rota = s.rota := rfl
@[simp] theorem setWatch_exec : (s.setWatch u w).exec = s.exec := rfl
@[simp] theorem setWatch_count : (s.setWatch u w).count = s.count := rfl
@[simp] theorem setWatch_halts : (s.setWatch u w).halts = s.halts := rfl
@[simp] theorem setWatch_uncorrected : (s.setWatch u w).uncorrected = s.uncorrected := rfl
@[simp] theorem setWatch_debug : (s.setWatch u w).debug = s.debug := rfl
@[simp] theorem setWatch_objs : (s.setWatch u w).objs = s.objs := rfl
@[simp] theorem setWatch_mem : (s.setWatch u w).mem = s.mem := rfl
@[simp] theorem setWatch_errs : (s.setWatch u w).errs = s.errs := rfl
@[simp] theorem setWatch_crofts : (s.setWatch u w).crofts = s.crofts := rfl
@[simp] theorem setWatch_cellars : (s.setWatch u w).cellars = s.cellars := rfl
@[simp] theorem setWatch_tests : (s.setWatch u w).tests = s.tests := rfl
@[simp] theorem setWatch_softRepairs : (s.setWatch u w).softRepairs = s.softRepairs := rfl
@[simp] theorem setWatch_croftMap : (s.setWatch u w).croftMap = s.croftMap := rfl
@[simp] theorem setWatch_bell : (s.setWatch u w).bell = s.bell := rfl
@[simp] theorem setWatch_opn : (s.setWatch u w).opn = s.opn := rfl
@[simp] theorem setWatch_answer : (s.setWatch u w).answer = s.answer := rfl
@[simp] theorem setWatch_msixEnable : (s.setWatch u w).msixEnable = s.msixEnable := rfl
@[simp] theorem setWatch_msixFuncMask : (s.setWatch u w).msixFuncMask = s.msixFuncMask := rfl
@[simp] theorem setWatch_msixPending : (s.setWatch u w).msixPending = s.msixPending := rfl
@[simp] theorem setWatch_msixSent : (s.setWatch u w).msixSent = s.msixSent := rfl
@[simp] theorem setWatch_ports : (s.setWatch u w).ports = s.ports := rfl
@[simp] theorem setWatch_steeple : (s.setWatch u w).steeple = s.steeple := rfl
@[simp] theorem setWatch_replay : (s.setWatch u w).replay = s.replay := rfl
@[simp] theorem setWatch_allset : (s.setWatch u w).allset = s.allset := rfl
@[simp] theorem setWatch_alignSpoiled : (s.setWatch u w).alignSpoiled = s.alignSpoiled := rfl
@[simp] theorem setWatch_hedge : (s.setWatch u w).hedge = s.hedge := rfl
@[simp] theorem setWatch_highest : (s.setWatch u w).highest = s.highest := rfl
@[simp] theorem setWatch_troughs : (s.setWatch u w).troughs = s.troughs := rfl
@[simp] theorem setWatch_snooped : (s.setWatch u w).snooped = s.snooped := rfl
@[simp] theorem setWatch_cores : (s.setWatch u w).cores = s.cores := rfl
@[simp] theorem setWatch_mtime : (s.setWatch u w).mtime = s.mtime := rfl
@[simp] theorem setWatch_tasks : (s.setWatch u w).tasks = s.tasks := rfl
@[simp] theorem setWatch_ready : (s.setWatch u w).ready = s.ready := rfl
@[simp] theorem setWatch_taps : (s.setWatch u w).taps = s.taps := rfl
@[simp] theorem setWatch_power : (s.setWatch u w).power = s.power := rfl
@[simp] theorem setWatch_store : (s.setWatch u w).store = s.store := rfl
@[simp] theorem setWatch_load : (s.setWatch u w).load = s.load := rfl
@[simp] theorem setWatch_ring : (s.setWatch u w).ring = s.ring := rfl
@[simp] theorem setWatch_mirror : (s.setWatch u w).mirror = s.mirror := rfl
@[simp] theorem setWatch_pcie : (s.setWatch u w).pcie = s.pcie := rfl
@[simp] theorem setWatch_tap : (s.setWatch u w).tap = s.tap := rfl
@[simp] theorem setWatch_heldWrites : (s.setWatch u w).heldWrites = s.heldWrites := rfl
@[simp] theorem setWatch_remap : (s.setWatch u w).remap = s.remap := rfl
@[simp] theorem setWatch_verger : (s.setWatch u w).verger = s.verger := rfl

end setWatch

section setWindows

variable (s : State) (ws : List Window)

@[simp] theorem setWindows_pending : (s.setWindows ws).pending = s.pending := rfl
@[simp] theorem setWindows_fuse : (s.setWindows ws).fuse = s.fuse := rfl
@[simp] theorem setWindows_freeCtr : (s.setWindows ws).freeCtr = s.freeCtr := rfl
@[simp] theorem setWindows_dev : (s.setWindows ws).dev = s.dev := rfl
@[simp] theorem setWindows_phase : (s.setWindows ws).phase = s.phase := rfl
@[simp] theorem setWindows_rota : (s.setWindows ws).rota = s.rota := rfl
@[simp] theorem setWindows_exec : (s.setWindows ws).exec = s.exec := rfl
@[simp] theorem setWindows_count : (s.setWindows ws).count = s.count := rfl
@[simp] theorem setWindows_halts : (s.setWindows ws).halts = s.halts := rfl
@[simp] theorem setWindows_uncorrected : (s.setWindows ws).uncorrected = s.uncorrected := rfl
@[simp] theorem setWindows_debug : (s.setWindows ws).debug = s.debug := rfl
@[simp] theorem setWindows_objs : (s.setWindows ws).objs = s.objs := rfl
@[simp] theorem setWindows_mem : (s.setWindows ws).mem = s.mem := rfl
@[simp] theorem setWindows_errs : (s.setWindows ws).errs = s.errs := rfl
@[simp] theorem setWindows_crofts : (s.setWindows ws).crofts = s.crofts := rfl
@[simp] theorem setWindows_cellars : (s.setWindows ws).cellars = s.cellars := rfl
@[simp] theorem setWindows_tests : (s.setWindows ws).tests = s.tests := rfl
@[simp] theorem setWindows_softRepairs : (s.setWindows ws).softRepairs = s.softRepairs := rfl
@[simp] theorem setWindows_croftMap : (s.setWindows ws).croftMap = s.croftMap := rfl
@[simp] theorem setWindows_opn : (s.setWindows ws).opn = s.opn := rfl
@[simp] theorem setWindows_answer : (s.setWindows ws).answer = s.answer := rfl
@[simp] theorem setWindows_msixEnable : (s.setWindows ws).msixEnable = s.msixEnable := rfl
@[simp] theorem setWindows_msixFuncMask : (s.setWindows ws).msixFuncMask = s.msixFuncMask := rfl
@[simp] theorem setWindows_msixPending : (s.setWindows ws).msixPending = s.msixPending := rfl
@[simp] theorem setWindows_msixSent : (s.setWindows ws).msixSent = s.msixSent := rfl
@[simp] theorem setWindows_ports : (s.setWindows ws).ports = s.ports := rfl
@[simp] theorem setWindows_steeple : (s.setWindows ws).steeple = s.steeple := rfl
@[simp] theorem setWindows_replay : (s.setWindows ws).replay = s.replay := rfl
@[simp] theorem setWindows_allset : (s.setWindows ws).allset = s.allset := rfl
@[simp] theorem setWindows_alignSpoiled : (s.setWindows ws).alignSpoiled = s.alignSpoiled := rfl
@[simp] theorem setWindows_hedge : (s.setWindows ws).hedge = s.hedge := rfl
@[simp] theorem setWindows_highest : (s.setWindows ws).highest = s.highest := rfl
@[simp] theorem setWindows_troughs : (s.setWindows ws).troughs = s.troughs := rfl
@[simp] theorem setWindows_snooped : (s.setWindows ws).snooped = s.snooped := rfl
@[simp] theorem setWindows_cores : (s.setWindows ws).cores = s.cores := rfl
@[simp] theorem setWindows_mtime : (s.setWindows ws).mtime = s.mtime := rfl
@[simp] theorem setWindows_tasks : (s.setWindows ws).tasks = s.tasks := rfl
@[simp] theorem setWindows_ready : (s.setWindows ws).ready = s.ready := rfl
@[simp] theorem setWindows_watches : (s.setWindows ws).watches = s.watches := rfl
@[simp] theorem setWindows_taps : (s.setWindows ws).taps = s.taps := rfl
@[simp] theorem setWindows_power : (s.setWindows ws).power = s.power := rfl
@[simp] theorem setWindows_store : (s.setWindows ws).store = s.store := rfl
@[simp] theorem setWindows_load : (s.setWindows ws).load = s.load := rfl
@[simp] theorem setWindows_ring : (s.setWindows ws).ring = s.ring := rfl
@[simp] theorem setWindows_mirror : (s.setWindows ws).mirror = s.mirror := rfl
@[simp] theorem setWindows_pcie : (s.setWindows ws).pcie = s.pcie := rfl
@[simp] theorem setWindows_tap : (s.setWindows ws).tap = s.tap := rfl
@[simp] theorem setWindows_heldWrites : (s.setWindows ws).heldWrites = s.heldWrites := rfl
@[simp] theorem setWindows_remap : (s.setWindows ws).remap = s.remap := rfl
@[simp] theorem setWindows_verger : (s.setWindows ws).verger = s.verger := rfl

end setWindows

section setNet

variable (s : State) (n : NetRec)

@[simp] theorem setNet_pending : (s.setNet n).pending = s.pending := rfl
@[simp] theorem setNet_fuse : (s.setNet n).fuse = s.fuse := rfl
@[simp] theorem setNet_freeCtr : (s.setNet n).freeCtr = s.freeCtr := rfl
@[simp] theorem setNet_dev : (s.setNet n).dev = s.dev := rfl
@[simp] theorem setNet_phase : (s.setNet n).phase = s.phase := rfl
@[simp] theorem setNet_rota : (s.setNet n).rota = s.rota := rfl
@[simp] theorem setNet_exec : (s.setNet n).exec = s.exec := rfl
@[simp] theorem setNet_count : (s.setNet n).count = s.count := rfl
@[simp] theorem setNet_halts : (s.setNet n).halts = s.halts := rfl
@[simp] theorem setNet_uncorrected : (s.setNet n).uncorrected = s.uncorrected := rfl
@[simp] theorem setNet_debug : (s.setNet n).debug = s.debug := rfl
@[simp] theorem setNet_objs : (s.setNet n).objs = s.objs := rfl
@[simp] theorem setNet_mem : (s.setNet n).mem = s.mem := rfl
@[simp] theorem setNet_errs : (s.setNet n).errs = s.errs := rfl
@[simp] theorem setNet_crofts : (s.setNet n).crofts = s.crofts := rfl
@[simp] theorem setNet_cellars : (s.setNet n).cellars = s.cellars := rfl
@[simp] theorem setNet_tests : (s.setNet n).tests = s.tests := rfl
@[simp] theorem setNet_softRepairs : (s.setNet n).softRepairs = s.softRepairs := rfl
@[simp] theorem setNet_croftMap : (s.setNet n).croftMap = s.croftMap := rfl
@[simp] theorem setNet_bell : (s.setNet n).bell = s.bell := rfl
@[simp] theorem setNet_answer : (s.setNet n).answer = s.answer := rfl
@[simp] theorem setNet_msixEnable : (s.setNet n).msixEnable = s.msixEnable := rfl
@[simp] theorem setNet_msixFuncMask : (s.setNet n).msixFuncMask = s.msixFuncMask := rfl
@[simp] theorem setNet_msixPending : (s.setNet n).msixPending = s.msixPending := rfl
@[simp] theorem setNet_msixSent : (s.setNet n).msixSent = s.msixSent := rfl
@[simp] theorem setNet_ports : (s.setNet n).ports = s.ports := rfl
@[simp] theorem setNet_steeple : (s.setNet n).steeple = s.steeple := rfl
@[simp] theorem setNet_replay : (s.setNet n).replay = s.replay := rfl
@[simp] theorem setNet_allset : (s.setNet n).allset = s.allset := rfl
@[simp] theorem setNet_alignSpoiled : (s.setNet n).alignSpoiled = s.alignSpoiled := rfl
@[simp] theorem setNet_hedge : (s.setNet n).hedge = s.hedge := rfl
@[simp] theorem setNet_highest : (s.setNet n).highest = s.highest := rfl
@[simp] theorem setNet_troughs : (s.setNet n).troughs = s.troughs := rfl
@[simp] theorem setNet_snooped : (s.setNet n).snooped = s.snooped := rfl
@[simp] theorem setNet_cores : (s.setNet n).cores = s.cores := rfl
@[simp] theorem setNet_mtime : (s.setNet n).mtime = s.mtime := rfl
@[simp] theorem setNet_tasks : (s.setNet n).tasks = s.tasks := rfl
@[simp] theorem setNet_ready : (s.setNet n).ready = s.ready := rfl
@[simp] theorem setNet_watches : (s.setNet n).watches = s.watches := rfl
@[simp] theorem setNet_taps : (s.setNet n).taps = s.taps := rfl
@[simp] theorem setNet_power : (s.setNet n).power = s.power := rfl
@[simp] theorem setNet_store : (s.setNet n).store = s.store := rfl
@[simp] theorem setNet_load : (s.setNet n).load = s.load := rfl
@[simp] theorem setNet_ring : (s.setNet n).ring = s.ring := rfl
@[simp] theorem setNet_mirror : (s.setNet n).mirror = s.mirror := rfl
@[simp] theorem setNet_pcie : (s.setNet n).pcie = s.pcie := rfl
@[simp] theorem setNet_tap : (s.setNet n).tap = s.tap := rfl
@[simp] theorem setNet_heldWrites : (s.setNet n).heldWrites = s.heldWrites := rfl
@[simp] theorem setNet_remap : (s.setNet n).remap = s.remap := rfl
@[simp] theorem setNet_verger : (s.setNet n).verger = s.verger := rfl

end setNet

section complete

variable (s : State) (status : Nat) (data : List Byte)

@[simp] theorem complete_pending : (s.complete status data).pending = s.pending := rfl
@[simp] theorem complete_fuse : (s.complete status data).fuse = s.fuse := rfl
@[simp] theorem complete_freeCtr : (s.complete status data).freeCtr = s.freeCtr := rfl
@[simp] theorem complete_dev : (s.complete status data).dev = s.dev := rfl
@[simp] theorem complete_phase : (s.complete status data).phase = s.phase := rfl
@[simp] theorem complete_rota : (s.complete status data).rota = s.rota := rfl
@[simp] theorem complete_exec : (s.complete status data).exec = s.exec := rfl
@[simp] theorem complete_count : (s.complete status data).count = s.count := rfl
@[simp] theorem complete_halts : (s.complete status data).halts = s.halts := rfl
@[simp] theorem complete_uncorrected : (s.complete status data).uncorrected = s.uncorrected := rfl
@[simp] theorem complete_debug : (s.complete status data).debug = s.debug := rfl
@[simp] theorem complete_objs : (s.complete status data).objs = s.objs := rfl
@[simp] theorem complete_mem : (s.complete status data).mem = s.mem := rfl
@[simp] theorem complete_errs : (s.complete status data).errs = s.errs := rfl
@[simp] theorem complete_crofts : (s.complete status data).crofts = s.crofts := rfl
@[simp] theorem complete_cellars : (s.complete status data).cellars = s.cellars := rfl
@[simp] theorem complete_tests : (s.complete status data).tests = s.tests := rfl
@[simp] theorem complete_softRepairs : (s.complete status data).softRepairs = s.softRepairs := rfl
@[simp] theorem complete_croftMap : (s.complete status data).croftMap = s.croftMap := rfl
@[simp] theorem complete_bell : (s.complete status data).bell = s.bell := rfl
@[simp] theorem complete_opn : (s.complete status data).opn = s.opn := rfl
@[simp] theorem complete_answer : (s.complete status data).answer = s.answer := rfl
@[simp] theorem complete_msixEnable : (s.complete status data).msixEnable = s.msixEnable := rfl
@[simp] theorem complete_msixFuncMask : (s.complete status data).msixFuncMask = s.msixFuncMask := rfl
@[simp] theorem complete_msixPending : (s.complete status data).msixPending = s.msixPending := rfl
@[simp] theorem complete_msixSent : (s.complete status data).msixSent = s.msixSent := rfl
@[simp] theorem complete_ports : (s.complete status data).ports = s.ports := rfl
@[simp] theorem complete_steeple : (s.complete status data).steeple = s.steeple := rfl
@[simp] theorem complete_replay : (s.complete status data).replay = s.replay := rfl
@[simp] theorem complete_allset : (s.complete status data).allset = s.allset := rfl
@[simp] theorem complete_alignSpoiled : (s.complete status data).alignSpoiled = s.alignSpoiled := rfl
@[simp] theorem complete_hedge : (s.complete status data).hedge = s.hedge := rfl
@[simp] theorem complete_highest : (s.complete status data).highest = s.highest := rfl
@[simp] theorem complete_troughs : (s.complete status data).troughs = s.troughs := rfl
@[simp] theorem complete_snooped : (s.complete status data).snooped = s.snooped := rfl
@[simp] theorem complete_cores : (s.complete status data).cores = s.cores := rfl
@[simp] theorem complete_mtime : (s.complete status data).mtime = s.mtime := rfl
@[simp] theorem complete_tasks : (s.complete status data).tasks = s.tasks := rfl
@[simp] theorem complete_ready : (s.complete status data).ready = s.ready := rfl
@[simp] theorem complete_watches : (s.complete status data).watches = s.watches := rfl
@[simp] theorem complete_taps : (s.complete status data).taps = s.taps := rfl
@[simp] theorem complete_power : (s.complete status data).power = s.power := rfl
@[simp] theorem complete_store : (s.complete status data).store = s.store := rfl
@[simp] theorem complete_load : (s.complete status data).load = s.load := rfl
@[simp] theorem complete_ring : (s.complete status data).ring = s.ring := rfl
@[simp] theorem complete_mirror : (s.complete status data).mirror = s.mirror := rfl
@[simp] theorem complete_tap : (s.complete status data).tap = s.tap := rfl
@[simp] theorem complete_heldWrites : (s.complete status data).heldWrites = s.heldWrites := rfl
@[simp] theorem complete_remap : (s.complete status data).remap = s.remap := rfl
@[simp] theorem complete_verger : (s.complete status data).verger = s.verger := rfl

end complete

section sendP

variable (s : State) (bs : List Byte)

@[simp] theorem sendP_pending : (s.sendP bs).pending = s.pending := rfl
@[simp] theorem sendP_fuse : (s.sendP bs).fuse = s.fuse := rfl
@[simp] theorem sendP_freeCtr : (s.sendP bs).freeCtr = s.freeCtr := rfl
@[simp] theorem sendP_dev : (s.sendP bs).dev = s.dev := rfl
@[simp] theorem sendP_phase : (s.sendP bs).phase = s.phase := rfl
@[simp] theorem sendP_rota : (s.sendP bs).rota = s.rota := rfl
@[simp] theorem sendP_exec : (s.sendP bs).exec = s.exec := rfl
@[simp] theorem sendP_count : (s.sendP bs).count = s.count := rfl
@[simp] theorem sendP_halts : (s.sendP bs).halts = s.halts := rfl
@[simp] theorem sendP_uncorrected : (s.sendP bs).uncorrected = s.uncorrected := rfl
@[simp] theorem sendP_debug : (s.sendP bs).debug = s.debug := rfl
@[simp] theorem sendP_objs : (s.sendP bs).objs = s.objs := rfl
@[simp] theorem sendP_mem : (s.sendP bs).mem = s.mem := rfl
@[simp] theorem sendP_errs : (s.sendP bs).errs = s.errs := rfl
@[simp] theorem sendP_crofts : (s.sendP bs).crofts = s.crofts := rfl
@[simp] theorem sendP_cellars : (s.sendP bs).cellars = s.cellars := rfl
@[simp] theorem sendP_tests : (s.sendP bs).tests = s.tests := rfl
@[simp] theorem sendP_softRepairs : (s.sendP bs).softRepairs = s.softRepairs := rfl
@[simp] theorem sendP_croftMap : (s.sendP bs).croftMap = s.croftMap := rfl
@[simp] theorem sendP_bell : (s.sendP bs).bell = s.bell := rfl
@[simp] theorem sendP_opn : (s.sendP bs).opn = s.opn := rfl
@[simp] theorem sendP_answer : (s.sendP bs).answer = s.answer := rfl
@[simp] theorem sendP_msixEnable : (s.sendP bs).msixEnable = s.msixEnable := rfl
@[simp] theorem sendP_msixFuncMask : (s.sendP bs).msixFuncMask = s.msixFuncMask := rfl
@[simp] theorem sendP_msixPending : (s.sendP bs).msixPending = s.msixPending := rfl
@[simp] theorem sendP_msixSent : (s.sendP bs).msixSent = s.msixSent := rfl
@[simp] theorem sendP_ports : (s.sendP bs).ports = s.ports := rfl
@[simp] theorem sendP_steeple : (s.sendP bs).steeple = s.steeple := rfl
@[simp] theorem sendP_replay : (s.sendP bs).replay = s.replay := rfl
@[simp] theorem sendP_allset : (s.sendP bs).allset = s.allset := rfl
@[simp] theorem sendP_alignSpoiled : (s.sendP bs).alignSpoiled = s.alignSpoiled := rfl
@[simp] theorem sendP_hedge : (s.sendP bs).hedge = s.hedge := rfl
@[simp] theorem sendP_highest : (s.sendP bs).highest = s.highest := rfl
@[simp] theorem sendP_troughs : (s.sendP bs).troughs = s.troughs := rfl
@[simp] theorem sendP_snooped : (s.sendP bs).snooped = s.snooped := rfl
@[simp] theorem sendP_cores : (s.sendP bs).cores = s.cores := rfl
@[simp] theorem sendP_mtime : (s.sendP bs).mtime = s.mtime := rfl
@[simp] theorem sendP_tasks : (s.sendP bs).tasks = s.tasks := rfl
@[simp] theorem sendP_ready : (s.sendP bs).ready = s.ready := rfl
@[simp] theorem sendP_watches : (s.sendP bs).watches = s.watches := rfl
@[simp] theorem sendP_taps : (s.sendP bs).taps = s.taps := rfl
@[simp] theorem sendP_power : (s.sendP bs).power = s.power := rfl
@[simp] theorem sendP_store : (s.sendP bs).store = s.store := rfl
@[simp] theorem sendP_load : (s.sendP bs).load = s.load := rfl
@[simp] theorem sendP_mirror : (s.sendP bs).mirror = s.mirror := rfl
@[simp] theorem sendP_pcie : (s.sendP bs).pcie = s.pcie := rfl
@[simp] theorem sendP_tap : (s.sendP bs).tap = s.tap := rfl
@[simp] theorem sendP_heldWrites : (s.sendP bs).heldWrites = s.heldWrites := rfl
@[simp] theorem sendP_remap : (s.sendP bs).remap = s.remap := rfl
@[simp] theorem sendP_verger : (s.sendP bs).verger = s.verger := rfl

end sendP

section sendB

variable (s : State) (bs : List Byte)

@[simp] theorem sendB_pending : (s.sendB bs).pending = s.pending := rfl
@[simp] theorem sendB_fuse : (s.sendB bs).fuse = s.fuse := rfl
@[simp] theorem sendB_freeCtr : (s.sendB bs).freeCtr = s.freeCtr := rfl
@[simp] theorem sendB_dev : (s.sendB bs).dev = s.dev := rfl
@[simp] theorem sendB_phase : (s.sendB bs).phase = s.phase := rfl
@[simp] theorem sendB_rota : (s.sendB bs).rota = s.rota := rfl
@[simp] theorem sendB_exec : (s.sendB bs).exec = s.exec := rfl
@[simp] theorem sendB_count : (s.sendB bs).count = s.count := rfl
@[simp] theorem sendB_halts : (s.sendB bs).halts = s.halts := rfl
@[simp] theorem sendB_uncorrected : (s.sendB bs).uncorrected = s.uncorrected := rfl
@[simp] theorem sendB_debug : (s.sendB bs).debug = s.debug := rfl
@[simp] theorem sendB_objs : (s.sendB bs).objs = s.objs := rfl
@[simp] theorem sendB_mem : (s.sendB bs).mem = s.mem := rfl
@[simp] theorem sendB_errs : (s.sendB bs).errs = s.errs := rfl
@[simp] theorem sendB_crofts : (s.sendB bs).crofts = s.crofts := rfl
@[simp] theorem sendB_cellars : (s.sendB bs).cellars = s.cellars := rfl
@[simp] theorem sendB_tests : (s.sendB bs).tests = s.tests := rfl
@[simp] theorem sendB_softRepairs : (s.sendB bs).softRepairs = s.softRepairs := rfl
@[simp] theorem sendB_croftMap : (s.sendB bs).croftMap = s.croftMap := rfl
@[simp] theorem sendB_bell : (s.sendB bs).bell = s.bell := rfl
@[simp] theorem sendB_opn : (s.sendB bs).opn = s.opn := rfl
@[simp] theorem sendB_answer : (s.sendB bs).answer = s.answer := rfl
@[simp] theorem sendB_msixEnable : (s.sendB bs).msixEnable = s.msixEnable := rfl
@[simp] theorem sendB_msixFuncMask : (s.sendB bs).msixFuncMask = s.msixFuncMask := rfl
@[simp] theorem sendB_msixPending : (s.sendB bs).msixPending = s.msixPending := rfl
@[simp] theorem sendB_msixSent : (s.sendB bs).msixSent = s.msixSent := rfl
@[simp] theorem sendB_ports : (s.sendB bs).ports = s.ports := rfl
@[simp] theorem sendB_steeple : (s.sendB bs).steeple = s.steeple := rfl
@[simp] theorem sendB_replay : (s.sendB bs).replay = s.replay := rfl
@[simp] theorem sendB_allset : (s.sendB bs).allset = s.allset := rfl
@[simp] theorem sendB_alignSpoiled : (s.sendB bs).alignSpoiled = s.alignSpoiled := rfl
@[simp] theorem sendB_hedge : (s.sendB bs).hedge = s.hedge := rfl
@[simp] theorem sendB_highest : (s.sendB bs).highest = s.highest := rfl
@[simp] theorem sendB_troughs : (s.sendB bs).troughs = s.troughs := rfl
@[simp] theorem sendB_snooped : (s.sendB bs).snooped = s.snooped := rfl
@[simp] theorem sendB_cores : (s.sendB bs).cores = s.cores := rfl
@[simp] theorem sendB_mtime : (s.sendB bs).mtime = s.mtime := rfl
@[simp] theorem sendB_tasks : (s.sendB bs).tasks = s.tasks := rfl
@[simp] theorem sendB_ready : (s.sendB bs).ready = s.ready := rfl
@[simp] theorem sendB_watches : (s.sendB bs).watches = s.watches := rfl
@[simp] theorem sendB_taps : (s.sendB bs).taps = s.taps := rfl
@[simp] theorem sendB_power : (s.sendB bs).power = s.power := rfl
@[simp] theorem sendB_store : (s.sendB bs).store = s.store := rfl
@[simp] theorem sendB_load : (s.sendB bs).load = s.load := rfl
@[simp] theorem sendB_mirror : (s.sendB bs).mirror = s.mirror := rfl
@[simp] theorem sendB_pcie : (s.sendB bs).pcie = s.pcie := rfl
@[simp] theorem sendB_tap : (s.sendB bs).tap = s.tap := rfl
@[simp] theorem sendB_heldWrites : (s.sendB bs).heldWrites = s.heldWrites := rfl
@[simp] theorem sendB_remap : (s.sendB bs).remap = s.remap := rfl
@[simp] theorem sendB_verger : (s.sendB bs).verger = s.verger := rfl

end sendB

section setRefused

variable (s : State) (l : List (List Byte))

@[simp] theorem setRefused_pending : (s.setRefused l).pending = s.pending := rfl
@[simp] theorem setRefused_fuse : (s.setRefused l).fuse = s.fuse := rfl
@[simp] theorem setRefused_freeCtr : (s.setRefused l).freeCtr = s.freeCtr := rfl
@[simp] theorem setRefused_dev : (s.setRefused l).dev = s.dev := rfl
@[simp] theorem setRefused_phase : (s.setRefused l).phase = s.phase := rfl
@[simp] theorem setRefused_rota : (s.setRefused l).rota = s.rota := rfl
@[simp] theorem setRefused_exec : (s.setRefused l).exec = s.exec := rfl
@[simp] theorem setRefused_count : (s.setRefused l).count = s.count := rfl
@[simp] theorem setRefused_halts : (s.setRefused l).halts = s.halts := rfl
@[simp] theorem setRefused_uncorrected : (s.setRefused l).uncorrected = s.uncorrected := rfl
@[simp] theorem setRefused_debug : (s.setRefused l).debug = s.debug := rfl
@[simp] theorem setRefused_objs : (s.setRefused l).objs = s.objs := rfl
@[simp] theorem setRefused_mem : (s.setRefused l).mem = s.mem := rfl
@[simp] theorem setRefused_errs : (s.setRefused l).errs = s.errs := rfl
@[simp] theorem setRefused_crofts : (s.setRefused l).crofts = s.crofts := rfl
@[simp] theorem setRefused_cellars : (s.setRefused l).cellars = s.cellars := rfl
@[simp] theorem setRefused_tests : (s.setRefused l).tests = s.tests := rfl
@[simp] theorem setRefused_softRepairs : (s.setRefused l).softRepairs = s.softRepairs := rfl
@[simp] theorem setRefused_croftMap : (s.setRefused l).croftMap = s.croftMap := rfl
@[simp] theorem setRefused_bell : (s.setRefused l).bell = s.bell := rfl
@[simp] theorem setRefused_opn : (s.setRefused l).opn = s.opn := rfl
@[simp] theorem setRefused_answer : (s.setRefused l).answer = s.answer := rfl
@[simp] theorem setRefused_msixEnable : (s.setRefused l).msixEnable = s.msixEnable := rfl
@[simp] theorem setRefused_msixFuncMask : (s.setRefused l).msixFuncMask = s.msixFuncMask := rfl
@[simp] theorem setRefused_msixPending : (s.setRefused l).msixPending = s.msixPending := rfl
@[simp] theorem setRefused_msixSent : (s.setRefused l).msixSent = s.msixSent := rfl
@[simp] theorem setRefused_ports : (s.setRefused l).ports = s.ports := rfl
@[simp] theorem setRefused_steeple : (s.setRefused l).steeple = s.steeple := rfl
@[simp] theorem setRefused_replay : (s.setRefused l).replay = s.replay := rfl
@[simp] theorem setRefused_allset : (s.setRefused l).allset = s.allset := rfl
@[simp] theorem setRefused_alignSpoiled : (s.setRefused l).alignSpoiled = s.alignSpoiled := rfl
@[simp] theorem setRefused_hedge : (s.setRefused l).hedge = s.hedge := rfl
@[simp] theorem setRefused_highest : (s.setRefused l).highest = s.highest := rfl
@[simp] theorem setRefused_troughs : (s.setRefused l).troughs = s.troughs := rfl
@[simp] theorem setRefused_snooped : (s.setRefused l).snooped = s.snooped := rfl
@[simp] theorem setRefused_cores : (s.setRefused l).cores = s.cores := rfl
@[simp] theorem setRefused_mtime : (s.setRefused l).mtime = s.mtime := rfl
@[simp] theorem setRefused_tasks : (s.setRefused l).tasks = s.tasks := rfl
@[simp] theorem setRefused_ready : (s.setRefused l).ready = s.ready := rfl
@[simp] theorem setRefused_watches : (s.setRefused l).watches = s.watches := rfl
@[simp] theorem setRefused_taps : (s.setRefused l).taps = s.taps := rfl
@[simp] theorem setRefused_power : (s.setRefused l).power = s.power := rfl
@[simp] theorem setRefused_store : (s.setRefused l).store = s.store := rfl
@[simp] theorem setRefused_load : (s.setRefused l).load = s.load := rfl
@[simp] theorem setRefused_mirror : (s.setRefused l).mirror = s.mirror := rfl
@[simp] theorem setRefused_pcie : (s.setRefused l).pcie = s.pcie := rfl
@[simp] theorem setRefused_tap : (s.setRefused l).tap = s.tap := rfl
@[simp] theorem setRefused_heldWrites : (s.setRefused l).heldWrites = s.heldWrites := rfl
@[simp] theorem setRefused_remap : (s.setRefused l).remap = s.remap := rfl
@[simp] theorem setRefused_verger : (s.setRefused l).verger = s.verger := rfl

end setRefused

section setAllset

variable (s : State) (released seen : Bool)

@[simp] theorem setAllset_pending : (s.setAllset released seen).pending = s.pending := rfl
@[simp] theorem setAllset_fuse : (s.setAllset released seen).fuse = s.fuse := rfl
@[simp] theorem setAllset_freeCtr : (s.setAllset released seen).freeCtr = s.freeCtr := rfl
@[simp] theorem setAllset_dev : (s.setAllset released seen).dev = s.dev := rfl
@[simp] theorem setAllset_phase : (s.setAllset released seen).phase = s.phase := rfl
@[simp] theorem setAllset_rota : (s.setAllset released seen).rota = s.rota := rfl
@[simp] theorem setAllset_exec : (s.setAllset released seen).exec = s.exec := rfl
@[simp] theorem setAllset_count : (s.setAllset released seen).count = s.count := rfl
@[simp] theorem setAllset_halts : (s.setAllset released seen).halts = s.halts := rfl
@[simp] theorem setAllset_uncorrected : (s.setAllset released seen).uncorrected = s.uncorrected := rfl
@[simp] theorem setAllset_debug : (s.setAllset released seen).debug = s.debug := rfl
@[simp] theorem setAllset_objs : (s.setAllset released seen).objs = s.objs := rfl
@[simp] theorem setAllset_mem : (s.setAllset released seen).mem = s.mem := rfl
@[simp] theorem setAllset_errs : (s.setAllset released seen).errs = s.errs := rfl
@[simp] theorem setAllset_crofts : (s.setAllset released seen).crofts = s.crofts := rfl
@[simp] theorem setAllset_cellars : (s.setAllset released seen).cellars = s.cellars := rfl
@[simp] theorem setAllset_tests : (s.setAllset released seen).tests = s.tests := rfl
@[simp] theorem setAllset_softRepairs : (s.setAllset released seen).softRepairs = s.softRepairs := rfl
@[simp] theorem setAllset_croftMap : (s.setAllset released seen).croftMap = s.croftMap := rfl
@[simp] theorem setAllset_bell : (s.setAllset released seen).bell = s.bell := rfl
@[simp] theorem setAllset_opn : (s.setAllset released seen).opn = s.opn := rfl
@[simp] theorem setAllset_answer : (s.setAllset released seen).answer = s.answer := rfl
@[simp] theorem setAllset_msixEnable : (s.setAllset released seen).msixEnable = s.msixEnable := rfl
@[simp] theorem setAllset_msixFuncMask : (s.setAllset released seen).msixFuncMask = s.msixFuncMask := rfl
@[simp] theorem setAllset_msixPending : (s.setAllset released seen).msixPending = s.msixPending := rfl
@[simp] theorem setAllset_msixSent : (s.setAllset released seen).msixSent = s.msixSent := rfl
@[simp] theorem setAllset_ports : (s.setAllset released seen).ports = s.ports := rfl
@[simp] theorem setAllset_steeple : (s.setAllset released seen).steeple = s.steeple := rfl
@[simp] theorem setAllset_replay : (s.setAllset released seen).replay = s.replay := rfl
@[simp] theorem setAllset_alignSpoiled : (s.setAllset released seen).alignSpoiled = s.alignSpoiled := rfl
@[simp] theorem setAllset_hedge : (s.setAllset released seen).hedge = s.hedge := rfl
@[simp] theorem setAllset_highest : (s.setAllset released seen).highest = s.highest := rfl
@[simp] theorem setAllset_troughs : (s.setAllset released seen).troughs = s.troughs := rfl
@[simp] theorem setAllset_snooped : (s.setAllset released seen).snooped = s.snooped := rfl
@[simp] theorem setAllset_cores : (s.setAllset released seen).cores = s.cores := rfl
@[simp] theorem setAllset_mtime : (s.setAllset released seen).mtime = s.mtime := rfl
@[simp] theorem setAllset_tasks : (s.setAllset released seen).tasks = s.tasks := rfl
@[simp] theorem setAllset_ready : (s.setAllset released seen).ready = s.ready := rfl
@[simp] theorem setAllset_watches : (s.setAllset released seen).watches = s.watches := rfl
@[simp] theorem setAllset_taps : (s.setAllset released seen).taps = s.taps := rfl
@[simp] theorem setAllset_power : (s.setAllset released seen).power = s.power := rfl
@[simp] theorem setAllset_store : (s.setAllset released seen).store = s.store := rfl
@[simp] theorem setAllset_load : (s.setAllset released seen).load = s.load := rfl
@[simp] theorem setAllset_ring : (s.setAllset released seen).ring = s.ring := rfl
@[simp] theorem setAllset_mirror : (s.setAllset released seen).mirror = s.mirror := rfl
@[simp] theorem setAllset_pcie : (s.setAllset released seen).pcie = s.pcie := rfl
@[simp] theorem setAllset_tap : (s.setAllset released seen).tap = s.tap := rfl
@[simp] theorem setAllset_heldWrites : (s.setAllset released seen).heldWrites = s.heldWrites := rfl
@[simp] theorem setAllset_remap : (s.setAllset released seen).remap = s.remap := rfl
@[simp] theorem setAllset_verger : (s.setAllset released seen).verger = s.verger := rfl

end setAllset

section setPulse

variable (s : State) (i : Nat) (r : Pulse)

@[simp] theorem setPulse_pending : (s.setPulse i r).pending = s.pending := rfl
@[simp] theorem setPulse_fuse : (s.setPulse i r).fuse = s.fuse := rfl
@[simp] theorem setPulse_freeCtr : (s.setPulse i r).freeCtr = s.freeCtr := rfl
@[simp] theorem setPulse_dev : (s.setPulse i r).dev = s.dev := rfl
@[simp] theorem setPulse_phase : (s.setPulse i r).phase = s.phase := rfl
@[simp] theorem setPulse_rota : (s.setPulse i r).rota = s.rota := rfl
@[simp] theorem setPulse_exec : (s.setPulse i r).exec = s.exec := rfl
@[simp] theorem setPulse_count : (s.setPulse i r).count = s.count := rfl
@[simp] theorem setPulse_halts : (s.setPulse i r).halts = s.halts := rfl
@[simp] theorem setPulse_uncorrected : (s.setPulse i r).uncorrected = s.uncorrected := rfl
@[simp] theorem setPulse_debug : (s.setPulse i r).debug = s.debug := rfl
@[simp] theorem setPulse_objs : (s.setPulse i r).objs = s.objs := rfl
@[simp] theorem setPulse_mem : (s.setPulse i r).mem = s.mem := rfl
@[simp] theorem setPulse_errs : (s.setPulse i r).errs = s.errs := rfl
@[simp] theorem setPulse_crofts : (s.setPulse i r).crofts = s.crofts := rfl
@[simp] theorem setPulse_cellars : (s.setPulse i r).cellars = s.cellars := rfl
@[simp] theorem setPulse_tests : (s.setPulse i r).tests = s.tests := rfl
@[simp] theorem setPulse_softRepairs : (s.setPulse i r).softRepairs = s.softRepairs := rfl
@[simp] theorem setPulse_croftMap : (s.setPulse i r).croftMap = s.croftMap := rfl
@[simp] theorem setPulse_bell : (s.setPulse i r).bell = s.bell := rfl
@[simp] theorem setPulse_opn : (s.setPulse i r).opn = s.opn := rfl
@[simp] theorem setPulse_answer : (s.setPulse i r).answer = s.answer := rfl
@[simp] theorem setPulse_msixEnable : (s.setPulse i r).msixEnable = s.msixEnable := rfl
@[simp] theorem setPulse_msixFuncMask : (s.setPulse i r).msixFuncMask = s.msixFuncMask := rfl
@[simp] theorem setPulse_msixPending : (s.setPulse i r).msixPending = s.msixPending := rfl
@[simp] theorem setPulse_msixSent : (s.setPulse i r).msixSent = s.msixSent := rfl
@[simp] theorem setPulse_ports : (s.setPulse i r).ports = s.ports := rfl
@[simp] theorem setPulse_replay : (s.setPulse i r).replay = s.replay := rfl
@[simp] theorem setPulse_allset : (s.setPulse i r).allset = s.allset := rfl
@[simp] theorem setPulse_alignSpoiled : (s.setPulse i r).alignSpoiled = s.alignSpoiled := rfl
@[simp] theorem setPulse_hedge : (s.setPulse i r).hedge = s.hedge := rfl
@[simp] theorem setPulse_highest : (s.setPulse i r).highest = s.highest := rfl
@[simp] theorem setPulse_troughs : (s.setPulse i r).troughs = s.troughs := rfl
@[simp] theorem setPulse_snooped : (s.setPulse i r).snooped = s.snooped := rfl
@[simp] theorem setPulse_cores : (s.setPulse i r).cores = s.cores := rfl
@[simp] theorem setPulse_mtime : (s.setPulse i r).mtime = s.mtime := rfl
@[simp] theorem setPulse_tasks : (s.setPulse i r).tasks = s.tasks := rfl
@[simp] theorem setPulse_ready : (s.setPulse i r).ready = s.ready := rfl
@[simp] theorem setPulse_watches : (s.setPulse i r).watches = s.watches := rfl
@[simp] theorem setPulse_taps : (s.setPulse i r).taps = s.taps := rfl
@[simp] theorem setPulse_power : (s.setPulse i r).power = s.power := rfl
@[simp] theorem setPulse_store : (s.setPulse i r).store = s.store := rfl
@[simp] theorem setPulse_load : (s.setPulse i r).load = s.load := rfl
@[simp] theorem setPulse_ring : (s.setPulse i r).ring = s.ring := rfl
@[simp] theorem setPulse_mirror : (s.setPulse i r).mirror = s.mirror := rfl
@[simp] theorem setPulse_pcie : (s.setPulse i r).pcie = s.pcie := rfl
@[simp] theorem setPulse_tap : (s.setPulse i r).tap = s.tap := rfl
@[simp] theorem setPulse_heldWrites : (s.setPulse i r).heldWrites = s.heldWrites := rfl
@[simp] theorem setPulse_remap : (s.setPulse i r).remap = s.remap := rfl
@[simp] theorem setPulse_verger : (s.setPulse i r).verger = s.verger := rfl

end setPulse

section setAnnounce

variable (s : State) (p : Nat) (a : Option (BitVec 80))

@[simp] theorem setAnnounce_pending : (s.setAnnounce p a).pending = s.pending := rfl
@[simp] theorem setAnnounce_fuse : (s.setAnnounce p a).fuse = s.fuse := rfl
@[simp] theorem setAnnounce_freeCtr : (s.setAnnounce p a).freeCtr = s.freeCtr := rfl
@[simp] theorem setAnnounce_dev : (s.setAnnounce p a).dev = s.dev := rfl
@[simp] theorem setAnnounce_phase : (s.setAnnounce p a).phase = s.phase := rfl
@[simp] theorem setAnnounce_rota : (s.setAnnounce p a).rota = s.rota := rfl
@[simp] theorem setAnnounce_exec : (s.setAnnounce p a).exec = s.exec := rfl
@[simp] theorem setAnnounce_count : (s.setAnnounce p a).count = s.count := rfl
@[simp] theorem setAnnounce_halts : (s.setAnnounce p a).halts = s.halts := rfl
@[simp] theorem setAnnounce_uncorrected : (s.setAnnounce p a).uncorrected = s.uncorrected := rfl
@[simp] theorem setAnnounce_debug : (s.setAnnounce p a).debug = s.debug := rfl
@[simp] theorem setAnnounce_objs : (s.setAnnounce p a).objs = s.objs := rfl
@[simp] theorem setAnnounce_mem : (s.setAnnounce p a).mem = s.mem := rfl
@[simp] theorem setAnnounce_errs : (s.setAnnounce p a).errs = s.errs := rfl
@[simp] theorem setAnnounce_crofts : (s.setAnnounce p a).crofts = s.crofts := rfl
@[simp] theorem setAnnounce_cellars : (s.setAnnounce p a).cellars = s.cellars := rfl
@[simp] theorem setAnnounce_tests : (s.setAnnounce p a).tests = s.tests := rfl
@[simp] theorem setAnnounce_softRepairs : (s.setAnnounce p a).softRepairs = s.softRepairs := rfl
@[simp] theorem setAnnounce_croftMap : (s.setAnnounce p a).croftMap = s.croftMap := rfl
@[simp] theorem setAnnounce_bell : (s.setAnnounce p a).bell = s.bell := rfl
@[simp] theorem setAnnounce_opn : (s.setAnnounce p a).opn = s.opn := rfl
@[simp] theorem setAnnounce_answer : (s.setAnnounce p a).answer = s.answer := rfl
@[simp] theorem setAnnounce_msixEnable : (s.setAnnounce p a).msixEnable = s.msixEnable := rfl
@[simp] theorem setAnnounce_msixFuncMask : (s.setAnnounce p a).msixFuncMask = s.msixFuncMask := rfl
@[simp] theorem setAnnounce_msixPending : (s.setAnnounce p a).msixPending = s.msixPending := rfl
@[simp] theorem setAnnounce_msixSent : (s.setAnnounce p a).msixSent = s.msixSent := rfl
@[simp] theorem setAnnounce_ports : (s.setAnnounce p a).ports = s.ports := rfl
@[simp] theorem setAnnounce_replay : (s.setAnnounce p a).replay = s.replay := rfl
@[simp] theorem setAnnounce_allset : (s.setAnnounce p a).allset = s.allset := rfl
@[simp] theorem setAnnounce_alignSpoiled : (s.setAnnounce p a).alignSpoiled = s.alignSpoiled := rfl
@[simp] theorem setAnnounce_hedge : (s.setAnnounce p a).hedge = s.hedge := rfl
@[simp] theorem setAnnounce_highest : (s.setAnnounce p a).highest = s.highest := rfl
@[simp] theorem setAnnounce_troughs : (s.setAnnounce p a).troughs = s.troughs := rfl
@[simp] theorem setAnnounce_snooped : (s.setAnnounce p a).snooped = s.snooped := rfl
@[simp] theorem setAnnounce_cores : (s.setAnnounce p a).cores = s.cores := rfl
@[simp] theorem setAnnounce_mtime : (s.setAnnounce p a).mtime = s.mtime := rfl
@[simp] theorem setAnnounce_tasks : (s.setAnnounce p a).tasks = s.tasks := rfl
@[simp] theorem setAnnounce_ready : (s.setAnnounce p a).ready = s.ready := rfl
@[simp] theorem setAnnounce_watches : (s.setAnnounce p a).watches = s.watches := rfl
@[simp] theorem setAnnounce_taps : (s.setAnnounce p a).taps = s.taps := rfl
@[simp] theorem setAnnounce_power : (s.setAnnounce p a).power = s.power := rfl
@[simp] theorem setAnnounce_store : (s.setAnnounce p a).store = s.store := rfl
@[simp] theorem setAnnounce_load : (s.setAnnounce p a).load = s.load := rfl
@[simp] theorem setAnnounce_ring : (s.setAnnounce p a).ring = s.ring := rfl
@[simp] theorem setAnnounce_mirror : (s.setAnnounce p a).mirror = s.mirror := rfl
@[simp] theorem setAnnounce_pcie : (s.setAnnounce p a).pcie = s.pcie := rfl
@[simp] theorem setAnnounce_tap : (s.setAnnounce p a).tap = s.tap := rfl
@[simp] theorem setAnnounce_heldWrites : (s.setAnnounce p a).heldWrites = s.heldWrites := rfl
@[simp] theorem setAnnounce_remap : (s.setAnnounce p a).remap = s.remap := rfl
@[simp] theorem setAnnounce_verger : (s.setAnnounce p a).verger = s.verger := rfl

end setAnnounce

end Sys2Proof.Machine
end

