-- ==== Sys2Proof/Laws/Access.lean ====
section
/-!
SUPPORT. What an access of an initiator can do, said once: its translator answers it, it waits, an edge router answers
it, or it is sent with a response buffer and its target answers it.
-/

namespace Sys2Proof.Machine

open Sys2Proof

/-! ## The initiator (R13, R176, R177, R186) -/

/-- A number with no entry at the targets makes no request (R177). -/
theorem requestIn_foreign {s : State} {init : Nat} (h : packetInit init = false) (cls : Nat) (user : Bool)
    (place : Option Place) (acc : PAccess) : s.requestIn init cls user place acc = s.discardCode := by
  simp [State.requestIn, h]

/-- An address in no region is answered ERROR_DECODE by the translator (R13, R171). -/
theorem requestIn_nowhere {s : State} {init : Nat} (h : packetInit init = true) (cls : Nat) (user : Bool)
    (acc : PAccess) : s.requestIn init cls user none acc = s.arrive (requester init cls user acc) opDecode [] := by
  simp [State.requestIn, h]

/-- So is an access that its region does not list (R13). -/
theorem requestIn_unlisted {s : State} {init : Nat} {p : Place} {acc : PAccess} (h : packetInit init = true)
    (hl : s.listed acc.size p = false) (cls : Nat) (user : Bool) :
    s.requestIn init cls user (some p) acc = s.arrive (requester init cls user acc) opDecode [] := by
  simp [State.requestIn, h, hl]

/-- A listed access seeks a response buffer at its target. -/
theorem requestIn_listed {s : State} {init : Nat} {p : Place} {acc : PAccess} (h : packetInit init = true)
    (hl : s.listed acc.size p = true) (cls : Nat) (user : Bool) :
    s.requestIn init cls user (some p) acc =
      s.seek ⟨{ requester init cls user acc with home := p.target + 1, lane := p.offset % 8 }, p, acc⟩ := by
  simp [State.requestIn, h, hl]

/-- An initiator with a buffer that no request uses sends its access (R176). -/
theorem seek_buffer {s : State} {p : Parked} (hc : s.classHeld p.asker.cls = false)
    (hw : s.waitsFor p.place.target p.asker.init = false)
    (hb : s.hasBuffer p.place.target p.asker.init = true) :
    s.seek p = (s.useBuffer p.place.target p.asker.init).send p := by
  simp [State.seek, hc, hw, hb]

/-- One without a buffer is told by the edge router that its target is shuttered (R186). -/
theorem seek_shut {s : State} {p : Parked} (hc : s.classHeld p.asker.cls = false)
    (hw : s.waitsFor p.place.target p.asker.init = false)
    (hb : s.hasBuffer p.place.target p.asker.init = false)
    (hs : (s.targetShut p.place.target || s.pathShut p.asker.init p.place.target) = true) :
    s.seek p = s.refuseRsv p.asker := by
  simp only [State.seek, hc, hw, hb, hs, Bool.or_self, Bool.false_eq_true, ite_true, ite_false]

/-- A B access waits while no B packet is injected (R188), and any access behind one that waits. -/
theorem seek_held {s : State} {p : Parked}
    (h : (s.classHeld p.asker.cls || s.waitsFor p.place.target p.asker.init) = true) : s.seek p = s.park p := by
  simp only [State.seek, h, ite_true]

/-- The state in which an access of `init` in class `cls` to target `t` is sent, where it has a buffer (R176): its own,
or one that its RSV is granted at once. -/
def State.buffered (s : State) (t init cls : Nat) : State :=
  if s.hasBuffer t init then s.useBuffer t init
  else
    let s1 := s.askBuffers t init cls 1 (s.freshTag init) false
    ((s1.setRsv t init (((s1.granted? t init)).getD (s1.rsv t init))).sampleWait init true).useBuffer t init

/-- Where nothing keeps an access from its target it is sent. -/
theorem seek_way {s : State} {p : Parked} (h : s.wayTo p.asker.init p.asker.cls p.place.target = true) :
    s.seek p = (s.buffered p.place.target p.asker.init p.asker.cls).send p := by
  simp only [State.wayTo, Bool.and_eq_true, Bool.not_eq_true'] at h
  obtain ⟨⟨⟨⟨⟨⟨⟨_, _⟩, hc⟩, hw⟩, hb⟩, ht⟩, hp⟩, _⟩ := h
  by_cases hh : s.hasBuffer p.place.target p.asker.init = true
  · rw [seek_buffer hc hw hh, State.buffered, if_pos hh]
  · simp only [State.bufferAt, hh, Bool.false_or, Bool.and_eq_true, beq_iff_eq, decide_eq_true_eq] at hb
    obtain ⟨⟨hz, hf⟩, hg⟩ := hb
    obtain ⟨g, hg⟩ := Option.isSome_iff_exists.mp hg
    have hn : ¬(s.rsv p.place.target p.asker.init).want ≠ 0 := fun hne => hne hz
    have h4 : ¬4 ≤ (s.rsv p.place.target p.asker.init).heldM + (s.rsv p.place.target p.asker.init).heldTB :=
      Nat.not_le.mpr hf
    simp only [State.seek, hc, hw, hh, ht, hp, hg, hn, h4, State.buffered, Option.getD_some, Bool.or_self,
      Bool.false_eq_true, or_self, ite_false]

/-- An access of which nothing keeps the request is sent. -/
theorem requestIn_way {s : State} {init cls : Nat} {p : Place} {acc : PAccess}
    (h : s.wayTo init cls p.target = true) (hl : s.listed acc.size p = true) (user : Bool) :
    s.requestIn init cls user (some p) acc =
      (s.buffered p.target init cls).send ⟨{ requester init cls user acc with home := p.target + 1, lane := p.offset % 8 }, p, acc⟩ := by
  have hi : packetInit init = true := by
    simp only [State.wayTo, Bool.and_eq_true] at h
    exact h.1.1.1.1.1.1.1
  rw [requestIn_listed hi hl]
  exact seek_way (p := ⟨{ requester init cls user acc with home := p.target + 1, lane := p.offset % 8 }, p, acc⟩) h

/-! ## The target (R171, R186) -/

/-- A target without power answers so. -/
theorem reach_dark {s : State} {p : Place} (h : s.gate p ≠ 0) (who : Asker) (acc : PAccess) :
    s.reach who acc p = s.reply who (s.gate p) [] := by
  simp [State.reach, h]

/-- A target with power takes the access. -/
theorem reach_served {s : State} {p : Place} (h : s.gate p = 0) (who : Asker) (acc : PAccess) :
    s.reach who acc p = s.serve who acc p := by
  simp [State.reach, h]

/-- An access of a size or alignment that R169 does not give is answered ERROR_DECODE. -/
theorem serve_misfit {s : State} {p : Place} {acc : PAccess} (h : packetSize p.offset acc.size = false)
    (who : Asker) : s.serve who acc p = s.reply who opDecode [] := by
  simp [State.serve, h]

/-- An answer whose transaction is open, and whose flits arrive as they were sent, ends it at its initiator (R171, R172),
but for that of a hedgerow initiator's packet, which comes with PACKET_DONE (R298). -/
theorem reply_arrives {s : State} {who : Asker} {o : Trans} (op : Nat) (data : List Byte) (hv : who.via = none)
    (ho : ((if op = opShuttered then s.bump 0x4800 5 else s).freeBuffer who).opn.trans.find?
      (fun x => x.init == who.init && x.tag == who.tag) = some o)
    (hf : who.fate.flips.all (fun e => e == 0) = true) (hs : o.spoiled = false) (hu : ¬(o.user = true ∧ who.init < 1088)) :
    s.reply who op data = (((if op = opShuttered then s.bump 0x4800 5 else s).freeBuffer who).endTrans
      who.init who.tag).arrive { who with user := o.user } op data := by
  simp only [State.reply, hv, ho, hf, hs, hu, State.answerComes, Bool.false_eq_true, ite_false, ite_true]

/-- The answer of a hedgerow initiator's packet is on its way (R298). -/
theorem reply_waits {s : State} {who : Asker} {o : Trans} (op : Nat) (data : List Byte) (hv : who.via = none)
    (ho : ((if op = opShuttered then s.bump 0x4800 5 else s).freeBuffer who).opn.trans.find?
      (fun x => x.init == who.init && x.tag == who.tag) = some o)
    (hs : o.spoiled = false) (hu : o.user = true ∧ who.init < 1088) :
    s.reply who op data = ((if op = opShuttered then s.bump 0x4800 5 else s).freeBuffer who).answerWaits
      { who with user := o.user } op data := by
  simp only [State.reply, hv, ho, hs, hu, and_self, Bool.false_eq_true, ite_false, ite_true]

/-- An answer to a request that came through the networks goes back through them, from the node of its target. -/
theorem reply_network {s : State} {who : Asker} {node : Nat} (op : Nat) (data : List Byte) (hv : who.via = some node) :
    s.reply who op data = (answerFlits node who op data).foldl (fun st x => st.enterNet node x.1 x.2 false)
      ((if op = opShuttered then s.bump 0x4800 5 else s).freeBuffer who) := by
  simp only [State.reply, hv]

/-- An answer for a tag that has ended frees its buffer and is discarded (R175). -/
theorem reply_late {s : State} {who : Asker} (op : Nat) (data : List Byte) (hv : who.via = none)
    (ho : ((if op = opShuttered then s.bump 0x4800 5 else s).freeBuffer who).opn.trans.find?
      (fun x => x.init == who.init && x.tag == who.tag) = none) :
    s.reply who op data = (if op = opShuttered then s.bump 0x4800 5 else s).freeBuffer who := by
  simp only [State.reply, hv, ho]

end Sys2Proof.Machine
end

