-- ==== Sys2Proof/Laws/Flit.lean ====
section
/-!
SUPPORT. The flits of an answer give back what they were formed from: the fields of a response flit, and the read data of
the beats of a read (R170, R171, R174).
-/

namespace Sys2Proof.Machine

open Sys2Proof

/-! ## Bit fields -/

theorem testBit_bits (n lo w i : Nat) : (bits n lo w).testBit i = (decide (i < w) && n.testBit (lo + i)) := by
  simp [bits, Nat.testBit_mod_two_pow, Nat.testBit_shiftRight]

theorem testBit_putBits (n lo w v i : Nat) :
    (putBits n lo w v).testBit i = if lo ≤ i ∧ i < lo + w then v.testBit (i - lo) else n.testBit i := by
  have e : putBits n lo w v = 2 ^ lo * (2 ^ w * (n / 2 ^ (lo + w)) + v % 2 ^ w) + n % 2 ^ lo := by
    simp only [putBits, Nat.shiftRight_eq_div_pow, Nat.shiftLeft_eq]
    ring
  rw [e, Nat.testBit_two_pow_mul_add _ (Nat.mod_lt _ (Nat.two_pow_pos _)),
    Nat.testBit_two_pow_mul_add _ (Nat.mod_lt _ (Nat.two_pow_pos _)), Nat.testBit_mod_two_pow, Nat.testBit_mod_two_pow,
    Nat.testBit_div_two_pow]
  by_cases h1 : i < lo
  · simp [h1, show ¬(lo ≤ i ∧ i < lo + w) by omega]
  · by_cases h2 : i - lo < w
    · simp [h1, h2, show lo ≤ i ∧ i < lo + w by omega]
    · simp [h1, h2, show ¬(lo ≤ i ∧ i < lo + w) by omega, show i - lo - w + (lo + w) = i by omega]

theorem bits_putBits_byte (n a v j : Nat) :
    bits (putBits n (8 * a) 8 v) (8 * j) 8 = if a = j then v % 256 else bits n (8 * j) 8 := by
  apply Nat.eq_of_testBit_eq
  intro i
  by_cases h : a = j
  · subst h
    have : v % 256 = v % 2 ^ 8 := rfl
    simp only [testBit_bits, testBit_putBits, if_true, this, Nat.testBit_mod_two_pow]
    by_cases hi : i < 8
    · simp [hi]
    · simp [hi]
  · simp only [testBit_bits, testBit_putBits, h, if_false]
    by_cases hi : i < 8
    · simp [hi, show ¬(8 * a ≤ 8 * j + i ∧ 8 * j + i < 8 * a + 8) by omega]
    · simp [hi]

/-! ## Lists of numbers -/

theorem mem_upFrom {n : Nat} : ∀ {lo i : Nat}, i ∈ upFrom lo n ↔ lo ≤ i ∧ i < lo + n := by
  induction n with
  | zero => intro lo i; simp [upFrom]
  | succ n ih => intro lo i; simp only [upFrom, List.mem_cons, ih]; omega

theorem upFrom_append (lo m n : Nat) : upFrom lo (m + n) = upFrom lo m ++ upFrom (lo + m) n := by
  induction m generalizing lo with
  | zero => simp [upFrom]
  | succ m ih =>
    rw [show m + 1 + n = (m + n) + 1 by omega]
    simp only [upFrom, ih, List.cons_append]
    rw [show lo + 1 + m = lo + (m + 1) by omega]

theorem upFrom_add (lo n : Nat) : upFrom lo n = (upFrom 0 n).map (lo + ·) := by
  induction n generalizing lo with
  | zero => rfl
  | succ n ih =>
    rw [upFrom, upFrom, List.map_cons, ih (lo + 1), ih (0 + 1), List.map_map]
    congr 1
    apply List.map_congr_left
    intro a _
    simp only [Function.comp]
    omega

theorem nodup_upFrom (lo n : Nat) : (upFrom lo n).Nodup := by
  induction n generalizing lo with
  | zero => simp [upFrom]
  | succ n ih =>
    rw [upFrom, List.nodup_cons]
    exact ⟨by simp [mem_upFrom], ih _⟩

/-- The blocks of eight of a range, filtered and mapped, are the range filtered and mapped. -/
theorem flatMap_octets {α : Type} (p : Nat → Bool) (h : Nat → α) (m : Nat) :
    (upFrom 0 m).flatMap (fun k => ((upFrom 0 8).filter (fun j => p (8 * k + j))).map (fun j => h (8 * k + j))) =
      ((upFrom 0 (8 * m)).filter p).map h := by
  induction m with
  | zero => rfl
  | succ m ih =>
    rw [upFrom_append 0 m 1, List.flatMap_append, ih, show 8 * (m + 1) = 8 * m + 8 by omega, upFrom_append 0 (8 * m) 8,
      List.filter_append, List.map_append, upFrom_add (0 + 8 * m) 8, List.filter_map, List.map_map]
    simp [upFrom, Function.comp_def]

theorem map_getAt {α : Type} (d : α) (l : List α) : (upFrom 0 l.length).map (fun i => getAt d l i) = l := by
  induction l with
  | nil => rfl
  | cons a t ih =>
    rw [List.length_cons, upFrom, List.map_cons, upFrom_add (0 + 1), List.map_map]
    congr 1
    simpa [Function.comp_def, Nat.add_comm, getAt] using ih

/-- The places of a range at which a list stands, each with its element. -/
theorem filter_window {α : Type} (d : α) (xs : List α) (l m : Nat) (h : l + xs.length ≤ m) :
    ((upFrom 0 m).filter (fun i => decide (l ≤ i ∧ i < l + xs.length))).map (fun i => getAt d xs (i - l)) = xs := by
  rw [show m = l + (xs.length + (m - l - xs.length)) by omega, upFrom_append, upFrom_append, List.filter_append,
    List.filter_append]
  have a : (upFrom 0 l).filter (fun i => decide (l ≤ i ∧ i < l + xs.length)) = [] := by
    rw [List.filter_eq_nil_iff]
    intro i hi
    have := mem_upFrom.mp hi
    simp
    omega
  have b : (upFrom (0 + l + xs.length) (m - l - xs.length)).filter (fun i => decide (l ≤ i ∧ i < l + xs.length)) = [] := by
    rw [List.filter_eq_nil_iff]
    intro i hi
    have := mem_upFrom.mp hi
    simp
    omega
  have c : (upFrom (0 + l) xs.length).filter (fun i => decide (l ≤ i ∧ i < l + xs.length)) = upFrom (0 + l) xs.length := by
    rw [List.filter_eq_self]
    intro i hi
    have := mem_upFrom.mp hi
    simp
    omega
  rw [a, b, c, List.nil_append, List.append_nil, upFrom_add, List.map_map]
  simp only [Function.comp_def, Nat.zero_add, Nat.add_sub_cancel_left]
  exact map_getAt d xs

/-! ## The beats of a read (R170, R174) -/

/-- The byte-enable bits that lanes set. -/
theorem testBit_lanes (p : Nat → Bool) (g : Nat → Nat) (j : Nat) (js : List Nat) : ∀ m0 : Nat,
    ((js.filterMap (fun j => if p j then some (j, g j) else none)).foldl (fun m x => putBits m x.1 1 1) m0).testBit j =
      ((decide (j ∈ js) && p j) || m0.testBit j) := by
  induction js with
  | nil => simp
  | cons a t ih =>
    intro m0
    by_cases hp : p a = true
    · rw [List.filterMap_cons_some (b := (a, g a)) (by simp [hp]), List.foldl_cons, ih, testBit_putBits]
      by_cases ha : j = a
      · subst ha; simp [hp]
      · rw [if_neg (by omega)]
        simp [ha]
    · rw [List.filterMap_cons_none (by simp [hp]), ih]
      by_cases ha : j = a
      · subst ha; simp [hp]
      · simp [ha]

/-- The bytes that lanes carry. -/
theorem bits_lanes (p : Nat → Bool) (g f : Nat → Nat) (j : Nat) (js : List Nat) (hn : js.Nodup) : ∀ v0 : Nat,
    bits ((js.filterMap (fun j => if p j then some (j, g j) else none)).foldl
      (fun v x => putBits v (8 * x.1) 8 (f x.2)) v0) (8 * j) 8 =
      if j ∈ js ∧ p j = true then f (g j) % 256 else bits v0 (8 * j) 8 := by
  induction js with
  | nil => simp
  | cons a t ih =>
    intro v0
    have hn' := List.nodup_cons.mp hn
    by_cases hp : p a = true
    · rw [List.filterMap_cons_some (b := (a, g a)) (by simp [hp]), List.foldl_cons, ih hn'.2, bits_putBits_byte]
      by_cases ha : a = j
      · subst ha; simp [hn'.1, hp]
      · simp [ha, Ne.symm ha, List.mem_cons]
    · rw [List.filterMap_cons_none (by simp [hp]), ih hn'.2]
      by_cases ha : a = j
      · subst ha; simp [hn'.1, hp]
      · simp [Ne.symm ha, List.mem_cons]

/-- Beat `k` of the read data `data` for a requester. -/
def readBeat (who : Asker) (data : List Byte) (k : Nat) : DataFlit :=
  let ls := beatLanes who.lane data.length k
  sealData ⟨0, clsField who.cls, 1, BitVec.ofNat 11 (initNode who.init), BitVec.ofNat 11 who.init,
    BitVec.ofNat 8 who.tag, BitVec.ofNat 3 k, k == beatCount who.lane data.length - 1,
    BitVec.ofNat 8 (ls.foldl (fun m x => putBits m x.1 1 1) 0),
    BitVec.ofNat 64 (ls.foldl (fun v x => putBits v (8 * x.1) 8 (getAt 0 data x.2).toNat) 0)⟩

theorem readBeats_eq (who : Asker) (data : List Byte) :
    readBeats who data = (upFrom 0 (beatCount who.lane data.length - 1 + 1)).map (readBeat who data) := rfl

/-- A beat gives back its bytes of the data. -/
theorem beatBytes_readBeat (who : Asker) (data : List Byte) (k : Nat) :
    beatBytes (readBeat who data k) =
      ((upFrom 0 8).filter (fun j => decide (who.lane ≤ 8 * k + j ∧ 8 * k + j < who.lane + data.length))).map
        (fun j => getAt 0 data (8 * k + j - who.lane)) := by
  have lanes : beatLanes who.lane data.length k = (upFrom 0 8).filterMap (fun j =>
      if decide (who.lane ≤ 8 * k + j ∧ 8 * k + j < who.lane + data.length) then some (j, 8 * k + j - who.lane)
      else none) := by
    simp only [beatLanes, decide_eq_true_eq]
  have be : ∀ j, j < 8 → (readBeat who data k).be.getLsbD j =
      decide (who.lane ≤ 8 * k + j ∧ 8 * k + j < who.lane + data.length) := by
    intro j hj
    simp only [readBeat, sealData, lanes, BitVec.getLsbD_ofNat, testBit_lanes]
    simp [hj, mem_upFrom]
  unfold beatBytes
  rw [List.filter_congr (fun j hj => be j (by have := mem_upFrom.mp hj; omega))]
  apply List.map_congr_left
  intro j hj
  obtain ⟨hj8, hp⟩ := List.mem_filter.mp hj
  have hj' : j < 8 := by have := mem_upFrom.mp hj8; omega
  have cut : ∀ v : Nat, bits (BitVec.ofNat 64 v).toNat (8 * j) 8 = bits v (8 * j) 8 := by
    intro v
    apply Nat.eq_of_testBit_eq
    intro i
    simp only [testBit_bits, BitVec.toNat_ofNat, Nat.testBit_mod_two_pow]
    by_cases hi : i < 8
    · simp [hi, show 8 * j + i < 64 by omega]
    · simp [hi]
  simp only [readBeat, sealData, lanes, cut]
  rw [bits_lanes _ _ (fun i => (getAt 0 data i).toNat) j _ (nodup_upFrom 0 8), if_pos ⟨hj8, hp⟩]
  apply BitVec.eq_of_toNat_eq
  have := (getAt 0 data (8 * k + j - who.lane)).isLt
  simp only [BitVec.toNat_ofNat]
  omega

/-- An initiator gets from the beats of a read the data that they were formed from (R170, R174). -/
theorem assemble_readBeats (who : Asker) (data : List Byte) (hl : who.lane < 8) (h1 : 1 ≤ data.length)
    (h64 : who.lane + data.length ≤ 64) : assemble (readBeats who data) = some data := by
  set m := beatCount who.lane data.length - 1 with hm
  have hc : beatCount who.lane data.length = m + 1 := by rw [hm]; unfold beatCount; omega
  have hm8 : m < 8 := by rw [hm]; unfold beatCount; omega
  have cover : who.lane + data.length ≤ 8 * (m + 1) := by
    rw [← hc]; unfold beatCount; rw [Nat.mod_eq_of_lt hl]; omega
  have beat : ∀ k, (readBeat who data k).beat = BitVec.ofNat 3 k := fun _ => rfl
  have last : ∀ k, (readBeat who data k).last = (k == m) := fun _ => rfl
  have pick : ∀ (q : DataFlit → Bool) (k : Nat), k ≤ m → q (readBeat who data k) = true →
      (∀ i, i ≤ m → q (readBeat who data i) = true → i = k) →
      (readBeats who data).find? q = some (readBeat who data k) := by
    intro q k hk hq hu
    rw [readBeats_eq, ← hm]
    cases hf : ((upFrom 0 (m + 1)).map (readBeat who data)).find? q with
    | none =>
      have := List.find?_eq_none.mp hf (readBeat who data k)
        (List.mem_map_of_mem (mem_upFrom.mpr ⟨Nat.zero_le _, by omega⟩))
      exact absurd hq this
    | some x =>
      obtain ⟨i, hi, rfl⟩ := List.mem_map.mp (List.mem_of_find?_eq_some hf)
      have := mem_upFrom.mp hi
      rw [hu i (by omega) (List.find?_some hf)]
  have hlast := pick (fun b => b.last) m le_rfl (by simp [last]) (by intro i _ h; simpa [last] using h)
  have hbeat : ∀ k, k ≤ m → (readBeats who data).find? (fun b => b.beat.toNat == k) = some (readBeat who data k) := by
    intro k hk
    apply pick _ k hk
    · simp [beat]; omega
    · intro i hi h
      simp [beat] at h
      omega
  have got : (upFrom 0 (m + 1)).map (fun k => (readBeats who data).find? (fun b => b.beat.toNat == k)) =
      (upFrom 0 (m + 1)).map (fun k => some (readBeat who data k)) := by
    apply List.map_congr_left
    intro k hk
    exact hbeat k (by have := mem_upFrom.mp hk; omega)
  have bm : (readBeat who data m).beat.toNat = m := by simp [beat]; omega
  unfold assemble
  rw [hlast]
  simp only [bm, got]
  rw [if_pos (by simp), List.flatMap_map]
  simp only [Option.map_some, Option.getD_some, beatBytes_readBeat]
  rw [flatMap_octets (fun i => decide (who.lane ≤ i ∧ i < who.lane + data.length)) (fun i => getAt 0 data (i - who.lane)),
    filter_window 0 data who.lane _ cover]

/-! ## Response flits (R171) -/

/-- A response flit's word gives back its fields (R171). -/
theorem respOf_respWord (f : RespFlit) : respOf ((respWord f).setWidth 144) = f := by
  cases f
  simp only [respOf, respWord, RespFlit.mk.injEq]
  refine ⟨?_, ?_, ?_, ?_, ?_, ?_, ?_⟩ <;>
  · apply BitVec.eq_of_getLsbD_eq
    intro i hi
    simp only [BitVec.getLsbD_extractLsb', BitVec.getLsbD_setWidth, BitVec.getLsbD_append]
    interval_cases i <;> simp

/-- So does that of an answer. -/
theorem respOf_answerFlit (src : Nat) (who : Asker) (op arg : Nat) :
    respOf ((respWord (answerFlit src who op arg)).setWidth 144) = answerFlit src who op arg :=
  respOf_respWord _

end Sys2Proof.Machine
end

