-- ==== Sys2Proof/Laws/Memory.lean ====
section
/-!
SUPPORT. The laws of the device address space: what a write of bytes leaves as it was, and that every memory
operation keeps the canonical form.
-/

namespace Sys2Proof.Machine

open Sys2Proof

theorem memWf_setByte {s : State} (a : Nat) (b : Byte) (h : s.memWf = true) : (s.setByte a b).memWf = true :=
  Tbl.wf_set a b h

theorem memWf_setBytes : ∀ (bs : List Byte) {s : State} (a : Nat), s.memWf = true → (s.setBytes a bs).memWf = true
  | [], _, _, h => h
  | b :: t, _, a, h => memWf_setBytes t (a + 1) (memWf_setByte a b h)

theorem memWf_setLe {s : State} (a n v : Nat) (h : s.memWf = true) : (s.setLe a n v).memWf = true :=
  memWf_setBytes _ a h

theorem memWf_setErr {s : State} (w : Nat) (e : BitVec 72) (h : s.memWf = true) : (s.setErr w e).memWf = true := h

theorem memWf_writeWord {s : State} (w v : Nat) (h : s.memWf = true) : (s.writeWord w v).memWf = true :=
  memWf_setLe _ _ _ h

theorem memWf_zeroRange {s : State} (lo hi : Nat) (h : s.memWf = true) : (s.zeroRange lo hi).memWf = true :=
  Tbl.wf_filter _ h

theorem memWf_setObj {s : State} (i sub v : Nat) (h : s.memWf = true) : (s.setObj i sub v).memWf = true := h

theorem memWf_putEnabledBytes : ∀ (d : List (Byte × Bool)) {s : State} (a : Nat), s.memWf = true →
    (s.putEnabledBytes a d).memWf = true
  | [], _, _, h => h
  | (b, e) :: t, s, a, h => by
    unfold State.putEnabledBytes
    split
    · exact memWf_putEnabledBytes t (a + 1) (memWf_setByte a b h)
    · exact memWf_putEnabledBytes t (a + 1) h

/-- A write of bytes leaves every byte outside them as it was. -/
theorem byte_setBytes_other : ∀ (bs : List Byte) (s : State) (a c : Nat), c < a ∨ a + bs.length ≤ c →
    (s.setBytes a bs).byte c = s.byte c
  | [], _, _, _, _ => rfl
  | b :: t, s, a, c, h => by
    simp only [List.length_cons] at h
    simp only [State.setBytes]
    rw [byte_setBytes_other t (s.setByte a b) (a + 1) c (by omega), byte_setByte_other s b (by omega)]

/-- What was written reads back, byte by byte. -/
theorem byte_setBytes_get (bs : List Byte) : ∀ (s : State) (a i : Nat), i < bs.length →
    (s.setBytes a bs).byte (a + i) = bs.getD i 0 := by
  induction bs with
  | nil =>
    intro s a i h
    simp at h
  | cons b t ih =>
    intro s a i h
    simp only [State.setBytes]
    cases i with
    | zero =>
      rw [Nat.add_zero a, byte_setBytes_other t (s.setByte a b) (a + 1) a (by omega), byte_setByte_same,
        List.getD_cons_zero]
    | succ n =>
      rw [show a + (n + 1) = a + 1 + n by omega, List.getD_cons_succ]
      exact ih (s.setByte a b) (a + 1) n (by simpa using h)

end Sys2Proof.Machine
end

