-- ==== Sys2Proof/Laws/PerInstr.lean ====
section
/-!
SUPPORT. Family NoWord: spec/opcode_table.json gives no row bits, so no word of any width spells a command
(assumption log 1); one lemma per constructor.
-/

namespace Sys2Proof.Laws.NoWord

open Sys2Proof

/-- No word spells the command. -/
def Statement (i : Instr) : Prop := ∀ nbits w : Nat, decodeTableWord nbits w ≠ some i

theorem stroke (errs : StrokeIn) : Statement (.stroke errs) :=
  by simp [Statement, decodeTableWord]
theorem rotaBoundary : Statement .rotaBoundary := by simp [Statement, decodeTableWord]
theorem fallowEnd : Statement .fallowEnd := by simp [Statement, decodeTableWord]
theorem bellLocalMessage : Statement .bellLocalMessage := by simp [Statement, decodeTableWord]
theorem bellMessageReceive (p : Port) (second : Bool) :
    Statement (.bellMessageReceive p second) := by simp [Statement, decodeTableWord]
theorem bellUpSend : Statement .bellUpSend := by simp [Statement, decodeTableWord]
theorem bellRootForm : Statement .bellRootForm := by simp [Statement, decodeTableWord]
theorem verdictCopySend (p : Port) (second : Bool) :
    Statement (.verdictCopySend p second) := by simp [Statement, decodeTableWord]
theorem bellLost : Statement .bellLost := by simp [Statement, decodeTableWord]
theorem verdictRepair (via : Via) (byte : BitVec 8) :
    Statement (.verdictRepair via byte) := by simp [Statement, decodeTableWord]
theorem stopCommand (via : Via) : Statement (.stopCommand via) := by simp [Statement, decodeTableWord]
theorem pauseCommand (via : Via) : Statement (.pauseCommand via) := by simp [Statement, decodeTableWord]
theorem alignmentArm (via : Via) : Statement (.alignmentArm via) := by simp [Statement, decodeTableWord]
theorem alignmentCancel (via : Via) : Statement (.alignmentCancel via) := by simp [Statement, decodeTableWord]
theorem alignmentStep : Statement .alignmentStep := by simp [Statement, decodeTableWord]
theorem startArm (via : Via) : Statement (.startArm via) := by simp [Statement, decodeTableWord]
theorem startCancel (via : Via) : Statement (.startCancel via) := by simp [Statement, decodeTableWord]
theorem startSample : Statement .startSample := by simp [Statement, decodeTableWord]
theorem startRun : Statement .startRun := by simp [Statement, decodeTableWord]
theorem sheetRaise (via : Via) (h : Hamlet) (c : Croft) :
    Statement (.sheetRaise via h c) := by simp [Statement, decodeTableWord]
theorem sheetLower (via : Via) (h : Hamlet) (c : Croft) :
    Statement (.sheetLower via h c) := by simp [Statement, decodeTableWord]
theorem croftWindowWrite (init : Initiator) (h : Hamlet) (c : Croft) (off : Nat) (data : List Byte) :
    Statement (.croftWindowWrite init h c off data) := by simp [Statement, decodeTableWord]
theorem nonBpLarderAccess (init : Initiator) (h : Hamlet) (c : Croft) (off : Nat) (acc : Access) :
    Statement (.nonBpLarderAccess init h c off acc) := by simp [Statement, decodeTableWord]
theorem bankBusyTimeout (h : Hamlet) (c : Croft) (bank : Fin 4) :
    Statement (.bankBusyTimeout h c bank) := by simp [Statement, decodeTableWord]
theorem bankWake (h : Hamlet) (c : Croft) (bank : Fin 4) :
    Statement (.bankWake h c bank) := by simp [Statement, decodeTableWord]
theorem bankRetainTimeout (h : Hamlet) (c : Croft) (bank : Fin 4) :
    Statement (.bankRetainTimeout h c bank) := by simp [Statement, decodeTableWord]
theorem applyRepairRecord (via : Via) (rec : BitVec 64) :
    Statement (.applyRepairRecord via rec) := by simp [Statement, decodeTableWord]
theorem larderTestStart (via : Via) (h : Hamlet) :
    Statement (.larderTestStart via h) := by simp [Statement, decodeTableWord]
theorem larderTestStop (via : Via) (h : Hamlet) :
    Statement (.larderTestStop via h) := by simp [Statement, decodeTableWord]
theorem testBlockYield (u : TestUnit) : Statement (.testBlockYield u) := by simp [Statement, decodeTableWord]
theorem testBlockResume (u : TestUnit) :
    Statement (.testBlockResume u) := by simp [Statement, decodeTableWord]
theorem larderScrubVisit (h : Hamlet) (c : Croft) (word : Fin 32768) :
    Statement (.larderScrubVisit h c word) := by simp [Statement, decodeTableWord]
theorem cellarRequest (n : Cellar) (binding : Fin 4096) (phyBad : Bool) :
    Statement (.cellarRequest n binding phyBad) := by simp [Statement, decodeTableWord]
theorem cellarReturn (n : Cellar) (binding : Fin 4096) :
    Statement (.cellarReturn n binding) := by simp [Statement, decodeTableWord]
theorem cellarTemperatureRead (n : Cellar) (temp : Int) :
    Statement (.cellarTemperatureRead n temp) := by simp [Statement, decodeTableWord]
theorem refreshFallowRequest (n : Cellar) :
    Statement (.refreshFallowRequest n) := by simp [Statement, decodeTableWord]
theorem forcedRefresh (n : Cellar) : Statement (.forcedRefresh n) := by simp [Statement, decodeTableWord]
theorem cellarPatrolScrub (n : Cellar) (word : Fin 3221225472) :
    Statement (.cellarPatrolScrub n word) := by simp [Statement, decodeTableWord]
theorem cellarReady (n : Cellar) : Statement (.cellarReady n) := by simp [Statement, decodeTableWord]
theorem rsv (tgt : Target) (src : BitVec 11) (tag : BitVec 8) (ask : ReqAsk) : Statement (.rsv tgt src tag ask) := by
  simp [Statement, decodeTableWord]
theorem grant (tgt : Target) (init : Initiator) (wait : GrantWay) :
    Statement (.grant tgt init wait) := by simp [Statement, decodeTableWord]
theorem release (tgt : Target) (who : BitVec 11 × BitVec 8) (ask : ReqAsk) : Statement (.release tgt who ask) := by
  simp [Statement, decodeTableWord]
theorem packetRead (src : BitVec 11) (tag : BitVec 8) (dest : BitVec 11) (ask : ReqAsk) (lat : Nat) (fate : Fate) :
    Statement (.packetRead src tag dest ask lat fate) :=
  by simp [Statement, decodeTableWord]
theorem packetWrite (src : BitVec 11) (tag : BitVec 8) (dest : BitVec 11) (flits : List WriteFlit) (lat : Nat)
    (fate : Fate) : Statement (.packetWrite src tag dest flits lat fate) :=
  by simp [Statement, decodeTableWord]
theorem packetCheckError (h : Hamlet) (net : PacketNet) (tgt : Target) (init : Initiator) (tag : BitVec 8) :
    Statement (.packetCheckError h net tgt init tag) := by simp [Statement, decodeTableWord]
theorem transactionTimeout (init : Initiator) (tag : BitVec 8) :
    Statement (.transactionTimeout init tag) := by simp [Statement, decodeTableWord]
theorem unmatchedWriteTimeout (tgt : Target) (init : Initiator) :
    Statement (.unmatchedWriteTimeout tgt init) := by simp [Statement, decodeTableWord]
theorem invalidate (op : BitVec 3) (core : BitVec 4) (line : SnoopLine) : Statement (.invalidate op core line) := by
  simp [Statement, decodeTableWord]
theorem invAck (op : BitVec 3) (core : BitVec 4) (line : SnoopLine) : Statement (.invAck op core line) := by
  simp [Statement, decodeTableWord]
theorem shutter (via : Via) : Statement (.shutter via) := by simp [Statement, decodeTableWord]
theorem shutterDrainEnd (e : Endpoint) :
    Statement (.shutterDrainEnd e) := by simp [Statement, decodeTableWord]
theorem unshutter (via : Via) : Statement (.unshutter via) := by simp [Statement, decodeTableWord]
theorem unshutterOpen (e : Endpoint) : Statement (.unshutterOpen e) := by simp [Statement, decodeTableWord]
theorem swapArmAtRota (via : Via) : Statement (.swapArmAtRota via) := by simp [Statement, decodeTableWord]
theorem swapArmWithLower (via : Via) :
    Statement (.swapArmWithLower via) := by simp [Statement, decodeTableWord]
theorem swapCancel (via : Via) : Statement (.swapCancel via) := by simp [Statement, decodeTableWord]
theorem swapDrainStart : Statement .swapDrainStart := by simp [Statement, decodeTableWord]
theorem tApply (via : Via) : Statement (.tApply via) := by simp [Statement, decodeTableWord]
theorem tRemove (via : Via) : Statement (.tRemove via) := by simp [Statement, decodeTableWord]
theorem tableEntryWrite (via : Via) (high : Bool) (value : BitVec 64) :
    Statement (.tableEntryWrite via high value) := by simp [Statement, decodeTableWord]
theorem statisticsClear (via : Via) (init : Fin 128) :
    Statement (.statisticsClear via init) := by simp [Statement, decodeTableWord]
theorem frameReceive (p : Port) (lanes : List LaneFrame) (ready : Nat) :
    Statement (.frameReceive p lanes ready) := by simp [Statement, decodeTableWord]
theorem linkStatus (p : Port) (msg : BitVec 112) :
    Statement (.linkStatus p msg) := by simp [Statement, decodeTableWord]
theorem paceProbe (p : Port) (msg : BitVec 112) (lastReady : BitVec 64) :
    Statement (.paceProbe p msg lastReady) := by simp [Statement, decodeTableWord]
theorem laneCdrLock (p : Port) (l : Lane) :
    Statement (.laneCdrLock p l) := by simp [Statement, decodeTableWord]
theorem laneBlockLock (p : Port) (l : Lane) (ok : Bool) :
    Statement (.laneBlockLock p l ok) := by simp [Statement, decodeTableWord]
theorem laneFrameAlign (p : Port) (l : Lane) (ok : Bool) (ln : Lane) (spare : Bool) :
    Statement (.laneFrameAlign p l ok ln spare) := by simp [Statement, decodeTableWord]
theorem laneLost (p : Port) (l : Lane) : Statement (.laneLost p l) := by simp [Statement, decodeTableWord]
theorem portTrained (p : Port) (skew : Nat) :
    Statement (.portTrained p skew) := by simp [Statement, decodeTableWord]
theorem goodFrameCount (p : Port) : Statement (.goodFrameCount p) := by simp [Statement, decodeTableWord]
theorem retrain (via : Via) (p : Port) : Statement (.retrain via p) := by simp [Statement, decodeTableWord]
theorem takeDown (via : Via) (p : Port) : Statement (.takeDown via p) := by simp [Statement, decodeTableWord]
theorem swapLaneCommand (via : Via) (p : Port) :
    Statement (.swapLaneCommand via p) := by simp [Statement, decodeTableWord]
theorem readmit (via : Via) (p : Port) : Statement (.readmit via p) := by simp [Statement, decodeTableWord]
theorem swapFrame (p : Port) (tx : Bool) : Statement (.swapFrame p tx) := by simp [Statement, decodeTableWord]
theorem swapVerify (p : Port) (ok : Bool) :
    Statement (.swapVerify p ok) := by simp [Statement, decodeTableWord]
theorem spareRegained (p : Port) : Statement (.spareRegained p) := by simp [Statement, decodeTableWord]
theorem measureCommand (via : Via) (p : Port) :
    Statement (.measureCommand via p) := by simp [Statement, decodeTableWord]
theorem laneTestModeWrite (via : Via) (p : Port) (l : Lane) (mode : BitVec 8) :
    Statement (.laneTestModeWrite via p l mode) := by simp [Statement, decodeTableWord]
theorem prbsCheckerLock (p : Port) (l : Lane) (rx : List Bool) :
    Statement (.prbsCheckerLock p l rx) := by simp [Statement, decodeTableWord]
theorem injectSingle (via : Via) (p : Port) (l : Lane) :
    Statement (.injectSingle via p l) := by simp [Statement, decodeTableWord]
theorem injectStartPeriodic (via : Via) (p : Port) (l : Lane) :
    Statement (.injectStartPeriodic via p l) := by simp [Statement, decodeTableWord]
theorem injectStop (via : Via) (p : Port) (l : Lane) :
    Statement (.injectStop via p l) := by simp [Statement, decodeTableWord]
theorem injectIntervalExpiry (p : Port) (l : Lane) :
    Statement (.injectIntervalExpiry p l) := by simp [Statement, decodeTableWord]
theorem regionRaise (via : Via) (r : Region) :
    Statement (.regionRaise via r) := by simp [Statement, decodeTableWord]
theorem regionLower (via : Via) (r : Region) :
    Statement (.regionLower via r) := by simp [Statement, decodeTableWord]
theorem regionWindowWrite (init : Initiator) (r : Region) (off : Nat) (data : List Byte) :
    Statement (.regionWindowWrite init r off data) := by simp [Statement, decodeTableWord]
theorem globalContention (line : Fin 4096) (a b : Region × Fin 16384) :
    Statement (.globalContention line a b) := by simp [Statement, decodeTableWord]
theorem reEnableLine (via : Via) (line : BitVec 16) :
    Statement (.reEnableLine via line) := by simp [Statement, decodeTableWord]
theorem peepholeWrite (via : Via) (r : Region) (k : Fin 64) (sel : BitVec 16) :
    Statement (.peepholeWrite via r k sel) := by simp [Statement, decodeTableWord]
theorem pllSettingsWrite (via : Via) (j : Fin 4) (value : BitVec 32) :
    Statement (.pllSettingsWrite via j value) := by simp [Statement, decodeTableWord]
theorem rotaClockTick : Statement .rotaClockTick := by simp [Statement, decodeTableWord]
theorem commitPulse : Statement .commitPulse := by simp [Statement, decodeTableWord]
theorem packetStart (i : Fin 64) : Statement (.packetStart i) := by simp [Statement, decodeTableWord]
theorem packetDone (i : Fin 64) (lat : Nat) (fate : Fate) : Statement (.packetDone i lat fate) := by
  simp [Statement, decodeTableWord]
theorem bankSupplySample (b : Region) (mv : Nat) :
    Statement (.bankSupplySample b mv) := by simp [Statement, decodeTableWord]
theorem push (init : Initiator) (t : Fin 256) (item : BitVec 64) :
    Statement (.push init t item) := by simp [Statement, decodeTableWord]
theorem pushEop (init : Initiator) (t : Fin 256) (item : BitVec 64) :
    Statement (.pushEop init t item) := by simp [Statement, decodeTableWord]
theorem pop (init : Initiator) (t : Fin 256) : Statement (.pop init t) := by simp [Statement, decodeTableWord]
theorem drop (init : Initiator) (t : Fin 256) :
    Statement (.drop init t) := by simp [Statement, decodeTableWord]
theorem publish (init : Initiator) (t : Fin 256) (value : BitVec 64) :
    Statement (.publish init t value) := by simp [Statement, decodeTableWord]
theorem troughRelease (init : Initiator) (t : Fin 256) (value : BitVec 64) :
    Statement (.troughRelease init t value) := by simp [Statement, decodeTableWord]
theorem bankViewWrite (init : Initiator) (t : Fin 256) (off : Nat) (data : List Byte) :
    Statement (.bankViewWrite init t off data) := by simp [Statement, decodeTableWord]
theorem troughReset (via : Via) (t : Fin 256) :
    Statement (.troughReset via t) := by simp [Statement, decodeTableWord]
theorem tallyFeed (init : Initiator) (n : Fin 16) (data : List Byte) :
    Statement (.tallyFeed init n data) := by simp [Statement, decodeTableWord]
theorem tallySnoopFeed (n : Fin 16) (data : List Byte) :
    Statement (.tallySnoopFeed n data) := by simp [Statement, decodeTableWord]
theorem tallyRestart (via : Via) (n : Fin 16) :
    Statement (.tallyRestart via n) := by simp [Statement, decodeTableWord]
theorem tallyRunningWrite (via : Via) (n : Fin 16) (value : BitVec 64) :
    Statement (.tallyRunningWrite via n value) := by simp [Statement, decodeTableWord]
theorem arm (init : Initiator) (task : BitVec 12) :
    Statement (.arm init task) := by simp [Statement, decodeTableWord]
theorem signal (init : Initiator) (task : BitVec 12) (amount : BitVec 12) :
    Statement (.signal init task amount) := by simp [Statement, decodeTableWord]
theorem cancel (init : Initiator) (task : BitVec 12) :
    Statement (.cancel init task) := by simp [Statement, decodeTableWord]
theorem done (init : Initiator) : Statement (.done init) := by simp [Statement, decodeTableWord]
theorem yield (init : Initiator) : Statement (.yield init) := by simp [Statement, decodeTableWord]
theorem commandError (init : Initiator) (word : BitVec 64) :
    Statement (.commandError init word) := by simp [Statement, decodeTableWord]
theorem take (k : CoreNo) : Statement (.take k) := by simp [Statement, decodeTableWord]
theorem delayListDue (j : Fin 4) : Statement (.delayListDue j) := by simp [Statement, decodeTableWord]
theorem preEmptOverrun (k : CoreNo) : Statement (.preEmptOverrun k) := by simp [Statement, decodeTableWord]
theorem cacheCommand (via : Via) (k : CoreNo) (which : BitVec 8) :
    Statement (.cacheCommand via k which) := by simp [Statement, decodeTableWord]
theorem coreHoldReset (via : Via) (k : CoreNo) :
    Statement (.coreHoldReset via k) := by simp [Statement, decodeTableWord]
theorem coreRelease (via : Via) (k : CoreNo) :
    Statement (.coreRelease via k) := by simp [Statement, decodeTableWord]
theorem coreAccessFault (k : CoreNo) (kind : CoreAccess) (addr : BitVec 64) :
    Statement (.coreAccessFault k kind addr) := by simp [Statement, decodeTableWord]
theorem reservationTimeout (k : CoreNo) :
    Statement (.reservationTimeout k) := by simp [Statement, decodeTableWord]
theorem scratchpadTestStart (via : Via) :
    Statement (.scratchpadTestStart via) := by simp [Statement, decodeTableWord]
theorem scratchpadTestStop (via : Via) :
    Statement (.scratchpadTestStop via) := by simp [Statement, decodeTableWord]
theorem watchArm (via : Via) (u : WatchUnit) :
    Statement (.watchArm via u) := by simp [Statement, decodeTableWord]
theorem forceTrigger (via : Via) (u : WatchUnit) :
    Statement (.forceTrigger via u) := by simp [Statement, decodeTableWord]
theorem watchStop (via : Via) (u : WatchUnit) :
    Statement (.watchStop via u) := by simp [Statement, decodeTableWord]
theorem watchReset (via : Via) (u : WatchUnit) :
    Statement (.watchReset via u) := by simp [Statement, decodeTableWord]
theorem postComplete (u : WatchUnit) : Statement (.postComplete u) := by simp [Statement, decodeTableWord]
theorem spillWrite (u : WatchUnit) : Statement (.spillWrite u) := by simp [Statement, decodeTableWord]
theorem drainComplete (u : WatchUnit) : Statement (.drainComplete u) := by simp [Statement, decodeTableWord]
theorem watchWindowWrite (init : Initiator) (u : WatchUnit) (off : Nat) (data : List Byte) :
    Statement (.watchWindowWrite init u off data) := by simp [Statement, decodeTableWord]
theorem referencePeriod : Statement .referencePeriod := by simp [Statement, decodeTableWord]
theorem sync (p : Port) (msg : BitVec 112) (ready : BitVec 64) :
    Statement (.sync p msg ready) := by simp [Statement, decodeTableWord]
theorem delayReq (p : Port) (msg : BitVec 112) (ready : BitVec 64) :
    Statement (.delayReq p msg ready) := by simp [Statement, decodeTableWord]
theorem delayResp (p : Port) (msg : BitVec 112) :
    Statement (.delayResp p msg) := by simp [Statement, decodeTableWord]
theorem announce (p : Port) (msg : BitVec 112) :
    Statement (.announce p msg) := by simp [Statement, decodeTableWord]
theorem announceExpiry (p : Port) : Statement (.announceExpiry p) := by simp [Statement, decodeTableWord]
theorem syncTimeout : Statement .syncTimeout := by simp [Statement, decodeTableWord]
theorem steepleSendDue (p : Port) (due : SteepleDue) :
    Statement (.steepleSendDue p due) := by simp [Statement, decodeTableWord]
theorem pulseArm (via : Via) (i : Fin 8) : Statement (.pulseArm via i) := by simp [Statement, decodeTableWord]
theorem pulseDisarm (via : Via) (i : Fin 8) :
    Statement (.pulseDisarm via i) := by simp [Statement, decodeTableWord]
theorem pulseFire (i : Fin 8) : Statement (.pulseFire i) := by simp [Statement, decodeTableWord]
theorem captureEdge (i : Fin 8) (rising : Bool) :
    Statement (.captureEdge i rising) := by simp [Statement, decodeTableWord]
theorem capturePop (via : Via) (i : Fin 8) :
    Statement (.capturePop via i) := by simp [Statement, decodeTableWord]
theorem storeWrite (via : Via) : Statement (.storeWrite via) := by simp [Statement, decodeTableWord]
theorem storeErase (via : Via) : Statement (.storeErase via) := by simp [Statement, decodeTableWord]
theorem storeMirror (via : Via) : Statement (.storeMirror via) := by simp [Statement, decodeTableWord]
theorem storeApply (via : Via) : Statement (.storeApply via) := by simp [Statement, decodeTableWord]
theorem storeCommandComplete : Statement .storeCommandComplete := by simp [Statement, decodeTableWord]
theorem restartCommand (via : Via) : Statement (.restartCommand via) := by simp [Statement, decodeTableWord]
theorem undercoat : Statement .undercoat := by simp [Statement, decodeTableWord]
theorem storePatrol : Statement .storePatrol := by simp [Statement, decodeTableWord]
theorem loadCommand (via : Via) : Statement (.loadCommand via) := by simp [Statement, decodeTableWord]
theorem loadComplete : Statement .loadComplete := by simp [Statement, decodeTableWord]
theorem allsetRelease : Statement .allsetRelease := by simp [Statement, decodeTableWord]
theorem hostHoldWrite (via : Via) (value : BitVec 8) :
    Statement (.hostHoldWrite via value) := by simp [Statement, decodeTableWord]
theorem allsetSeen (high : Bool) : Statement (.allsetSeen high) := by simp [Statement, decodeTableWord]
theorem croftRemap (via : Via) : Statement (.croftRemap via) := by simp [Statement, decodeTableWord]
theorem instructionScrub (h : Hamlet) (c : Croft) (b : Fin 64) (w : Fin 1024) :
    Statement (.instructionScrub h c b w) := by simp [Statement, decodeTableWord]
theorem hedgerowScrub (r : Region) (f : Fin 4160) :
    Statement (.hedgerowScrub r f) := by simp [Statement, decodeTableWord]
theorem keyProgram (via : Via) (slot : Fin 4) :
    Statement (.keyProgram via slot) := by simp [Statement, decodeTableWord]
theorem keyRevoke (via : Via) (slot : Fin 4) :
    Statement (.keyRevoke via slot) := by simp [Statement, decodeTableWord]
theorem attest (via : Via) : Statement (.attest via) := by simp [Statement, decodeTableWord]
theorem attestReady : Statement .attestReady := by simp [Statement, decodeTableWord]
theorem vstbyGood : Statement .vstbyGood := by simp [Statement, decodeTableWord]
theorem vstbyLoss : Statement .vstbyLoss := by simp [Statement, decodeTableWord]
theorem vmainGood : Statement .vmainGood := by simp [Statement, decodeTableWord]
theorem waking (brdid : Fin 16) (reference : Bool) :
    Statement (.waking brdid reference) := by simp [Statement, decodeTableWord]
theorem powerFail : Statement .powerFail := by simp [Statement, decodeTableWord]
theorem standbyCommand (via : Via) : Statement (.standbyCommand via) := by simp [Statement, decodeTableWord]
theorem wakeCommand (via : Via) : Statement (.wakeCommand via) := by simp [Statement, decodeTableWord]
theorem standbyWakeTimer : Statement .standbyWakeTimer := by simp [Statement, decodeTableWord]
theorem referenceLoss : Statement .referenceLoss := by simp [Statement, decodeTableWord]
theorem powerStateChoice : Statement .powerStateChoice := by simp [Statement, decodeTableWord]
theorem powerStateWake (cause : WakeCause) :
    Statement (.powerStateWake cause) := by simp [Statement, decodeTableWord]
theorem wakeAlarmWrite (via : Via) (i : Fin 4) (value : BitVec 64) :
    Statement (.wakeAlarmWrite via i value) := by simp [Statement, decodeTableWord]
theorem domainOff (via : Via) : Statement (.domainOff via) := by simp [Statement, decodeTableWord]
theorem domainOn (via : Via) : Statement (.domainOn via) := by simp [Statement, decodeTableWord]
theorem domainRestore (via : Via) : Statement (.domainRestore via) := by simp [Statement, decodeTableWord]
theorem sensorRead (r : Readings) : Statement (.sensorRead r) := by simp [Statement, decodeTableWord]
theorem thermalLevelFall : Statement .thermalLevelFall := by simp [Statement, decodeTableWord]
theorem thermalRequest : Statement .thermalRequest := by simp [Statement, decodeTableWord]
theorem safetyShutdown (d : Die) : Statement (.safetyShutdown d) := by simp [Statement, decodeTableWord]
theorem agingMeasure (via : Option Via) :
    Statement (.agingMeasure via) := by simp [Statement, decodeTableWord]
theorem agingPassComplete (results : List AgingResult) :
    Statement (.agingPassComplete results) := by simp [Statement, decodeTableWord]
theorem read (port : RingPort) (f : RingFrame) :
    Statement (.read port f) := by simp [Statement, decodeTableWord]
theorem writeObject (port : RingPort) (f : RingFrame) :
    Statement (.writeObject port f) := by simp [Statement, decodeTableWord]
theorem broadcastWrite (f : RingFrame) : Statement (.broadcastWrite f) := by simp [Statement, decodeTableWord]
theorem assign (port : RingPort) (f : RingFrame) :
    Statement (.assign port f) := by simp [Statement, decodeTableWord]
theorem mread (port : RingPort) (f : RingFrame) :
    Statement (.mread port f) := by simp [Statement, decodeTableWord]
theorem mwrite (port : RingPort) (f : RingFrame) :
    Statement (.mwrite port f) := by simp [Statement, decodeTableWord]
theorem response : Statement .response := by simp [Statement, decodeTableWord]
theorem frameForward (port : RingPort) (f : RingFrame) :
    Statement (.frameForward port f) := by simp [Statement, decodeTableWord]
theorem ringFrameDiscard (port : RingPort) (f : RingFrame) :
    Statement (.ringFrameDiscard port f) := by simp [Statement, decodeTableWord]
theorem notify (src : Fin 4096) : Statement (.notify src) := by simp [Statement, decodeTableWord]
theorem stileClosePrimary (via : Via) (ms : BitVec 24) :
    Statement (.stileClosePrimary via ms) := by simp [Statement, decodeTableWord]
theorem stileCloseBranch (via : Via) :
    Statement (.stileCloseBranch via) := by simp [Statement, decodeTableWord]
theorem stileOpenBranch (via : Via) : Statement (.stileOpenBranch via) := by simp [Statement, decodeTableWord]
theorem primaryStileReopen : Statement .primaryStileReopen := by simp [Statement, decodeTableWord]
theorem branchLockLoss : Statement .branchLockLoss := by simp [Statement, decodeTableWord]
theorem receiverLock (port : RingPort) (locked : Bool) :
    Statement (.receiverLock port locked) := by simp [Statement, decodeTableWord]
theorem settle (via : Via) : Statement (.settle via) := by simp [Statement, decodeTableWord]
theorem reset (via : Via) : Statement (.reset via) := by simp [Statement, decodeTableWord]
theorem eventFire (src : Fin 4096) (cause : Fin 16) :
    Statement (.eventFire src cause) := by simp [Statement, decodeTableWord]
theorem softwareRaise (via : Via) (src : BitVec 16) :
    Statement (.softwareRaise via src) := by simp [Statement, decodeTableWord]
theorem msixPendingSend (v : Fin 64) : Statement (.msixPendingSend v) := by simp [Statement, decodeTableWord]
theorem bar0Access (off : Nat) (acc : Access) :
    Statement (.bar0Access off acc) := by simp [Statement, decodeTableWord]
theorem octetDataWrite (init : Initiator) (off : Nat) (data : List Byte) :
    Statement (.octetDataWrite init off data) := by simp [Statement, decodeTableWord]
theorem bar2Access (off : Nat) (acc : Access) :
    Statement (.bar2Access off acc) := by simp [Statement, decodeTableWord]
theorem perst (high : Bool) : Statement (.perst high) := by simp [Statement, decodeTableWord]
theorem tapInstruction (code : BitVec 8) (testEn : Bool) :
    Statement (.tapInstruction code testEn) := by simp [Statement, decodeTableWord]
theorem tapInstructionExit : Statement .tapInstructionExit := by simp [Statement, decodeTableWord]
theorem registerWrite (via : Via) (index : BitVec 16) (sub : BitVec 8) (value : List Byte) :
    Statement (.registerWrite via index sub value) := by simp [Statement, decodeTableWord]
theorem crystalTimeout : Statement .crystalTimeout := by simp [Statement, decodeTableWord]
theorem referenceArrival : Statement .referenceArrival := by simp [Statement, decodeTableWord]
theorem pllLock (pll : Pll) : Statement (.pllLock pll) := by simp [Statement, decodeTableWord]
theorem scratchpadScrubVisit (word : Fin 1048576) :
    Statement (.scratchpadScrubVisit word) := by simp [Statement, decodeTableWord]
theorem testBlockDone (u : TestUnit) (found : List Mismatch) :
    Statement (.testBlockDone u found) := by simp [Statement, decodeTableWord]
theorem remapComplete : Statement .remapComplete := by simp [Statement, decodeTableWord]
theorem hedgerowClockEdge (r : Region) (line : Fin 8) (rising : Bool) (pins : BitVec 40) :
    Statement (.hedgerowClockEdge r line rising pins) := by simp [Statement, decodeTableWord]
theorem coreInstruction (k : CoreNo) : Statement (.coreInstruction k) := by simp [Statement, decodeTableWord]
theorem mtimecmpReached (k : CoreNo) : Statement (.mtimecmpReached k) := by simp [Statement, decodeTableWord]
theorem configurationRequest (kind : CfgKind) (link : BitVec 9) :
    Statement (.configurationRequest kind link) := by simp [Statement, decodeTableWord]
theorem upset (loc : UpsetAt) : Statement (.upset loc) := by simp [Statement, decodeTableWord]

end Sys2Proof.Laws.NoWord
end

