-- ==== Sys2Proof/Laws/Write.lean ====
section
/-!
SUPPORT. What a write of a dictionary object over any path does, said once: where the path reaches the device
and the object takes the write, the state is the owning chapter's; elsewhere only the refusal is recorded.
-/

namespace Sys2Proof.Machine

open Sys2Proof

theorem reachedBy_viaOpen {s : State} {via : Via} (h : s.reachedBy via = true) : s.viaOpen via = true := by
  simp only [State.reachedBy, Bool.and_eq_true] at h
  exact h.1.1.1

theorem reachedBy_awake {s : State} {via : Via} (h : s.reachedBy via = true) : (s.dev == .standby) = false := by
  simp only [State.reachedBy, Bool.and_eq_true, bne, Bool.not_eq_true'] at h
  exact h.1.1.2

theorem reachedBy_active {s : State} {via : Via} (h : s.reachedBy via = true) : s.obj 0x2100 1 = 0 := by
  simp only [State.reachedBy, Bool.and_eq_true, beq_iff_eq] at h
  exact h.1.2

theorem reachedBy_tap {s : State} {via : Via} (h : s.reachedBy via = true) : s.tapDriving = false := by
  simp only [State.reachedBy, Bool.and_eq_true, Bool.not_eq_true'] at h
  exact h.2

/-- An access that reaches an awake device in ACTIVE wakes nothing (R444). -/
theorem viaWake_id {s : State} {via : Via} (h : s.reachedBy via = true) (i : Nat) : s.viaWake i via = s := by
  have h1 := reachedBy_active h
  cases via <;> simp [State.viaWake, State.ringWake, State.hostWake, h1]

/-- No object lies in a domain that is switched off while the device is ACTIVE. -/
theorem viaOff_id {s : State} {via : Via} (h : s.reachedBy via = true) (i : Nat) : s.viaOff via i = false := by
  simp [State.viaOff, reachedBy_active h]

/-- A write over a path that reaches the device is the management write, counted as a transaction. -/
theorem viaWrite_eq {s : State} {via : Via} (h : s.reachedBy via = true) (i sub n v : Nat) :
    s.viaWrite via i sub n v = s.viaAnswer via n v (match s.manage i sub n v with
      | .ok (t, a) => t.afterEffect a
      | .error c => (s.noteRefusal i sub v c).viaRefused i sub c via) := by
  simp only [State.viaWrite, viaWake_id h, viaOff_id h, reachedBy_viaOpen h, Bool.not_true]
  rfl

/-- A ring command counts no transaction of a packet initiator. -/
@[simp] theorem rowAnswer_ring (s : State) (i sub v : Nat) (t : State) : s.rowAnswer .ring i sub v t = t := rfl
@[simp] theorem rowAnswer_broadcast (s : State) (i sub v : Nat) (t : State) : s.rowAnswer .broadcast i sub v t = t := rfl

/-- R470: the management write of an object of a record, judged in order. -/
theorem dictWrite_eq {s : State} {i sub : Nat} {subs : List SubRow} {row : SubRow} (hs : objSubs i = some subs)
    (hf : findSub sub subs = some row) (n v : Nat) :
    s.dictWrite i sub n v =
      if s.accessRefused i sub row.acc then .error abAccess
      else if n ≠ row.size then .error abLength
      else
        match s.writeByCode i sub v row.acc with
        | .error c => .error c
        | .ok r => if s.standbyRefuses i || s.tapRefuses i sub v then .error abState else .ok r := by
  simp only [State.dictWrite, hs, hf] <;> rfl

/-- A write of an object that takes it (R470): the owning chapter's effect and what follows it. -/
theorem rowWrite_done {s : State} {via : Via} (h : s.reachedBy via = true) {i sub v : Nat} {subs : List SubRow}
    {row : SubRow} {t : State} {a : After} (hs : objSubs i = some subs) (hf : findSub sub subs = some row)
    (hacc : row.acc = .wo ∨ row.acc = .rw) (hopen : s.tableShut i sub = false)
    (hi : i ≠ 0x2100 ∧ i ≠ 0x2300 ∧ i ≠ 0x2302) (hw : s.writeObj i sub v = .ok (t, a)) :
    s.rowWrite via i sub v = s.rowAnswer via i sub v (t.afterEffect a) := by
  have hb : objBits i sub / 8 = row.size := by
    simp only [objBits, objRow, hs, hf]
    omega
  have h1 : s.standbyRefuses i = false := by simp [State.standbyRefuses, reachedBy_awake h]
  have h2 : s.tapRefuses i sub v = false := by simp [State.tapRefuses, reachedBy_tap h]
  have hd : s.manage i sub row.size v = .ok (t, a) := by
    obtain ⟨n1, n2, n3⟩ := hi
    simp only [State.manage, dictWrite_eq hs hf]
    rcases hacc with e | e <;>
      simp [e, State.accessRefused, hopen, State.writeByCode, hw, h1, h2, n1, n2, n3]
  rw [State.rowWrite, State.rowAnswer, viaWrite_eq h, hb, hd]

/-- A write of an object that refuses it (R470, R471): the record of the refusal and nothing else. -/
theorem rowWrite_refused {s : State} {via : Via} (h : s.reachedBy via = true) {i sub v c : Nat}
    {subs : List SubRow} {row : SubRow} (hs : objSubs i = some subs) (hf : findSub sub subs = some row)
    (hacc : row.acc = .wo ∨ row.acc = .rw) (hopen : s.tableShut i sub = false)
    (hw : s.writeObj i sub v = .error c) :
    s.rowWrite via i sub v = s.rowAnswer via i sub v ((s.noteRefusal i sub v c).viaRefused i sub c via) := by
  have hb : objBits i sub / 8 = row.size := by
    simp only [objBits, objRow, hs, hf]
    omega
  have hd : s.manage i sub row.size v = .error c := by
    simp only [State.manage, dictWrite_eq hs hf]
    rcases hacc with e | e <;> simp [e, State.accessRefused, hopen, State.writeByCode, hw]
  rw [State.rowWrite, State.rowAnswer, viaWrite_eq h, hb, hd]

/-! ## The records of the numbered units (R10) -/

theorem objSubs_croft : ∀ k : Fin 1024, objSubs (kObj k.val) = some subs3080 := by decide +kernel
theorem objSubs_test : ∀ h : Fin 8, objSubs (hObj h.val + 0x27) = some subs3027 := by decide +kernel
theorem objSubs_port : ∀ p : Fin 32, objSubs (pObj p.val) = some subs4000 := by decide +kernel
theorem objSubs_latency : ∀ p : Fin 32, objSubs (pObj p.val + 1) = some subs4001 := by decide +kernel
theorem objSubs_portTable : ∀ p : Fin 32, objSubs (pObj p.val + 3) = some subs4003 := by decide +kernel
theorem objSubs_lane : ∀ p : Fin 32, ∀ l : Fin 8, objSubs (lObj p.val l.val) = some subs4008 := by
  decide +kernel
theorem objSubs_stat : ∀ i : Fin 128, objSubs (0x4880 + i.val) = some subs4880 := by decide +kernel
theorem objSubs_region : ∀ r : Fin 12, objSubs (0x5010 + r.val) = some subs5010 := by decide +kernel
theorem objSubs_peephole : ∀ r : Fin 12, objSubs (0x5040 + r.val) = some subs5040 := by decide +kernel
theorem objSubs_trough : ∀ t : Fin 256, objSubs (0x5100 + t.val) = some subs5100 := by decide +kernel
theorem objSubs_tally : ∀ n : Fin 16, objSubs (0x5200 + n.val) = some subs5200 := by decide +kernel
theorem objSubs_core : ∀ k : Fin 16, objSubs (0x5310 + k.val) = some subs5310 := by decide +kernel
theorem objSubs_watch : ∀ u : Fin 9, objSubs (wObj u.val) = some subs5400 := by decide +kernel
theorem objSubs_pulse : ∀ j : Fin 8, objSubs (0x2210 + j.val) = some subs2210 := by decide +kernel
theorem objSubs_capture : ∀ j : Fin 8, objSubs (0x2220 + j.val) = some subs2220 := by decide +kernel

end Sys2Proof.Machine
end

