-- ==== Sys2Proof/Tests/Slice0.lean ====
section
/-!
SUPPORT. Tests of the model: the smoke tests of WellFormed, and for every obligation with hypotheses a concrete state and
operands that meet them (test_<Obligation>...), with what the command then leaves. The expected values are the rules' own.
-/

open Sys2Proof Sys2Proof.Machine

namespace Sys2Proof.Tests

set_option Elab.async false

/-- The outcome is a next state of which `p` holds. -/
def after (o : Host.Outcome State Fault Refusal) (p : State → Bool) : Bool :=
  match o with
  | .next t => p t
  | .fault _ => false
  | .refused _ => false

/-- The outcome is the next state `t`. -/
def leads (o : Host.Outcome State Fault Refusal) (t : State) : Bool := after o (fun u => decide (u = t))

/-- A device in PREP, power state ACTIVE, with every supply on. -/
def prep : State := { State.reset with
  dev := .prep, objs := [], pcie := { PcieRec.rest with perst := true, served := true }, power := { PowerRec.rest with
    vmain := true, reference := true, green := true, hamlets := true, cellars := true } }

/-- The device in stroke 5 of rota 7, its ninth execution. -/
def run : State := { prep with dev := .run, phase := .rota 5, rota := 7, exec := 9, count := 5000 }

/-- Bytes `bs` at `a` as a memory. -/
def memAt (a : Nat) (bs : List Byte) : List Host.Cell := ((upFrom a bs.length).zip bs).filter (fun e => e.2 != 0)

/-! ## Ill-formed terms that the checks refuse -/

theorem test_ill_formed_stroke :
    Instr.wellFormed (.stroke ⟨[(1024, 0, 1)], [], []⟩) = false ∧
    Instr.wellFormed (.stroke ⟨[(0, 6, 1)], [], []⟩) = false ∧
    Instr.wellFormed (.stroke ⟨[(1023, 5, 1)], [], []⟩) = true := by decide

theorem test_ill_formed_window :
    Instr.wellFormed (.croftWindowWrite 0 0 0 0x20000000 [1]) = false ∧
    Instr.wellFormed (.croftWindowWrite 0 0 0 0x206000 [1, 2, 3]) = false ∧
    Instr.wellFormed (.nonBpLarderAccess 0 0 0 0x20000000 (.read 1)) = false ∧
    Instr.wellFormed (.nonBpLarderAccess 0 0 0 0 (.read 3)) = false ∧
    Instr.wellFormed (.regionWindowWrite 0 0 0x1000000 [1]) = false ∧
    Instr.wellFormed (.regionWindowWrite 0 0 0 []) = false ∧
    Instr.wellFormed (.bankViewWrite 0 0 0x2000 [1]) = false ∧
    Instr.wellFormed (.bankViewWrite 0 0 0 [1, 2, 3]) = false ∧
    Instr.wellFormed (.watchWindowWrite 0 0 0x2000000 [1]) = false ∧
    Instr.wellFormed (.watchWindowWrite 0 0 0 [1, 2, 3]) = false ∧
    Instr.wellFormed (.nonBpLarderAccess 0 0 0 0x1FFFFFFF (.write [1])) = true := by decide

theorem test_ill_formed_link :
    Instr.wellFormed (.tableEntryWrite .ring true 256) = false ∧
    Instr.wellFormed (.frameReceive 0 [⟨1, 0⟩, ⟨1, 0⟩] 0) = false ∧
    Instr.wellFormed (.prbsCheckerLock 0 0 []) = false ∧
    Instr.wellFormed (.globalContention 0 (0, 0) (0, 0)) = false ∧
    Instr.wellFormed (.frameReceive 0 [⟨1, 0⟩, ⟨2, 0⟩] 0) = true := by decide

theorem test_ill_formed_unit :
    Instr.wellFormed (.tallyFeed 0 0 [1, 2, 3]) = false ∧
    Instr.wellFormed (.coreAccessFault 0 .load 0x1000000000000) = false ∧
    Instr.wellFormed (.sensorRead ⟨[], [], [], 0, 0, 0, 0⟩) = false ∧
    Instr.wellFormed (.registerWrite .ring 0x2400 1 []) = false ∧
    Instr.wellFormed (.registerWrite .ring 0x2400 1 (List.replicate 33 0)) = false := by decide

theorem test_ill_formed_ring_and_host :
    Instr.wellFormed (.read .primary ⟨[], false⟩) = false ∧
    Instr.wellFormed (.writeObject .primary ⟨[], false⟩) = false ∧
    Instr.wellFormed (.broadcastWrite ⟨[], false⟩) = false ∧
    Instr.wellFormed (.assign .primary ⟨[], false⟩) = false ∧
    Instr.wellFormed (.mread .primary ⟨[], false⟩) = false ∧
    Instr.wellFormed (.mwrite .primary ⟨[], false⟩) = false ∧
    Instr.wellFormed (.frameForward .primary ⟨[], false⟩) = false ∧
    Instr.wellFormed (.ringFrameDiscard .branch ⟨[], false⟩) = false ∧
    Instr.wellFormed (.bar0Access 0x4000000 (.read 1)) = false ∧
    Instr.wellFormed (.bar0Access 0 (.read 0)) = false ∧
    Instr.wellFormed (.bar0Access 0 (.read 4097)) = false ∧
    Instr.wellFormed (.bar0Access 0 (.write [])) = false ∧
    Instr.wellFormed (.octetDataWrite 1024 32 [1]) = false ∧
    Instr.wellFormed (.octetDataWrite 1024 0 []) = false ∧
    Instr.wellFormed (.bar2Access 0x1000000000 (.read 1)) = false ∧
    Instr.wellFormed (.bar2Access 0 (.write [])) = false := by decide

/-! ## Witnesses: states that meet the premises of each statement, with what the command then does -/

theorem test_StepIsTheFrontCommand :
    State.reset.pending = [] ∧
    leads (step { State.reset with pending := [.vstbyGood, .crystalTimeout] })
      { State.reset with pending := [.crystalTimeout] } = true ∧
    leads (step State.reset) State.reset = true := by decide +kernel

theorem test_FusesAndQueueKept :
    after (step { run with pending := [.stroke .none, .rotaBoundary] }) (fun t =>
      t.fuse == run.fuse && t.pending == [.rotaBoundary]) = true := by decide +kernel

theorem test_MemoryStaysCanonical :
    run.memWf = true ∧
    run.canonical = true ∧
    after (step { run with pending := [.sheetRaise .ring 0 1] }) (fun t => t.canonical) = true ∧
    after (step { run with pending := [.croftWindowWrite 1024 0 0 0x206000 [1]] }) (fun t => t.memWf) = true := by
  decide +kernel

theorem test_RefusedWriteChangesNothing :
    prep.reachedBy .ring = true ∧
    objSubs 0x0FFF = none ∧
    (objSubs 0x2400).isSome = true ∧
    (objSubs 0x2400).bind (findSub 0x40) = none ∧
    (objRow 0x2400 4).map SubRow.acc = some .ro ∧
    (objRow 0x4800 4).map SubRow.size = some 4 ∧
    leads (exec (.registerWrite .ring 0x0FFF 1 [1]) prep) (prep.bump 0x1010 0xB) = true ∧
    leads (exec (.registerWrite .ring 0x2400 0x40 [1]) prep) (prep.bump 0x1010 0xB) = true ∧
    leads (exec (.registerWrite .ring 0x2400 4 [0, 0, 0, 0, 0, 0, 0, 0]) prep) (prep.bump 0x1010 0xB) = true ∧
    leads (exec (.registerWrite .ring 0x4800 4 [0, 8]) prep) (prep.bump 0x1010 0xB) = true := by decide +kernel

theorem test_AccessCodes_w1c :
    prep.reachedBy .bar0 = true ∧
    (objRow 0x2101 5).map (fun r => (r.acc, r.size)) = some (.w1c, 1) ∧
    leads (exec (.registerWrite .bar0 0x2101 5 [6]) (prep.setObj 0x2101 5 3))
      ((prep.setObj 0x2101 5 3).viaAnswer .bar0 1 6 (prep.setObj 0x2101 5 1)) = true := by
  decide +kernel

theorem test_AccessCodes_rw :
    prep.reachedBy .ring = true ∧
    (⟨0x2403, 1, 0x10, 4, 4, 0, 2 ^ 64 - 1, false, 64⟩ : StoredRow) ∈ storedRows ∧
    (⟨0x4800, 1, 0x10, 4, 4, 1024, 16777216, false, 32⟩ : StoredRow) ∈ storedRows ∧
    (⟨0x4800, 1, 0x10, 4, 4, 1024, 16777216, false, 32⟩ : StoredRow).takes 1023 = false ∧
    leads (exec (.registerWrite (.mirror 1088) 0x2307 1 [255, 255]) prep)
      (prep.viaAnswer (.mirror 1088) 2 0xFFFF (prep.setObj 0x2307 1 1023)) = true ∧
    leads (exec (.registerWrite .ring 0x2403 4 [1, 2, 3, 4, 5, 6, 7, 8]) prep)
      (prep.setObj 0x2403 4 0x0807060504030201) = true ∧
    leads (exec (.registerWrite .ring 0x4800 4 [0, 4, 0, 0]) prep) (prep.setObj 0x4800 4 1024) = true ∧
    leads (exec (.registerWrite .ring 0x4800 4 [0, 0, 0, 1]) prep) (prep.setObj 0x4800 4 16777216) = true ∧
    leads (exec (.registerWrite .ring 0x4800 4 [255, 3, 0, 0]) prep) (prep.bump 0x1010 0xB) = true ∧
    leads (exec (.registerWrite .ring 0x4800 4 [1, 0, 0, 1]) prep) (prep.bump 0x1010 0xB) = true := by decide +kernel

/-- What a dictionary read gives and leaves, as data that can be compared. -/
def readsAs (s : State) (i sub : Nat) (t : State) (v : Nat) : Bool :=
  match s.dictRead i sub with
  | .ok r => decide (r = (t, v))
  | .error _ => false

theorem test_AccessCodes_read :
    prep.standbyRefuses 0x2401 = false ∧
    (objRow 0x2401 5).map SubRow.acc = some .wo ∧
    (objRow 0x4804 1).map SubRow.acc = some .rw ∧
    (objRow 0x4000 0xB).map SubRow.acc = some .rc ∧
    isWander 0x4000 0xB = false ∧
    readsAs prep 0x2401 5 prep 0 = true ∧
    readsAs (prep.setObj 0x4804 1 9) 0x4804 1 (prep.setObj 0x4804 1 9) 9 = true ∧
    highestRow 0x4000 0xB = false ∧
    readsAs (prep.setObj 0x4000 0xB 9) 0x4000 0xB prep 9 = true ∧
    highestRow 0x2120 0xF = true ∧
    readsAs ((prep.setObj 0x2120 0xF 99).setObj 0x2120 1 60) 0x2120 0xF ((prep.setObj 0x2120 0xF 60).setObj 0x2120 1 60)
      99 = true := by decide +kernel

/-- A device in RUN with rotas of 1,024 strokes and a commit lag of 1. -/
def lockstep : State := ((run.setObj 0x2400 1 1024).setObj 0x2400 2 1)

/-- At the boundary, with the window of the rota before it decided by bell byte `b`. -/
def atBoundary (b : Option (BitVec 8)) : State := { lockstep with
  phase := .boundary, bell := { BellUnit.rest with windows := [⟨8, 6, 1024, [], [], none, b⟩] } }

theorem test_StrokesOfRotaAndFallow :
    lockstep.clocked = true ∧
    lockstep.phase = .rota 5 ∧
    (lockstep.quiet .none = true ∧ prep.quiet .none = true ∧ { lockstep with phase := .fallow 63 64 }.quiet .none = true) ∧
    (lockstep.strokeRuns = true ∧ { lockstep with phase := .boundary }.strokeRuns = false) ∧
    after (exec (.stroke .none) lockstep) (fun u => u.count == 5001 && u.phase == .rota 6) = true ∧
    after (exec (.stroke .none) { lockstep with phase := .rota 1023 }) (fun u => u.phase == .boundary) = true ∧
    after (exec (.stroke .none) prep) (fun u => u.count == 1 && u.phase == .idle) = true ∧
    after (exec (.stroke .none) { lockstep with phase := .fallow 63 64 }) (fun u =>
      u.count == 5001 && u.phase == .fallow 64 64) = true ∧
    after (exec .fallowEnd { lockstep with phase := .fallow 64 64 }) (fun u =>
      u.phase == .rota 0 && u.rota == 7 && u.exec == 10 && u.count == 5000 && u.dev == .run) = true := by
  decide +kernel

theorem test_BoundaryDecides_none :
    { lockstep with phase := .boundary }.judge = .none ∧
    { lockstep with phase := .boundary }.halts = [] ∧
    after (exec .rotaBoundary { lockstep with phase := .boundary }) (fun u =>
      u.rota == 8 && u.exec == 10 && u.phase == .rota 0 && u.obj 0x2400 4 == 0) = true := by decide +kernel

theorem test_BoundaryDecides_clear :
    (atBoundary (some 0x40)).judge = .bell ⟨8, 6, 1024, [], [], none, some 0x40⟩ 0x40 ∧
    after (exec .rotaBoundary (atBoundary (some 0x40))) (fun u =>
      u.rota == 8 && u.exec == 10 && u.phase == .rota 0 && u.obj 0x2400 4 == 1 && u.obj 0x2401 7 == 0) = true := by
  decide +kernel

theorem test_BoundaryDecides_foul :
    (atBoundary (some 0x41)).judge = .bell ⟨8, 6, 1024, [], [], none, some 0x41⟩ 0x41 ∧
    satAdd 16 ((atBoundary (some 0x41)).obj 0x2401 7) 1 < (atBoundary (some 0x41)).obj 0x2401 8 ∧
    0 < (atBoundary (some 0x41)).obj 0x2402 1 ∧
    after (exec .rotaBoundary (atBoundary (some 0x41))) (fun u =>
      u.rota == 6 && u.phase == .fallow 0 0x40 && u.obj 0x2400 4 == 0 && u.obj 0x2400 5 == 1 &&
      u.bell.windows == []) = true := by decide +kernel

theorem test_LostBellsStopsAndPauses_lost :
    (atBoundary none).judge = .lost ⟨8, 6, 1024, [], [], none, none⟩ ∧
    after (exec .bellLost (atBoundary none)) (fun u => u.dev == .halt && u.phase == .idle && u.obj 0x2401 9 == 6 &&
      u.obj 0x2400 4 == 0 && u.rota == 7 && u.bell.lost == some ⟨8, 6, 1024, [], [], none, none⟩ &&
      u.bell.windows == []) = true := by decide +kernel

/-- A device in HALT whose rota 6 is undecided. -/
def undecided : State := { lockstep.setObj 0x2401 9 6 with
  dev := .halt, phase := .idle, bell := { BellUnit.rest with lost := some ⟨8, 6, 1024, [], [], none, none⟩ } }

theorem test_LostBellsStopsAndPauses_repair :
    undecided.reachedBy .ring = true ∧
    after (exec (.verdictRepair .ring 1) undecided) (fun u => u.rota == 8 && u.obj 0x2400 4 == 1 &&
      u.obj 0x2401 9 == 2 ^ 64 - 1 && u.bell.lost == none) = true ∧
    after (exec (.verdictRepair .ring 2) undecided) (fun u => u.rota == 6 && u.obj 0x2400 4 == 0 &&
      u.obj 0x2401 9 == 2 ^ 64 - 1 && u.bell.lost == none) = true := by decide +kernel

theorem test_LostBellsStopsAndPauses_requests :
    run.reachedBy .ring = true ∧
    run.requestExec ∉ run.bell.fouls ∧
    leads (exec (.stopCommand .ring) run)
      { run with bell := { run.bell with fouls := [9], stop := some 9 } } = true ∧
    leads (exec (.stopCommand .ring) { run with bell := { run.bell with fouls := [9], stop := some 9 } })
      { run with bell := { run.bell with fouls := [9], stop := some 9 } } = true ∧
    leads (exec (.pauseCommand .ring) run)
      { run with bell := { run.bell with pauses := [⟨9, none⟩] } } = true := by decide +kernel

/-- Port 0 in the UP state in mode 1, each lane ALIGNED, latency 1,000 strokes. -/
def linkUp (s : State) : State :=
  (upFrom 0 8).foldl (fun st l => (st.setObj (0x4008 + l) 1 4).setObj (0x4008 + l) 2 l)
    (((s.setObj 0x4000 1 1).setObj 0x4000 2 3).setObj 0x4001 1 1000)

/-- Port 0 is the port to a child (role 2) or to the parent (role 1); its group for the present stroke holds bell
byte 0x41, and the window of the rota before the present one is `e` strokes old. -/
def bellPort (role e : Nat) (byte : Nat := 0x41) : State :=
  let s := ((linkUp lockstep).setObj 0x2420 1 role).setObj 0x2420 2 100
  let frame : HeldFrame := ⟨List.replicate 16 (BitVec.ofNat 128 byte), 4000, false, decide (byte = 0), 0, false, false⟩
  { (s.setObj 0x2420 3 200).setObj 0x2401 1 40 with
    ports := [(0, { PortRec.blank with frames := [(250, frame)] })],
    bell := { BellUnit.rest with windows := [⟨9, 7, e, [], [], some 0x40, some 0x40⟩] } }

theorem test_BellMessages_local :
    (bellPort 2 40).windowAt ((bellPort 2 40).obj 0x2401 1) = some ⟨9, 7, 40, [], [], some 0x40, some 0x40⟩ ∧
    after (exec .bellLocalMessage { bellPort 2 40 with bell := { (bellPort 2 40).bell with fouls := [9, 10] } })
      (fun t => t.bell.windows == [⟨9, 7, 40, [], [], some 0x41, some 0x40⟩] && t.bell.fouls == [10]) = true ∧
    after (exec .bellLocalMessage { bellPort 2 40 with bell := { (bellPort 2 40).bell with pauses := [⟨9, none⟩] } })
      (fun t => t.bell.windows == [⟨9, 7, 40, [], [], some 0x60, some 0x40⟩] && t.bell.pauses == [⟨9, some 9⟩]) = true ∧
    { lockstep with bell := .rest }.bell.windows = [] ∧
    leads (exec .bellLocalMessage lockstep) lockstep = true := by decide +kernel

theorem test_BellMessages_receive :
    (bellPort 2 100).bellRole 0 = 2 ∧
    (bellPort 2 100).windowAt ((bellPort 2 100).bellUp 0) = some ⟨9, 7, 100, [], [], some 0x40, some 0x40⟩ ∧
    (bellPort 2 100).bellByte 0 = some 0x41 ∧
    bellValid 0x41 = true ∧
    (bellPort 1 216).bellRole 0 = 1 ∧
    (bellPort 1 216).bellByte 0 = some 0x41 ∧
    after (exec (.bellMessageReceive 0 false) (bellPort 2 100)) (fun t =>
      t.bell.windows == [⟨9, 7, 100, [⟨0, 100, some 0x41⟩], [], some 0x40, some 0x40⟩]) = true ∧
    after (exec (.bellMessageReceive 0 false) (bellPort 1 200)) (fun t =>
      t.bell.windows == [⟨9, 7, 200, [], [⟨0, 200, some 0x41⟩], some 0x40, some 0x40⟩]) = true ∧
    after (exec (.bellMessageReceive 0 true) (bellPort 1 216)) (fun t =>
      t.bell.windows == [⟨9, 7, 216, [], [⟨0, 216, some 0x41⟩], some 0x40, some 0x40⟩]) = true := by decide +kernel

theorem test_BellMessages_invalid :
    (bellPort 2 100 0x81).bellByte 0 = some 0x81 ∧
    bellValid 0x81 = false ∧
    (bellPort 2 100 0).bellByte 0 = none ∧
    after (exec (.bellMessageReceive 0 false) (bellPort 2 100 0x81)) (fun t => t.obj 0x2401 0xB == 1 &&
      t.bell.windows == [⟨9, 7, 100, [⟨0, 100, some 0x81⟩], [], some 0x40, some 0x40⟩]) = true ∧
    after (exec (.bellMessageReceive 0 false) (bellPort 2 100 0)) (fun t => t.obj 0x2401 0xB == 1 &&
      t.bell.windows == [⟨9, 7, 100, [⟨0, 100, none⟩], [], some 0x40, some 0x40⟩]) = true ∧
    after (exec (.bellMessageReceive 0 true) (bellPort 1 216 0)) (fun t => t.obj 0x2401 0xB == 1 &&
      t.bell.windows == [⟨9, 7, 216, [], [⟨0, 216, none⟩], some 0x40, some 0x40⟩]) = true ∧
    after (exec (.bellMessageReceive 0 true) (bellPort 1 216 0x81)) (fun t => t.obj 0x2401 0xB == 1) = true := by
  decide +kernel

theorem test_BellMessages_send :
    (bellPort 1 100).bellParent = some 0 ∧
    (bellPort 2 103).bellParent = none ∧
    (bellPort 2 103).bellForm = 103 ∧
    leads (exec .bellUpSend (bellPort 1 100))
      { bellPort 1 100 with bell := { (bellPort 1 100).bell with tx := [(0, 0x40)] } } = true ∧
    after (exec .bellRootForm (bellPort 2 103)) (fun t =>
      t.bell.windows == [⟨9, 7, 103, [], [], some 0x40, some 0x41⟩]) = true ∧
    leads (exec (.verdictCopySend 0 false) (bellPort 2 200))
      { bellPort 2 200 with bell := { (bellPort 2 200).bell with tx := [(0, 0x40)] } } = true ∧
    leads (exec (.verdictCopySend 0 true) (bellPort 2 216))
      { bellPort 2 216 with bell := { (bellPort 2 216).bell with tx := [(0, 0x40)] } } = true := by decide +kernel

/-- Port 0 leads to a child and port 1 to the parent, of which the window holds a copy `b`. -/
def relay (b : BitVec 8) : State := { (bellPort 2 200).setObj 0x2421 1 1 with
  bell := { BellUnit.rest with windows := [⟨9, 7, 200, [], [⟨1, 194, some b⟩], some 0x40, none⟩] } }

theorem test_BellMessages_relay :
    (relay 0x42).bellRole 0 = 2 ∧
    (relay 0x42).bellParent = some 1 ∧
    leads (exec (.verdictCopySend 0 false) (relay 0x42))
      { relay 0x42 with bell := { (relay 0x42).bell with tx := [(0, 0x42)] } } = true ∧
    leads (exec (.verdictCopySend 0 false) (relay 0x80))
      { relay 0x80 with bell := { (relay 0x80).bell with tx := [(0, 0)] } } = true := by decide +kernel

/-- A module in SET whose steeple is LOCKED at time 10 s (10^10 ns modulo 2^32). -/
def aligned (status : Nat) : State :=
  { ((prep.setObj 0x2200 1 3).setObj 0x2403 1 1500000000).setObj 0x2403 3 status with
    dev := .set, count := 100000, allset := ⟨true, true, true, false⟩,
    steeple := { SteepleRec.rest with value := 1499000000 * 2 ^ 32 } }

theorem test_AlignmentAndStartOfARun_align :
    (aligned 0).reachedBy .ring = true ∧
    (aligned 0).steepleLocked = true ∧
    pattern 32 (((aligned 0).obj 0x2403 1 : Int) - (aligned 0).nowNs) = 1000000 ∧
    leads (exec (.alignmentArm .ring) (aligned 0)) ((aligned 0).setObj 0x2403 3 1) = true ∧
    leads (exec (.alignmentCancel .ring) (aligned 1)) ((aligned 1).setObj 0x2403 3 0) = true ∧
    leads (exec (.alignmentCancel .ring) (aligned 2)) (aligned 2) = true := by decide +kernel

/-- The alignment time has come, to the stroke. -/
def alignNow (spoiled : Bool) : State := { linkUp (aligned 1) with
  alignSpoiled := spoiled, steeple := { SteepleRec.rest with value := 1500000000 * 2 ^ 32 } }

theorem test_AlignmentAndStartOfARun_step :
    (alignNow false).alignDue = true ∧
    (aligned 1).alignDue = false ∧
    (alignNow false).steepleLocked = true ∧
    after (exec .alignmentStep (alignNow false)) (fun u => u.count == 0 && u.obj 0x2403 3 == 2 &&
      u.portState 0 == 1 && u.portState 1 == 0) = true ∧
    leads (exec .alignmentStep (alignNow true)) ((alignNow true).setObj 0x2403 3 3) = true := by decide +kernel

/-- A start that is armed for count 100,000, at `n` strokes before it. -/
def startAt (d : DevState) (n : Nat) (input : Bool) : State :=
  { ((((aligned 2).setObj 0x2403 4 100000).setObj 0x2403 6 1).setObj 0x2400 1 1024).setObj 0x2400 4 17 with
    dev := d, count := 100000 - n, allset := ⟨true, input, true, false⟩ }

theorem test_AlignmentAndStartOfARun_start :
    (startAt .set 65536 true).reachedBy .ring = true ∧
    leads (exec (.startArm .ring) ((startAt .set 65536 true).setObj 0x2403 6 0)) (startAt .set 65536 true) = true ∧
    leads (exec (.startArm .ring) ((startAt .hold 65536 true).setObj 0x2403 6 0)) (startAt .hold 65536 true) = true ∧
    leads (exec (.startCancel .ring) (startAt .set 9 true)) ((startAt .set 9 true).setObj 0x2403 6 0) = true ∧
    leads (exec .startSample (startAt .set 4096 true)) (startAt .set 4096 true) = true ∧
    leads (exec .startSample (startAt .set 4096 false)) ((startAt .set 4096 false).setObj 0x2403 6 3) = true ∧
    after (exec .startRun (startAt .set 0 true)) (fun u => u.dev == .run && u.phase == .rota 0 && u.rota == 0 &&
      u.obj 0x2403 6 == 2 && u.obj 0x2400 4 == 0 && u.count == 100000) = true ∧
    after (exec .startRun (startAt .hold 0 true)) (fun u => u.dev == .run && u.phase == .rota 0 && u.rota == 17 &&
      u.obj 0x2403 6 == 2 && u.count == 100000) = true := by decide +kernel

/-- Croft 129 in a mode, with its sheet in a state. -/
def sheeted (s : State) (mode : Nat) (sh : Sheet) (fresh : Bool) : State :=
  s.setCroft 129 { CroftRec.blank with mode := mode, bankMask := 15, sheet := sh, newSection := fresh }

theorem test_SheetCommands :
    (sheeted run 1 .down false).reachedBy .ring = true ∧
    after (exec (.sheetRaise .ring 1 1) (sheeted run 1 .down true)) (fun t =>
      t == run.setCroft 129 { (sheeted run 1 .down true).croft 129 with
        sheet := .raising, sheetRota := 8, newSection := false }) = true ∧
    after (exec (.sheetLower .ring 1 1) (sheeted run 1 .upLoadable true)) (fun t =>
      t == run.setCroft 129 { (sheeted run 1 .upLoadable true).croft 129 with
        sheet := .lowering, sheetRota := 7, firstRota := 8, newSection := false }) = true := by decide +kernel

theorem test_SheetCommands_swap :
    let s0 := sheeted (run.setObj 0x4801 4 129) 1 .upLoadable true
    let s := { s0 with opn := { s0.opn with swapArmed := true, swapLower := true } }
    (s.obj 0x4801 4 % 1024 = 129 ∧
    after (exec (.sheetLower .ring 1 1) s) (fun t => t.opn.swapRota == 8 && !t.opn.swapArmed && t.obj 0x4801 2 == 2 &&
      (t.croft 129).sheet == .lowering) = true) := by decide +kernel

/-- The answer of `t` is `op` with `data`, for initiator `i`. -/
def gets (t : State) (i op : Nat) (data : List Byte) : Bool :=
  t.answer.asker.init == i && t.answer.op == op && t.answer.data == data

/-- Initiator `i` gets `op` with `data`, and the outcome is `u` but for what carries the access and its answer. -/
def answers (o : Host.Outcome State Fault Refusal) (u : State) (i op : Nat) (data : List Byte := []) : Bool :=
  after o (fun t => gets t i op data && decide (t = { u with
    opn := { u.opn with rsvs := t.opn.rsvs, rsvOrder := t.opn.rsvOrder, samples := t.opn.samples },
    freeCtr := t.freeCtr, snooped := t.snooped, objs := t.objs, answer := t.answer }))

/-- Croft 129 as `sheeted` makes it, behind hamlet 0 whose routers pass packets, since a larder bank is ACTIVE there. -/
def meshed (s : State) (mode : Nat) (sh : Sheet) : State := (sheeted s mode sh false).setObj 0x3020 1 2

theorem test_CroftWindowWrites :
    let s := meshed prep 1 .down
    (s.croftRead 129 0x208000 1 = none ∧
    [0x24, 0x92].any reservedMode = false ∧
    [0x30, 0x00].any reservedMode = true ∧
    s.croftLoadable 129 = true ∧
    (meshed run 1 .down).croftLoadable 129 = false ∧
    s.reaches 1024 (.croft 129 0x207FFE) 2 = true ∧
    (meshed prep 1 .raising).reaches 1024 (.croft 129 0x206000) 2 = true ∧
    s.reaches 1024 (.croft 129 0x201000) 2 = true ∧
    (meshed run 1 .down).reaches 1024 (.croft 129 0x100000) 2 = true ∧
    s.reaches 1024 (.croft 129 0x100020) 2 = true ∧
    s.reaches 1024 (.croft 129 0x200FFF) 1 = true ∧
    answers (exec (.croftWindowWrite 1024 1 1 0x208000 [1]) s) s 1024 opDecode = true ∧
    answers (exec (.croftWindowWrite 1024 1 1 0x207FFE [0x24, 0x92]) s)
      (s.setBytes (croftBase 129 + 0x207FFE) [0x24, 0x92]) 1024 opAck = true ∧
    answers (exec (.croftWindowWrite 1024 1 1 0x206000 [0x30, 0x00]) s) s 1024 opAck = true ∧
    answers (exec (.croftWindowWrite 1024 1 1 0x201000 [1, 2]) s) s 1024 opAck = true) := by decide +kernel

theorem test_CroftWindowWrites_words :
    let s := meshed prep 1 .down
    (after (exec (.croftWindowWrite 1024 1 1 0x100020 [1, 2]) s) (fun t =>
      gets t 1024 opAck [] && t.mem == [] && t.croftByte 129 0x100020 == some 1 &&
      t.croftByte 129 0x100021 == some 2 && t.croftByte 129 0x100022 == prep.croftByte 129 0x100022) = true ∧
    after (exec (.croftWindowWrite 1024 1 1 0x200FFF [7]) s) (fun t =>
      t.croftByte 129 0x200FFF == some 7 && t.croftByte 129 0x200FFE == some 0) = true ∧
    answers (exec (.croftWindowWrite 1024 1 1 0x100000 [1, 2]) (meshed run 1 .down)) (meshed run 1 .down) 1024 opAck
      = true) := by decide +kernel

/-- Croft 129 with every larder bank ACTIVE. -/
def larders (s : State) (mode : Nat) : State := (meshed s mode .down).setObj 0x3120 2 0xAA

theorem test_LarderAccessesAndTimers_at_once :
    larderSize 8 = true ∧
    (larders run 0).bankModeNow 129 3 = 2 ∧
    (larders run 0).larderContended 129 = false ∧
    (larders run 1).larderContended 129 = true ∧
    (larders run 0).bankModeNow 130 0 = 0 ∧
    (larders run 0).reaches 1024 (.croft 129 0x3FFF8) 8 = true ∧
    (larders run 1).reaches 1024 (.croft 129 0) 1 = true ∧
    (larders run 0).bankIdle 129 3 = true ∧
    (larders run 1).bankIdle 129 0 = false ∧
    ((larders run 0).test 1).running = false ∧
    answers (exec (.nonBpLarderAccess 1024 1 1 0x3FFF8 (.read 8)) (larders run 0)) ((larders run 0).useBank 129 3) 1024
      opData (List.replicate 8 0) = true ∧
    (larders run 0).reaches 1024 (.croft 129 0x3FFF4) 8 = true ∧
    after (exec (.nonBpLarderAccess 1024 1 1 0x3FFF4 (.read 8)) (larders run 0)) (fun t =>
      (t.croft 129).waiters.map (fun w => (w.asker.init, w.rank, w.off, w.left, w.got)) ==
        [(1024, rankOf 1024, 0x3FFF8, 4, [0, 0, 0, 0])] && (t.croft 129).used == 8) = true ∧
    after (exec (.nonBpLarderAccess 1024 1 1 0x3FFFE (.write [5, 6])) (larders run 0)) (fun t =>
      gets t 1024 opAck [] && t.byte (croftBase 129 + 0x3FFFE) == 5 &&
      t.byte (croftBase 129 + 0x3FFFF) == 6 && t.mem.length == 2) = true ∧
    answers (exec (.nonBpLarderAccess 1024 1 1 0x3FFF8 (.read 16)) (larders run 0)) (larders run 0) 1024 opDecode
      = true ∧
    answers (exec (.nonBpLarderAccess 1024 1 1 0x40000 (.write [1])) (larders run 0)) (larders run 0) 1024 opDecode
      = true ∧
    answers (exec (.nonBpLarderAccess 1024 1 2 0 (.read 1)) (larders run 0)) (larders run 0) 1024 opNotPowered = true ∧
    after (exec (.nonBpLarderAccess 1024 1 1 0 (.read 1)) (larders run 1)) (fun t =>
      (t.croft 129).waiters.map (fun w => (w.asker.init, w.rank, w.write, w.off, w.left, w.waited)) ==
        [(1024, rankOf 1024, false, 0, 1, 0)]) = true := by decide +kernel

theorem test_LarderAccessesAndTimers_shuttered :
    let s := { larders run 0 with opn := { OpnRec.rest with shuts := [⟨129, 2, 0⟩] } }
    (s.targetShut 129 = true ∧
    s.hasBuffer 129 1024 = false ∧
    answers (exec (.nonBpLarderAccess 1024 1 1 0 (.read 1)) s) s 1024 opShuttered = true) := by decide +kernel

/-- A read of one byte at bank 1 that has waited `n` strokes, for a core whose transaction 9 it is. -/
def lateRead (n : Nat) : Waiter :=
  ⟨{ Asker.plain 1024 with tag := 9 }, rankOf 1024, false, false, 0x10000, 1, [], [], n, false⟩

theorem test_LarderAccessesAndTimers_timers :
    let s := larders run 1
    let asks := { s with opn := { s.opn with trans := [⟨1024, 9, 129, 5, false, false, .access 1 2 false⟩] } }
    let waits := asks.setCroft 129 { s.croft 129 with waiters := [lateRead 4095, lateRead 4096] }
    let s1 := sheeted (run.setObj 0x3120 2 4) 0 .down false
    let s2 := { s1 with opn := { s1.opn with trans := [⟨1024, 9, 129, 5, false, false, .access 1 2 false⟩] } }
    let asleep := s2.setCroft 129 { s1.croft 129 with held := [(1, lateRead 0)] }
    let awake := s.setCroft 129 { s.croft 129 with woken := 2 }
    (after (exec (.bankBusyTimeout 1 1 1) waits) (fun t => gets t 1024 opBusy [] &&
      (t.croft 129).waiters == [lateRead 4095] && t.obj 0x3125 2 == 1) = true ∧
    asleep.bankModeNow 129 1 = 1 ∧
    after (exec (.bankWake 1 1 1) asleep) (fun t => (t.croft 129).woken == 2 && (t.croft 129).held == [] &&
      gets t 1024 opData [0]) = true ∧
    leads (exec (.bankRetainTimeout 1 1 1) awake) s = true) := by decide +kernel

/-- Error patterns of one flipped bit, and of two, at word address `w`. -/
def flipped (s : State) (w : Nat) : State := s.setErr w 2
def spoiled (s : State) (w : Nat) : State := s.setErr w 3

theorem test_ScrubsOfEveryStore_larder :
    let a := croftBase 129 / 8 + 32767
    let s := (larders run 0).setObj 0x3126 1 1
    (s.bankModeNow 129 3 = 2 ∧
    s.obj 0x3126 1 ≠ 0 ∧
    s.readEcc a = .clean 0 ∧
    (flipped s a).readEcc a = .corrected 0 ∧
    (spoiled s a).readEcc a = .bad ∧
    leads (exec (.larderScrubVisit 1 1 5) ((larders run 1).setObj 0x3126 1 1)) (((larders run 1).setObj 0x3126 1 1).setCroft
      129 { (larders run 1).croft 129 with waiters := [scrubWaiter 129 5] }) = true ∧
    s.bankIdle 129 3 = true ∧
    (larders run 1).bankIdle 129 0 = false ∧
    leads (exec (.larderScrubVisit 1 1 32767) s) ((s.useBank 129 3).countAnswer (scrubAsker 129) opData) = true ∧
    leads (exec (.larderScrubVisit 1 1 32767) (flipped s a))
      (((s.useBank 129 3).bump 0x3123 2).countAnswer (scrubAsker 129) opData) = true ∧
    leads (exec (.larderScrubVisit 1 1 32767) (spoiled s a)) (((((spoiled s a).useBank 129 3).bump 0x3124 2).fire 129
      3).countAnswer (scrubAsker 129) opUncorrectable) = true) := by decide +kernel

theorem test_ScrubsOfEveryStore_cellar_and_scratchpad :
    let a := cellarWords + 3221225471
    let b := scratchBase / 8 + 1048575
    let s := prep.setObj 0x3810 1 2
    (s.obj (cObj 1) 1 = 2 ∧
    s.granted 1145 = true ∧
    s.obj 0x5320 3 = 1000 ∧
    leads (exec (.cellarPatrolScrub 1 3221225471) s) s = true ∧
    leads (exec (.cellarPatrolScrub 1 3221225471) (flipped s a)) (s.bump 0x3810 5) = true ∧
    leads (exec (.cellarPatrolScrub 1 3221225471) (spoiled s a)) (((spoiled s a).bump 0x3810 6).fire 1065 0) = true ∧
    leads (exec (.scratchpadScrubVisit 1048575) s) s = true ∧
    leads (exec (.scratchpadScrubVisit 1048575) (flipped s b)) (s.bump 0x5320 1) = true ∧
    leads (exec (.scratchpadScrubVisit 1048575) (spoiled s b)) (((spoiled s b).bump 0x5320 2).fire 1348 0) = true) := by
  decide +kernel

/-- Croft 129 whose word 0 of BP 63 is cared for and holds the NOP word with the bits of `e` flipped. -/
def caredWord (e : BitVec 80) : State :=
  let s := sheeted lockstep 1 .down false
  { s.setCroft 129 ((s.croft 129).setWord 63 0 (nopWord ^^^ e)) with
    load := { LoadRec.rest with care := [(129, 1 <<< (63 * 1024))] } }

theorem test_ScrubsOfEveryStore_instruction :
    let place := 129 <<< 2 + 63 <<< 13 + 0 <<< 19
    ((caredWord 0).clocked = true ∧
    (caredWord 0).obj 0x2306 1 = 100 ∧
    (caredWord 0).wordCared 129 63 0 = true ∧
    (caredWord 0).wordCared 129 63 1 = false ∧
    decodeWord (((caredWord 0).croft 129).word 63 0) = .clean 16 ∧
    decodeWord (((caredWord 1).croft 129).word 63 0) = .corrected 16 ∧
    decodeWord (((caredWord 3).croft 129).word 63 0) = .bad ∧
    leads (exec (.instructionScrub 1 1 63 0) (caredWord 0)) (caredWord 0) = true ∧
    leads (exec (.instructionScrub 1 1 63 0) (caredWord 1))
      ((((caredWord 0).bump 0x2306 3).setObj 0x2306 6 place).fire 1358 3) = true ∧
    leads (exec (.instructionScrub 1 1 63 0) (caredWord 3))
      ((((caredWord 3).bump 0x2306 4).setObj 0x2306 6 (2 + place)).fire 1358 4) = true ∧
    leads (exec (.instructionScrub 1 1 63 0) { caredWord 1 with load := .rest })
      ({ caredWord 0 with load := .rest }.bump 0x2306 5) = true) := by decide +kernel

/-- Region 2 configured, with a HEDGEROW_BASE record behind it so that each of its frames is cared for. -/
def fabric (s : State) : State :=
  s.setRegion 2 { RegionRec.blank with configured := true, base := true }

theorem test_ScrubsOfEveryStore_frame :
    let a := hedgeBase 2 / 8 + 16 * 4159 + 15
    let s := fabric run
    ((s.region 2).configured = true ∧
    (s.region 2).sheet = .down ∧
    s.obj 0x2306 2 = 100 ∧
    s.frameCared 2 4159 = true ∧
    (upFrom 0 16).all (fun w => s.readEcc (hedgeBase 2 / 8 + 16 * 4159 + w) == .clean 0) = true ∧
    (flipped s a).readEcc a = .corrected 0 ∧
    (spoiled s a).readEcc a = .bad ∧
    leads (exec (.hedgerowScrub 2 4159) s) s = true ∧
    after (exec (.hedgerowScrub 2 4159) (flipped s a)) (fun t => t.word a == 0 && t.err a == 0 &&
      t.obj 0x2306 3 == 1) = true ∧
    after (exec (.hedgerowScrub 2 4159) (spoiled s a)) (fun t => t.err a == 3 && t.obj 0x2306 4 == 1) = true) := by
  decide +kernel

theorem test_RepairsAndRemap_larder :
    let none' : BitVec 64 := 0
    let rec1 : BitVec 64 := 0x1000000000000000 + 128 <<< 49
    (prep.reachedBy .ring = true ∧
    repairAccepted [] [] none' = true ∧
    prep.repairNow none' = true ∧
    repairType rec1 = 1 ∧
    repairAccepted [] [] rec1 = true ∧
    prep.repairNow rec1 = true ∧
    leads (exec (.applyRepairRecord .ring none') prep) prep = true ∧
    leads (exec (.applyRepairRecord .ring rec1) prep) { prep with softRepairs := [rec1] } = true) := by decide +kernel

theorem test_RepairsAndRemap_copied :
    let rec1 : BitVec 64 := 0x1000000000000000 + 1 <<< 57 + 1 <<< 49 + 3 <<< 47
    let a := croftBase 129 / 8 + 3 * 8192 + 8191
    (prep.repairNow rec1 = true ∧
    repairAccepted [] [] rec1 = true ∧
    prep.logicalCroft (bits rec1.toNat 57 3) (bits rec1.toNat 49 8) = some 129 ∧
    (flipped prep a).readEcc a = .corrected 0 ∧
    after (exec (.applyRepairRecord .ring rec1) (flipped prep a)) (fun t => t.softRepairs == [rec1] && t.errs == [] &&
      t.mem == [] && t.obj 0x3123 2 == 1) = true) := by decide +kernel

theorem test_BackgroundTests_commands :
    let s := (larders prep 0).setObj 0x3127 1 (1 + 3 <<< 7)
    let t : TestEng := { TestEng.rest with running := true, unit := 7, saved := List.replicate 64 (0, 0) }
    (s.reachedBy .ring = true ∧
    s.bankModeNow 129 3 = 2 ∧
    s.bankFree 129 3 = true ∧
    leads (exec (.larderTestStart .ring 1) s) ((s.setTest 1 t).setObj 0x3127 3 1) = true ∧
    leads (exec (.larderTestStart .ring 1) (s.setTest 1 { t with block := 9, unit := 3 }))
      ((s.setTest 1 t).setObj 0x3127 3 1) = true ∧
    leads (exec (.larderTestStop .ring 1) (s.setTest 1 t)) (s.setTest 1 { t with stopping := true }) = true ∧
    leads (exec (.scratchpadTestStart .ring) (s.setObj 0x5320 4 15))
      (((s.setObj 0x5320 4 15).setTest 8 { t with unit := 15 }).setObj 0x5320 6 1) = true ∧
    leads (exec (.scratchpadTestStop .ring) (s.setTest 8 t)) (s.setTest 8 { t with stopping := true }) = true) := by
  decide +kernel

/-- A test of bank 3 of croft 129 in its block `b`, whose words were saved as zeros. -/
def testing (b yields : Nat) (stopping yielded : Bool) (held : List (Nat × Waiter)) : State :=
  let s := larders prep 0
  s.setTest 1 ⟨true, 7, b, List.replicate 64 (0, 0), yields, yielded, stopping, 0, false, held⟩

theorem test_BackgroundTests_blocks :
    let w : Waiter := { lateRead 0 with off := 0x30000 }
    (leads (exec (.testBlockDone (.larder 1) []) (testing 5 0 true false []))
      (((testing 5 0 true false []).setTest 1 .rest).setObj 0x3127 3 0) = true ∧
    leads (exec (.testBlockDone (.larder 1) []) (testing 126 0 false false [])) (testing 127 0 false false []) = true ∧
    leads (exec (.testBlockDone (.larder 1) []) (testing 127 0 false false []))
      (((testing 127 0 false false []).setTest 1 .rest).setObj 0x3127 3 2) = true ∧
    after (exec (.testBlockDone (.larder 1) [⟨63, 71⟩]) (testing 126 0 false false [])) (fun v =>
      v.obj 0x3127 4 == 1 + 3 <<< 8 + (126 * 64 + 63) <<< 10 + 71 <<< 23) = true ∧
    after (exec (.testBlockYield (.larder 1)) (testing 5 2 false false [(129, w)])) (fun v =>
      v.test 1 == { (testing 5 3 false true []).test 1 with yields := 3 }) = true ∧
    after (exec (.testBlockYield (.larder 1)) (testing 5 3 false false [(129, w)])) (fun v =>
      (v.test 1).block == 6 && (v.test 1).skipped == 1) = true ∧
    leads (exec (.testBlockResume (.larder 1)) (testing 5 3 false true [])) (testing 5 3 false false []) = true) := by
  decide +kernel

/-- Cellar 0 with one binding whose request `op` of word 4 has arrived; word 4 holds 9. -/
def cellarAsked (op : BitVec 4) (rd wr : Bool) (regions : List (Nat × Nat)) : State :=
  { lockstep.setCellar 0 { CellarRec.blank with
      bindings := [⟨rd, wr, false, 5, 100, 1⟩], regions := regions, ready := [0], rx := [(0, op), (1, 4), (10, 7)] } with
    mem := [(32, 9)] }

theorem test_CellarTraffic_requests :
    let c := fun (s : State) => s.cellar 0
    let q := (c (cellarAsked 1 true false [(4, 1)])).request 0 false
    let known := BitVec.ofNat 64 (2 ^ 64 - 1)
    (q.known = true ∧
    q.op = 1 ∧
    q.word = 4 ∧
    wordAllowed [(4, 1)] 1 q.word = true ∧
    wordAllowed [(5, 1)] 1 q.word = false ∧
    (cellarAsked 1 true false [(4, 1)]).readEcc 4 = .clean 9 ∧
    after (exec (.cellarRequest 0 0 false) (cellarAsked 1 true false [(4, 1)])) (fun t => t.mem == [(32, 9)] &&
      (c t).ready == [] && (c t).log == [⟨0, 7, 100, 7, some 4, false, 9, known⟩]) = true ∧
    after (exec (.cellarRequest 0 0 false) (cellarAsked 2 false true [(4, 1)])) (fun t => t.mem == [(32, 9)] &&
      (c t).pend == [⟨4, BitVec.allOnes 16, 7, 7, 100, 5, false⟩]) = true ∧
    after (exec (.cellarRequest 0 0 false) (cellarAsked 1 true false [(5, 1)])) (fun t => t.mem == [(32, 9)] &&
      (c t).pend == [] && t.obj 0x3800 8 == 1 && (c t).log == [⟨0, 7, 100, 7, none, false, 0, 0⟩]) = true) := by
  decide +kernel

/-- Cellar 0 with an X-mode binding whose read of the pair of word 4 has arrived: each nibble of the address is given
with its known rail. The pair stands in words 8 and 9. -/
def pairAsked (absent : List Nat) : State :=
  { lockstep.setCellar 0 { CellarRec.blank with
      bindings := [⟨true, false, true, 5, 100, 2⟩], regions := [(8, 2)], ready := [0], absent := absent,
      rx := [(0, 1), (1, 15), (2, 4), (3, 15), (5, 15), (7, 15), (9, 15), (11, 15), (13, 15), (15, 15), (17, 15),
        (19, 15)] } with
    mem := [(64, 9), (72, 5)] }

theorem test_CellarTraffic_pairs :
    let c := fun (s : State) => s.cellar 0
    let q := (c (pairAsked [])).request 0 true
    (q.known = true ∧
    q.op = 1 ∧
    wordAllowed [(8, 2)] 2 (2 * q.word) = true ∧
    wordAllowed [(8, 2)] 2 (2 * q.word + 1) = true ∧
    (pairAsked []).readEcc 8 = .clean 9 ∧
    (pairAsked []).readEcc 9 = .clean 5 ∧
    after (exec (.cellarRequest 0 0 false) (pairAsked [])) (fun t => t.mem == [(64, 9), (72, 5)] &&
      (c t).ready == [] && (c t).log == [⟨0, 7, 100, 7, some 8, true, 9, 5⟩]) = true ∧
    after (exec (.cellarRequest 0 0 false) (pairAsked [0])) (fun t => t.mem == [(64, 9), (72, 5)] &&
      t.objs == (pairAsked [0]).objs && (c t).log == [⟨0, 7, 100, 7, none, true, 0, 0⟩]) = true) := by decide +kernel

theorem test_CellarTraffic_returns :
    let s := fun (log : List CReturn) => lockstep.setCellar 0 { CellarRec.blank with
      bindings := [⟨true, false, false, 5, 100, 1⟩], slots := [⟨0, 5, true, 7, 3, 0, 0, 0x0F⟩], log := log }
    ((s []).phase = .rota 5 ∧
    (s []).bankNow = 0 ∧
    after (exec (.cellarReturn 0 0) (s [⟨0, 6, 100, 7, some 4, false, 0x54321, 0⟩])) (fun t =>
      t.opn.agentOut == [(31, 0x4321)]) = true ∧
    after (exec (.cellarReturn 0 0) (s [⟨0, 6, 100, 8, some 4, false, 0x54321, 0⟩])) (fun t =>
      t.opn.agentOut == [(31, 0)]) = true) := by decide +kernel

theorem test_CellarUpkeep :
    let owed := fun (n : Nat) => run.setCellar 1 { CellarRec.blank with debt := n * roundStrokes run.strokeClock }
    (leads (exec (.cellarTemperatureRead 1 105) run) ((run.setObj 0x3810 2 105).setObj 0x3810 3 2) = true ∧
    leads (exec (.cellarTemperatureRead 1 106) run)
      (((run.setObj 0x3810 2 106).setObj 0x3810 3 2).fire 1065 3) = true ∧
    (owed 4).roundsOwed 1 = 4 ∧
    after (exec (.refreshFallowRequest 1) (owed 4)) (fun t => (t.cellar 1).asked && t.obj 0x3810 4 == 1 &&
      t.bell.refresh == some 9 && t.bell.fouls == []) = true ∧
    after (exec (.refreshFallowRequest 1) (run.setCellar 1 { CellarRec.blank with asked := true })) (fun t =>
      t == run.setCellar 1 { CellarRec.blank with asked := true }) = true ∧
    after (exec (.forcedRefresh 1) (owed 8)) (fun t => (t.cellar 1).forced && t.obj 0x3810 4 == 1 &&
      t.bell.refresh == some 9 && t.bell.fouls == [9]) = true ∧
    after (exec (.cellarReady 1) { prep.setObj 0x3810 1 1 with mem := [(7, 1), (cellarBytes, 2), (2 * cellarBytes, 3)] })
      (fun t => t.obj 0x3810 1 == 2 && t.mem == [(7, 1), (2 * cellarBytes, 3)]) = true) := by decide +kernel

theorem test_UpsetFlipsOneBit :
    (after (exec (.upset (.instruction 7 127 63 1023 79)) prep) (fun t =>
      (t.croft 1023).word 63 1023 == nopWord ^^^ (1#80 <<< 79)) = true) ∧
    leads (exec (.upset (.larder 7 127 32767 71)) prep) (prep.setErr (croftBase 1023 / 8 + 32767) (1#72 <<< 71)) = true ∧
    leads (exec (.upset (.cellar 3 3221225471 0)) prep) (prep.setErr (4 * cellarWords - 1) 1) = true ∧
    leads (exec (.upset (.scratchpad 1048575 3)) prep) (prep.setErr (scratchBase / 8 + 1048575) 8) = true ∧
    after (exec (.upset (.frame 11 4159 15 0)) prep) (fun t => t.mem == [] &&
      t.errs == [(hedgeBase 11 / 8 + 16 * 4159 + 15, 1)]) = true := by decide +kernel

theorem test_RepairsAndRemap_croft :
    let s := { (prep.setObj 0x2307 1 129).setObj 0x2307 2 131 with mem := [(croftBase 129, 1), (croftBase 130, 2)] }
    (s.reachedBy .ring = true ∧
    (s.croft 129).mode = 0 ∧
    s.logicalCroft 1 131 = none ∧
    leads (exec (.croftRemap .ring) s) ({ s with remap := some (129, 131) }.setObj 0x2307 4 1) = true ∧
    after (exec .remapComplete { s with remap := some (129, 131) }) (fun t => t.remap == none && t.obj 0x2307 4 == 2 &&
      t.physCroft 129 == 131 && t.mem == [(croftBase 130, 2)]) = true) := by decide +kernel

theorem test_RepairsAndRemap_stack :
    repairAccepted prep.fuse.repairs prep.softRepairs 0x2000000000000000#64 = true ∧
    prep.repairNow 0x2000000000000000#64 = true := by
  have h : repairType 2305843009213693952#64 = 2 := by decide
  simp [repairAccepted, repairFields, State.repairNow, h, bits, prep, State.reset]

/-- Initiator 1,024 at the configuration window (target 1,034) and at cellar 0 with reservation `r`; cellar 0 READY. -/
def reserved (r : Rsv) : State :=
  ((prep.setRsv 1034 1024 r).setRsv 1024 1024 r).setObj 0x3800 1 2

/-- A request flit with its parity (R169): CLS, OP, DEST, SRC 1,024, TAG 5, SIZE and ADDR. -/
def req (cls : BitVec 2) (op : BitVec 4) (dest : BitVec 11) (size : BitVec 3) (addr : BitVec 37) : ReqFlit :=
  let f : ReqFlit := ⟨cls, op, dest, 1024, 5, size, addr, 0⟩
  { f with par := BitVec.ofNat 4 (nibbleParity (reqWord f).toNat 20) }

/-- A flit of write data with its CRC (R170): beat `beat` of tag 5, byte enables and data. -/
def beat (dest : BitVec 11) (beat : BitVec 3) (last : Bool) (be : BitVec 8) (data : BitVec 64) : DataFlit :=
  let f : DataFlit := ⟨0, 1, 0, dest, 1024, 5, beat, last, be, data⟩
  { f with crc := BitVec.ofNat 8 (crc8 ((dataWord f).toNat % 2 ^ 136)) }

/-- The operands of the rows that present a flit, and those rows. -/
def ReqFlit.ask (f : ReqFlit) : ReqAsk := ⟨f.cls, f.op, f.size, f.addr, f.par⟩
def DataFlit.part (f : DataFlit) : DataBeat := ⟨f.crc, f.cls, f.kind, f.beat, f.last, f.be, f.data⟩
def rsvRow (tgt : Target) (f : ReqFlit) : Instr := .rsv tgt f.src f.tag (ReqFlit.ask f)
def releaseRow (tgt : Target) (f : ReqFlit) : Instr := .release tgt (f.src, f.tag) (ReqFlit.ask f)
def readRow (f : ReqFlit) (fate : Fate := .arrives) : Instr := .packetRead f.src f.tag f.dest (ReqFlit.ask f) 8 fate
def writeRow (f : ReqFlit) (flits : List WriteFlit) : Instr := .packetWrite f.src f.tag f.dest flits 8 .arrives
def snoopRow (inv : Bool) (f : SnoopFlit) : Instr :=
  if inv then .invalidate f.op f.core ⟨f.home, f.line, f.par⟩ else .invAck f.op f.core ⟨f.home, f.line, f.par⟩

/-- A snoop flit with its parity (R179). -/
def snooped (op : BitVec 3) (core : BitVec 4) (home : BitVec 11) (line : BitVec 29) : SnoopFlit :=
  let f : SnoopFlit := ⟨op, core, home, line, 0⟩
  { f with par := if parity 48 (snoopWord f).toNat then 1 else 0 }

theorem test_ResponseBuffers_rsv :
    let s := meshed prep 1 .down
    let f := req 3 1 (targetDest (.croft 1 1)) 3 0
    let bad := { f with par := f.par ^^^ 1 }
    let held := { s with opn := { s.opn with bHeld := true } }
    (reqGood f = true ∧
    reqGood bad = false ∧
    packetInit 1024 = true ∧
    reservedInit 1024 = false ∧
    s.classHeld 2 = false ∧
    s.targetShut 129 = false ∧
    s.pathShut 1024 129 = false ∧
    (s.setShut 129 1).targetShut 129 = true ∧
    s.tagRests 1024 5 = false ∧
    leads (exec (rsvRow (.croft 1 1) f) s) { s with opn := { s.opn with
      rsvs := [(129 * 2048 + 1024, ⟨0, 0, 0, 4, 2, 0, 5, false⟩)], rsvOrder := 1, trans := [.ask 1024 5 129] } } = true ∧
    leads (exec (rsvRow (.croft 1 1) (req 3 1 (targetDest (.croft 1 1)) 4 0)) s)
      ((s.openTrans (.ask 1024 5 129)).bump 0x4800 3) = true ∧
    held.classHeld 2 = true ∧
    leads (exec (rsvRow (.croft 1 1) f) held) held = true ∧
    leads (exec (releaseRow (.croft 1 1) (req 3 2 (targetDest (.croft 1 1)) 0 0)) held) held = true ∧
    leads (exec (releaseRow (.croft 1 1) (req 3 2 (targetDest (.croft 1 1)) 0 0)) (s.setShut 129 1))
      ((s.setShut 129 1).bump 0x4800 5) = true ∧
    leads (exec (rsvRow (.croft 1 1) (req 0 1 (targetDest (.croft 1 1)) 0 0)) s) (s.bump 0x4800 3) = true ∧
    leads (exec (rsvRow (.croft 1 1) bad) s) ((s.bump 0x4800 2).fire (1024 + finder (targetDest (.croft 1 1))) 2) = true ∧
    after (exec (rsvRow (.croft 1 1) f) (s.setShut 129 1)) (fun t => gets t 1024 opShuttered [] &&
      t.obj 0x4800 5 == 1 && t.opn.rsvs == []) = true) := by decide +kernel

theorem test_ResponseBuffers_grant :
    let asks := fun (cls : Nat) => (reserved ⟨0, 1, 0, 3, cls, 5, 9, false⟩).openTrans (.ask 1024 9 1034)
    ((asks 0).opn.rsvs.all (fun e => e.1 / 2048 != 1034 || e.2.want == 0 || e.1 % 2048 == 1024) = true ∧
    (asks 0).greenOn = true ∧
    (asks 0).poolsHeld 1034 = (0, 1) ∧
    targetPool 1034 = (64, 8) ∧
    (asks 0).wayShut 1024 1024 = false ∧
    (asks 0).waitsFor 1034 1024 = false ∧
    (asks 0).opn.trans.find? (fun x => x.init == 1024 && x.tag == 9 && x.kind == .rsv) = some (.ask 1024 9 1034) ∧
    leads (exec (.grant .config 1024 ⟨17, .arrives⟩) (asks 0))
      ((reserved ⟨0, 1, 0, 3, 0, 5, 9, false⟩).setRsv 1034 1024 ⟨3, 1, 0, 0, 0, 5, 9, false⟩ |>.bump 0x4880 6 17) = true ∧
    leads (exec (.grant .config 1024 ⟨17, .arrives⟩) (asks 2))
      ((reserved ⟨0, 1, 0, 3, 2, 5, 9, false⟩).setRsv 1034 1024 ⟨0, 4, 0, 0, 2, 5, 9, false⟩ |>.bump 0x4880 6 17) = true ∧
    after (exec (.grant .config 1024 ⟨17, ⟨2, [1]⟩⟩) (asks 2)) (fun t => t.obj 0x4800 2 == 1 && t.obj 0x4880 6 == 0 &&
      t.opn.trans == [.ask 1024 9 1034]) = true ∧
    leads (exec (releaseRow .config (req 3 2 1024 1 0)) (reserved ⟨2, 2, 1, 0, 0, 5, 9, false⟩))
      ((reserved ⟨2, 2, 1, 0, 0, 5, 9, false⟩).setRsv 1034 1024 ⟨2, 0, 1, 0, 0, 5, 9, false⟩) = true ∧
    leads (exec (releaseRow .config (req 3 2 1024 3 0)) (reserved ⟨2, 2, 1, 0, 0, 5, 9, false⟩))
      ((reserved ⟨2, 2, 1, 0, 0, 5, 9, false⟩).bump 0x4800 3) = true) := by decide +kernel

theorem test_ResponseBuffers_parked :
    let p : Parked := ⟨{ Asker.plain 1024 with home := 1035, cls := 2 }, .config 0x2000000, .read 8⟩
    let s0 := reserved ⟨0, 0, 0, 1, 2, 5, 9, false⟩
    let s := { s0 with opn := { s0.opn with parked := [p], trans := [.ask 1024 9 1034] } }
    (s.waitsFor 1034 1024 = true ∧
    s.classHeld 2 = false ∧
    after (exec (.grant .config 1024 ⟨17, .arrives⟩) s) (fun t => t.opn.parked == [] && t.mem == [] &&
      gets t 1024 opData (List.replicate 8 0)) = true) := by decide +kernel

theorem test_PacketsReadAndWrite_read :
    let r : Rsv := ⟨0, 2, 0, 0, 0, 0, 0, false⟩
    let s := { reserved r with mem := [(32, 9)] }
    let fc := req 1 3 1024 3 0x1F82000000
    let fm := req 1 3 1024 3 32
    let none' := req 1 3 1024 3 0x1800000000
    (reqGood fc = true ∧
    s.classHeld 0 = false ∧
    s.tagRests 1024 5 = false ∧
    s.opn.trans = [] ∧
    flitPlace none' = none ∧
    flitPlace fc = some (.config 0x2000000) ∧
    flitPlace fm = some (.cellar 32) ∧
    s.listed 8 (.config 0x2000000) = true ∧
    s.targetShut 1034 = false ∧
    s.pathShut 1024 1034 = false ∧
    s.hasBuffer 1034 1024 = true ∧
    s.gate (.config 0x2000000) = 0 ∧
    s.gate (.cellar cellarBytes) = opNotPowered ∧
    packetSize 32 8 = true ∧
    answers (exec (readRow none') s) s 1024 opDecode = true ∧
    answers (exec (readRow fc) s) s 1024 opData (List.replicate 8 0) = true ∧
    after (exec (readRow fc) s) (fun t => t.rsv 1034 1024 == { r.drop 0 with busy := 0 }) = true ∧
    answers (exec (readRow fm) s) s 1024 opData [9, 0, 0, 0, 0, 0, 0, 0] = true ∧
    after (exec (readRow fm) s) (fun t => t.rsv 1024 1024 == { r.drop 0 with busy := 0 }) = true) := by
  decide +kernel

theorem test_PacketsReadAndWrite_turned_away :
    let r : Rsv := ⟨0, 2, 0, 0, 0, 0, 0, false⟩
    let s := { reserved r with mem := [(32, 9)] }
    let fm := req 1 3 1024 3 32
    let bad := { fm with par := fm.par ^^^ 1 }
    (after (exec (readRow fm) (s.setObj 0x3800 1 0)) (fun t =>
      gets t 1024 opNotPowered [] && t.mem == s.mem && t.rsv 1024 1024 == { r.drop 0 with busy := 0 }) = true ∧
    (s.setShut 4096 1).pathShut 1024 0 = true ∧
    after (exec (readRow (req 1 3 0 3 32)) (s.setShut 4096 1)) (fun t =>
      gets t 1024 opShuttered [] && t.obj 0x4800 5 == 1) = true ∧
    after (exec (readRow fm) (prep.setObj 0x3800 1 2)) (fun t => t.obj 0x4800 3 == 1 &&
      t.answer == prep.answer) = true ∧
    leads (exec (readRow bad) s) ((s.bump 0x4800 2).fire 1024 2) = true ∧
    after (exec (readRow fm ⟨2, [0]⟩) s) (fun t => gets t 1024 opData [9, 0, 0, 0, 0, 0, 0, 0]) = true ∧
    after (exec (readRow fm ⟨2, [1]⟩) s) (fun t => t.obj 0x4800 2 == 1 && t.answer == s.answer &&
      t.opn.trans.length == 1) = true) := by decide +kernel

theorem test_PacketsReadAndWrite_write :
    let r : Rsv := ⟨0, 2, 0, 0, 0, 0, 0, false⟩
    let s := { reserved r with mem := [(32, 9), (33, 8), (34, 7)] }
    let f := req 1 4 1024 1 32
    let d := beat 1024 0 true 1 0x0201
    let cached := s.setCellar 0 { CellarRec.blank with snoop := [(0, 3), (1, 2)] }
    (reqGood f = true ∧
    dataGood d = true ∧
    [d].map (fun d => d.beat.toNat) = upFrom 0 (beatCount 32 2) ∧
    (upFrom 0 2).map (fun j => beatByte 32 j [d]) = [(1, true), (2, false)] ∧
    holdersIn (cached.cellar 0).snoop 32 2 1024 = [(0, 3)] ∧
    answers (exec (writeRow f [.request (ReqFlit.ask (req 1 4 1024 1 0x1800000000))]) s) s 1024 opDecode = true ∧
    after (exec (writeRow f [.request (ReqFlit.ask f)]) s) (fun t => t.mem == s.mem && t.answer == s.answer &&
      t.opn.halves.map (fun x => (x.src, x.tag, x.req.map (·.1), x.beats)) == [(1024, 5, some f, [])]) = true ∧
    after (exec (writeRow f [.request (ReqFlit.ask f), .data (DataFlit.part d)]) s) (fun t => gets t 1024 opAck [] &&
      t.mem == [(32, 1), (33, 8), (34, 7)] && t.rsv 1024 1024 == { r.drop 0 with busy := 0 }) = true ∧
    after (exec (writeRow f [.data (DataFlit.part d), .request (ReqFlit.ask f)]) s) (fun t => gets t 1024 opAck [] &&
      t.mem == [(32, 1), (33, 8), (34, 7)] && t.opn.halves == []) = true ∧
    after (exec (writeRow f [.request (ReqFlit.ask f), .data (DataFlit.part d)]) cached) (fun t => t.mem == s.mem &&
      t.heldWrites.map (fun h => (h.home, h.addr, h.acc, h.waits)) ==
        [(1024, 32, .write [(1, true), (2, false)], [(0, 3)])]) = true ∧
    leads (exec (writeRow f [.data (DataFlit.part { d with be := 3 })]) s) ((s.bump 0x4800 2).fire 1024 2) = true) := by
  decide +kernel

theorem test_LostTransactions :
    let r : Rsv := ⟨0, 2, 1, 0, 0, 0, 0, false⟩
    let o : Trans := ⟨1024, 5, 1034, 4096, true, false, .access 8 2 false⟩
    let a : Trans := ⟨1024, 5, 1034, 4096, false, false, .rsv⟩
    let p : Parked := ⟨{ Asker.plain 1024 with home := 1035, cls := 2 }, .config 0x2000000, .read 8⟩
    let s := (reserved r).setObj 0x4800 4 4096
    let waits := { s with opn := { s.opn with trans := [o] } }
    let asks := { s with opn := { s.opn with trans := [a], parked := [p] } }
    let asker : Asker := { Asker.plain 1024 with tag := 5, home := 1035, cls := 2, size := 2, write := true }
    let x : Half := ⟨1024, 5, 1024, some (req 3 4 1024 1 32, asker), [], 4096⟩
    let half := { s with opn := { s.opn with halves := [x] } }
    let lone := { s with opn := { s.opn with halves := [{ x with req := none }] } }
    let error := fun (u : State) (h : Hamlet) => (u.bump 0x4800 2).fire (1024 + h.val) 2
    (leads (exec (.packetCheckError 3 .data .config 1024 5) s) { error s 3 with
      opn := { s.opn with trans := [⟨1024, 5, 1034, 0, false, false, .access 0 2 false⟩] } } = true ∧
    leads (exec (.packetCheckError 3 .response .config 1024 5) waits) { error waits 3 with
      opn := { s.opn with trans := [{ o with spoiled := true }] } } = true ∧
    leads (exec (.packetCheckError 3 .request .config 1024 5) waits) (error waits 3) = true ∧
    leads (exec (.transactionTimeout 1024 5) s) s = true ∧
    after (exec (.transactionTimeout 1024 5) waits) (fun t => gets t 1024 0xF [] && t.opn.trans == [] &&
      t.opn.retired == [{ o with waited := 0 }] && t.rsv 1034 1024 == ⟨0, 1, 1, 0, 0, 0, 0, false⟩) = true ∧
    after (exec (.transactionTimeout 1024 5) asks) (fun t => gets t 1024 0xF [] && t.opn.trans == [] &&
      t.opn.parked == [] && t.opn.retired == [{ a with waited := 0 }]) = true ∧
    leads (exec (.unmatchedWriteTimeout .config 1024) lone) s = true ∧
    half.waitsFor 1034 1024 = false ∧
    leads (exec (.unmatchedWriteTimeout .config 1024) half) (s.setRsv 1034 1024 { r.drop 2 with busy := 0 }) = true ∧
    leads (exec (.unmatchedWriteTimeout .config 1024) s) s = true) := by decide +kernel

theorem test_CoherenceMessages :
    let s := (prep.setObj 0x3800 1 2).setCore 3 { CoreRec.rest with icache := [(7, [1])], dcache := [(7, [1]), (8, [2])] }
    let h : HeldAccess := ⟨{ Asker.plain 1024 with tag := 5 }, 1024, 448, .write [(5, true)], [(7, 2)]⟩
    let w := { s.setCellar 0 { CellarRec.blank with snoop := [(7, 2)] } with
      heldWrites := [h], opn := { s.opn with trans := [⟨1024, 5, 1024, 9, false, false, .access 1 2 true⟩] } }
    let two := { w with heldWrites := [{ h with waits := [(7, 2), (7, 4)] }] }
    let ack := snooped 2 2 1025 7
    let inv := snooped 1 3 1025 7
    (snoopGood inv = true ∧
    snoopGood ack = true ∧
    flitHome ack = some 1024 ∧
    flitHome (snooped 1 3 1029 7) = none ∧
    after (exec (snoopRow true inv) s) (fun t => (t.core 3).icache == [] && (t.core 3).dcache == [(8, [2])]) = true ∧
    leads (exec (snoopRow true (snooped 1 3 1029 7)) s) s = true ∧
    s.wayShut 1024 1024 = false ∧
    flitHome (snooped 1 3 (BitVec.ofNat 11 (nodeOf 129)) 7) = some 129 ∧
    s.wayShut (targetNode 129) 1024 = true ∧
    leads (exec (snoopRow true (snooped 1 3 (BitVec.ofNat 11 (nodeOf 129)) 7)) s) s = true ∧
    s.wayShut 1024 (targetNode 129) = true ∧
    leads (exec (snoopRow false (snooped 2 3 (BitVec.ofNat 11 (nodeOf 129)) 7)) s) s = true ∧
    leads (exec (snoopRow true (snooped 0 3 1025 7)) s) (s.bump 0x4800 3) = true ∧
    leads (exec (snoopRow true { inv with line := 6 }) s) ((s.bump 0x4800 2).fire 1024 2) = true ∧
    w.coreHolds 2 7 = false ∧
    after (exec (snoopRow false ack) (s.setCellar 0 { CellarRec.blank with snoop := [(7, 2), (7, 5)] }))
      (fun t => t.filterOf 1024 == [(7, 5)]) = true ∧
    after (exec (snoopRow false ack) two) (fun t => t.heldWrites == [{ h with waits := [(7, 4)] }]) = true ∧
    after (exec (snoopRow false ack) w) (fun t => t.heldWrites == [] && gets t 1024 opAck [] && t.filterOf 1024 == [] &&
      t.byte 448 == 5) = true) := by decide +kernel

theorem test_ShuttersAndTableSwaps_shutters :
    let s := prep.setObj 0x4804 1 129
    let w : Waiter := lateRead 0
    let drains := (s.setCroft 129 { CroftRec.blank with waiters := [w] }).setShut 129 1
    let late := { drains with opn := { drains.opn with shuts := [⟨129, 1, 2048⟩] } }
    (s.reachedBy .ring = true ∧
    endpointExists 129 = true ∧
    s.mayShutter 129 = true ∧
    s.opn.treservations = [] ∧
    leads (exec (.shutter .ring) s) (s.setShut 129 1) = true ∧
    leads (exec (.shutter .ring) (s.setShut 129 2)) (s.setShut 129 2) = true ∧
    endpointExists 0x3FFF = false ∧
    leads (exec (.shutter .ring) (prep.setObj 0x4804 1 0x3FFF)) ((prep.setObj 0x4804 1 0x3FFF).bump 0x1010 0xB) = true ∧
    leads (exec (.unshutter .ring) s) s = true ∧
    leads (exec (.unshutter .ring) (s.setShut 129 2)) (s.setShut 129 3) = true ∧
    drains.outstanding 129 ≠ [] ∧
    after (exec (.shutterDrainEnd (.croft 1 1)) (s.setShut 129 1)) (fun t => t.shutState 129 == 2 &&
      t.objs == s.objs) = true ∧
    after (exec (.shutterDrainEnd (.croft 1 1)) late) (fun t => t.shutState 129 == 2 &&
      (t.croft 129).waiters == []) = true ∧
    s.endpointGood 129 = true ∧
    leads (exec (.unshutterOpen (.croft 1 1)) (s.setShut 129 3)) s = true) := by decide +kernel

theorem test_ShuttersAndTableSwaps_swaps :
    let ready := fun (s : State) => { s with opn := { s.opn with shadowOk := true } }
    let s := ready prep
    let r := ready (run.setObj 0x4801 3 9)
    let armed := fun (lower : Bool) (k : Nat) =>
      { r with opn := { r.opn with swapRota := k, swapArmed := true, swapLower := lower } }.setObj 0x4801 2 1
    (leads (exec (.swapArmAtRota .ring) s) { s with opn := { s.opn with active := 1, shadowOk := false } } = true ∧
    leads (exec (.swapArmAtRota .ring) r) (armed false 9) = true ∧
    leads (exec (.swapArmWithLower .ring) r) (armed true 0) = true ∧
    after (exec (.swapCancel .ring) (armed true 0)) (fun t => !t.opn.swapArmed && !t.opn.swapLower &&
      t.obj 0x4801 2 == 0) = true ∧
    after (exec .swapDrainStart { armed false 8 with phase := .rota 0 }) (fun t => !t.opn.swapArmed &&
      t.obj 0x4801 2 == 2) = true) := by decide +kernel

theorem test_NetworkObjects_reservations :
    let s := (((lockstep.setObj 0x2400 1 64).setObj 0x4803 1 1024).setObj 0x4803 2 3).setObj 0x4803 3 48
    let with' := fun (b : Nat) => { s with opn := { s.opn with treservations := [⟨1025, 3, b⟩] } }
    let fits := fun (st : State) (l : Nat × Nat) => decide (st.linkBudget l + 48 ≤ st.fewestOpen st.bankNow l.1 l.2)
    (s.reachedBy .ring = true ∧
    (packetPath (initNode 1024) 3).all (fits (with' 15)) = true ∧
    (packetPath (initNode 1024) 3).all (fits (with' 16)) = false ∧
    after (exec (.tApply .ring) (with' 15)) (fun t => t.opn.treservations == [⟨1025, 3, 15⟩, ⟨1024, 3, 48⟩] &&
      t.obj 0x4803 5 == 0) = true ∧
    leads (exec (.tApply .ring) (with' 16)) ((with' 16).setObj 0x4803 5 2) = true ∧
    after (exec (.tRemove .ring) { s with opn := { s.opn with treservations := [⟨1024, 3, 9⟩] } }) (fun t =>
      t.opn.treservations == []) = true) := by decide +kernel

theorem test_NetworkObjects_entries :
    let s := fun (k : Nat) => (((prep.setObj 0x4805 1 1023).setObj 0x4805 2 k).setObj 0x4805 3 1).setObj 0x4805 4 1023
    let key := tableKey 1 1023 1023
    (after (exec (.tableEntryWrite .ring false 0x123456) (s 5)) (fun t =>
      t.opn.routes == [(routeKey 1 1023 1023 5, 0x103456)]) = true ∧
    after (exec (.tableEntryWrite .ring false 0x123456) (s 6)) (fun t => t.opn.injects == [(key, 0x123456)]) = true ∧
    after (exec (.tableEntryWrite .ring true 0xFF) (s 7)) (fun t =>
      t.opn.ejects == [(key, 0x7F0000000000000000)]) = true ∧
    after (exec (.statisticsClear .ring 127) ((prep.setObj 0x48FF 0x17 5).setObj 0x48FE 0x17 6)) (fun t =>
      t.obj 0x48FF 0x17 == 0 && t.obj 0x48FE 0x17 == 6) = true) := by decide +kernel

/-- Lane 3 of port 0 in state `l`, the port in state `st` and mode 1. -/
def lane3 (st l : Nat) : State := ((prep.setObj 0x4000 1 1).setObj 0x4000 2 st).setObj 0x400B 1 l

/-- Lane 3 after a move to state `l` with role `role`: it has had a signal since its wander peak was read. -/
def moved (l role : Nat) : State := ((lane3 1 l).setObj 0x400B 2 role).setObj 0x400B 0xC 1

theorem test_BringUp_lane :
    (lane3 1 1).laneState 0 3 = 1 ∧
    leads (exec (.laneCdrLock 0 3) (lane3 1 1)) (moved 2 0xFF) = true ∧
    leads (exec (.laneBlockLock 0 3 true) (lane3 1 2)) (moved 3 0xFF) = true ∧
    leads (exec (.laneBlockLock 0 3 false) (lane3 1 2)) (moved 1 0xFF) = true ∧
    leads (exec (.laneFrameAlign 0 3 false 5 false) (lane3 1 3)) (moved 2 0xFF) = true ∧
    leads (exec (.laneFrameAlign 0 3 true 5 false) (lane3 1 3)) (moved 4 5) = true ∧
    after (exec (.laneFrameAlign 0 3 true 5 true) ((lane3 1 3).setObj 0x4000 6 2)) (fun t =>
      t.laneState 0 3 == 5 && (t.port 0).goodSpare == 0 && t.obj 0x4000 6 == 1) = true := by decide +kernel

theorem test_BringUp_port :
    let s := ((linkUp prep).setObj 0x4000 2 1).setPort 0 { PortRec.blank with partner := ⟨true, 1, false⟩ }
    let trained := (s.setObj 0x4000 2 2).setObj 0x4000 0xA 1024
    ((activeLanes (s.portMode 0)).all (fun ln =>
        ((upFrom 0 8).filter (fun l => s.laneState 0 l == 4 && s.laneRole 0 l == ln)).length == 1) = true ∧
    after (exec (.portTrained 0 8) s) (fun t => t.portState 0 == 2 && t.obj 0x4002 7 == 8 && t.obj 0x4000 0xA == 0) = true ∧
    leads (exec (.portTrained 0 8) ((linkUp prep).setObj 0x4000 2 1)) (((linkUp prep).setObj 0x4000 2 1).setObj 0x4002 7 8) =
      true ∧
    leads (exec (.portTrained 0 9) s) ((s.setObj 0x4002 7 9).fire 1032 3) = true ∧
    leads (exec (.goodFrameCount 0) trained) (trained.setPort 0 { trained.port 0 with rxUp := true }) = true) := by
  decide +kernel

/-- A whole DATA frame with tag 250, on all eight lanes; lane 0 carries nibble 9 first. -/
def dataLanes (type : Nat) : List LaneFrame :=
  [0, 1, 2, 3, 4, 5, 6, 7].map (fun l : Lane => ⟨l, buildFrame l.val type 250 0 0 (if l = 0 then 9 else 0)⟩)

theorem test_PortFramesAndMessages_up :
    let s := linkUp lockstep
    let vs := (activeLanes (s.portMode 0)).map (s.viewLane 0 (dataLanes 10))
    (s.portUp 0 = true ∧
    frameTag vs (s.port 0).lastTag = 250 ∧
    s.frameInTime 0 250 = true ∧
    (∀ v ∈ vs, v.map (fun x => x.type) = some 10) ∧
    after (exec (.frameReceive 0 (dataLanes 10) 4990) s) (fun t => (t.port 0).lastTag == 250 &&
      (t.port 0).frames.map (fun e => (e.1, e.2.ready, e.2.groups.length, getAt 0 e.2.groups 0)) ==
        [(250, 4990, 16, 9)]) = true) := by decide +kernel

theorem test_PortFramesAndMessages_training :
    let s := (linkUp prep).setObj 0x4000 2 1
    let vs := fun (k : Nat) => (activeLanes (s.portMode 0)).map (s.viewLane 0 (dataLanes k))
    (s.portFrameGood 0 (vs 3) 250 = true ∧
    s.portFrameGood 0 (vs 12) 250 = false ∧
    after (exec (.frameReceive 0 (dataLanes 3) 0) s) (fun t => t.portState 0 == 1 && t.obj 0x4000 0xA == 1) = true ∧
    after (exec (.frameReceive 0 (dataLanes 12) 0) (s.setObj 0x4000 0xA 7)) (fun t =>
      t.portState 0 == 1 && t.obj 0x4000 0xA == 0) = true) := by decide +kernel

theorem test_PortFramesAndMessages_status :
    let msg : BitVec 112 := 0x123456789ABC0000000000000000 >>> 0 ||| (1 <<< 57) ||| (1 <<< 56) ||| (9 <<< 59)
    let s := fun (st : Nat) => ((linkUp prep).setObj 0x4000 2 st).setPort 0 { PortRec.blank with rxUp := true }
    let locked := (s 2).setObj 0x2200 1 3
    let mode2 : BitVec 112 := (2 <<< 57)
    (bits msg.toNat 57 2 = 1 ∧
    bitAt msg.toNat 55 = false ∧
    bitAt msg.toNat 56 = true ∧
    after (exec (.linkStatus 0 msg) (s 2)) (fun t => t.portState 0 == 2 && (t.frameStart 0).portState 0 == 3 &&
      (t.port 0).partner == ⟨true, 1, true⟩ &&
      t.obj 0x4000 7 == 0x123456789ABC + 9 <<< 48) = true ∧
    after (exec (.linkStatus 0 msg) (s 3)) (fun t => t.portState 0 == 3) = true ∧
    after (exec (.linkStatus 0 mode2) (s 3)) (fun t => t.portState 0 == 1) = true ∧
    leads (exec (.linkStatus 0 (3 <<< 57)) (s 3)) ((s 3).bump 0x4002 4) = true ∧
    locked.portLocked 0 = true ∧
    leads (exec (.paceProbe 0 (5 <<< 48) 7) locked) (locked.setPort 0 { locked.port 0 with
      worst := some (max (paceNeeded locked.strokeClock 5 7).toNat ((locked.port 0).worst.getD 0)) }) = true ∧
    leads (exec (.paceProbe 0 (5 <<< 48) 7) (s 2)) (s 2) = true ∧
    leads (exec (.frameReceive 0 (dataLanes 10) 4990) prep) prep = true ∧
    leads (exec (.measureCommand .ring 0) (s 2)) ((s 2).setPort 0 { (s 2).port 0 with measuring := 1024, worst := none }) =
      true) := by decide +kernel

theorem test_PortCommands :
    let s := (linkUp run).setObj 0x4000 6 1
    (s.reachedBy .ring = true ∧
    s.store.reload.contains 0 = false ∧
    s.portMayRun 0 = true ∧
    after (exec (.retrain .ring 0) s) (fun t => !(t.port 0).takenDown && t.portState 0 == 1) = true ∧
    after (exec (.takeDown .ring 0) s) (fun t => (t.port 0).takenDown && t.portState 0 == 0 &&
      t.laneState 0 7 == s.laneState 0 7) = true ∧
    leads (exec (.swapLaneCommand .ring 0) (s.setObj 0x4000 6 2)) ((s.setObj 0x4000 6 2).bump 0x1010 0xB) = true ∧
    after (exec (.swapLaneCommand .ring 0) s) (fun t => (t.port 0).swap == some (.of 0 none) && t.portState 0 == 4 &&
      t.bell.swap == some 9) = true ∧
    after (exec (.readmit .ring 0) (s.setObj 0x4000 0xC 8)) (fun t => t.obj 0x4000 0xC == 0 &&
      (t.port 0).swapOuts == []) = true) := by decide +kernel

theorem test_LaneSwapsAndTests_loss :
    let s := (linkUp run).setObj 0x4000 6 1
    let spare := (s.setObj 0x400F 1 5).setObj 0x400F 2 7
    (s.rxSpare 0 = none ∧
    spare.rxSpare 0 = some 7 ∧
    after (exec (.laneLost 0 3) s) (fun t => t.laneState 0 3 == 1 && t.obj 0x4002 5 == 1 && t.portState 0 == 5 &&
      t.bell.fouls == [9]) = true ∧
    after (exec (.laneLost 0 3) spare) (fun t => t.laneState 0 3 == 1 && t.portState 0 == 4) = true ∧
    leads (exec (.laneLost 0 7) spare)
      ((((spare.setObj 0x400F 1 1).setObj 0x400F 2 0xFF).setObj 0x400F 0xC 1).setObj 0x4000 6 2) = true) := by
  decide +kernel

theorem test_LaneSwapsAndTests_swap :
    let w : SwapRec := .of 3 (some (5000 / 16))
    let proven : SwapRec := { w with done := true, passed := 4 }
    let s0 := (((linkUp run).setObj 0x400F 1 5).setObj 0x400F 2 7).setObj 0x4000 2 4
    let s := s0.setPort 0 { PortRec.blank with swap := some w, lost := [3], out := { PortTx.blank with swap := some w } }
    let ready := s.setPort 0 { s.port 0 with lastTag := 5000 / 16 - 1 }
    let outside := ({ s with dev := .prep }).setPort 0 { s.port 0 with swap := some (.of 3 none) }
    let tried := fun (v : SwapRec) => ({ s0 with bell := { s0.bell with swapW := some 4900 } }).setPort 0
      { PortRec.blank with swap := some v }
    let arrived := outside.swapArrives 0 [⟨7, buildFrame 3 10 250 0 0 0⟩]
    let regained := (s0.setObj 0x4000 6 3).setPort 0 { PortRec.blank with goodSpare := 1024 }
    (s.rxSpare 0 = some 7 ∧
    bits (s.obj 0x4000 5) 9 3 ≠ 7 ∧
    after (exec (.swapFrame 0 true) s) (fun t => (t.port 0).out.swap == some { w with done := true } &&
      bits (t.port 0).out.map.toNat 9 3 == 7 && bits (t.port 0).out.map.toNat 21 3 == 3) = true ∧
    leads (exec (.swapFrame 0 false) s) s = true ∧
    after (exec (.swapFrame 0 false) ready) (fun t => t.laneState 0 7 == 4 && t.laneRole 0 7 == 3 && t.obj 0x4000 6 == 3 &&
      (t.port 0).swap == some { w with done := true } && (t.port 0).lost == []) = true ∧
    leads (exec (.swapFrame 0 false) outside) outside = true ∧
    (arrived.laneState 0 7 = 4 ∧ arrived.laneRole 0 7 = 3 ∧ arrived.obj 0x4000 6 = 3 ∧
      (arrived.port 0).swap = some { w with frame := some 250, done := true }) ∧
    (outside.swapArrives 0 [⟨7, buildFrame 3 12 250 0 0 0⟩] = outside ∧
      outside.swapArrives 0 [⟨7, buildFrame 7 10 250 0 0 0⟩] = outside) ∧
    ((tried proven).swapProven proven = true ∧ (tried w).swapProven w = false ∧ (tried w).swapLate w = false) ∧
    after (exec (.swapVerify 0 true) (tried proven)) (fun t => (t.port 0).swap == none && t.obj 0x4000 0xB == 1 &&
      t.portState 0 == 3) = true ∧
    leads (exec (.swapVerify 0 true) (tried w)) (tried w) = true ∧
    after (exec (.swapVerify 0 false) (tried { w with failed := true })) (fun t => (t.port 0).swap == none &&
      t.portState 0 == 5) = true ∧
    leads (exec (.swapVerify 0 false) (tried w)) (tried w) = true ∧
    leads (exec (.spareRegained 0) regained) (regained.setObj 0x4000 6 1) = true) := by decide +kernel

theorem test_LaneSwapsAndTests_tests :
    let s := (lane3 0 0).setObj 0x400B 9 319
    let prbs := (s.setObj 0x400B 3 2).setObj 0x400B 1 7
    let period := fun (st : State) (n : Nat) =>
      (st.setObj 0x400B 8 64).setPort 0 { PortRec.blank with out := { PortTx.blank with periodic := [(3, n)] } }
    (s.testModeOpen 0 = true ∧
    leads (exec (.laneTestModeWrite .ring 0 3 0) s) s = true ∧
    after (exec (.laneTestModeWrite .ring 0 3 4) s) (fun t => t.obj 0x400B 3 == 4 && t.obj 0x400B 4 == 1 &&
      t.laneState 0 3 == 7) = true ∧
    after (exec (.prbsCheckerLock 0 3 (List.replicate 40 true)) prbs) (fun t => t.obj 0x400B 4 == 1 &&
      t.obj 0x400B 5 == 0) = true ∧
    after (exec (.injectSingle .ring 0 3) s) (fun t => (t.port 0).out.invertNext == [(3, 1#320 <<< 319)]) = true ∧
    after (exec (.injectSingle .ring 0 3) prbs) (fun t => (t.port 0).out.invertPrbs == [(3, 1)]) = true ∧
    after (exec (.injectStartPeriodic .ring 0 3) s) (fun t => (t.port 0).out.periodic == [(3, 640)]) = true ∧
    after (exec (.injectStop .ring 0 3) (period s 5)) (fun t => (t.port 0).out.periodic == []) = true ∧
    after (exec (.injectIntervalExpiry 0 3) (period s 320)) (fun t => (t.port 0).out.periodic == [(3, 384)] &&
      (t.port 0).out.invertNow == [(3, 1#320 <<< 319)]) = true ∧
    after (exec (.injectIntervalExpiry 0 3) (period prbs 20)) (fun t => (t.port 0).out.periodic == [(3, 84)] &&
      (t.port 0).out.invertPrbs == [(3, 1#20 <<< 19)]) = true) := by decide +kernel

/-- Region 2 runs; its memory is `mem`. -/
def hedged (s : State) (mem : List Host.Cell) : State :=
  { s with mem := mem }.setRegion 2 { RegionRec.blank with configured := true, running := true }

/-- Both flip-flops of cell 0 of region 2 capture the constant 1 at each rising edge of line 0, whose source is 2. -/
def woven (s : State) : State :=
  let inputs := (upFrom 0 5).foldl (fun w i => w + 0x3000 <<< (96 + 14 * i)) 0
  hedged s (memAt (hedgeBase 2) (leBytes 32 (3 <<< 67 + 0x3001 <<< 166 + inputs)) ++ [(hedgeBase 2 + 4099 * 128, 2)])

/-- Slot 0 of region 2 is owned by initiator 5, and its port writes 1 to transmit register 1 at each tick. -/
def ported (s : State) : State :=
  hedged s ((hedgeBase 2 + 4099 * 128 + 8, 0x85) :: memAt (hedgeBase 2 + 4108 * 128)
    ((upFrom 0 47).flatMap (fun j => [if j = 0 ∨ j = 7 ∨ j = 39 then 1 else 0, 0x30])))

/-- Region 2 holds nothing but its declared VIO, 1,800 mV. -/
def supplied (s : State) : State := hedged s (memAt (hedgeBase 2 + 4099 * 128 + 16) (leBytes 2 1800))

theorem test_FabricObjectsAndFrames_sheets :
    let s := supplied run
    let loadable := s.setRegion 2 { s.region 2 with sheet := .upLoadable }
    (s.reachedBy .ring = true ∧
    loadable.regionFail 2 = none ∧
    drivenLines (s.frames 2) (s.cells 2) = [] ∧
    after (exec (.regionLower .ring 2) loadable) (fun t => t.region 2 ==
      { s.region 2 with sheet := .lowering, sheetRota := 7 } && t.obj 0x5022 1 == t.bankState 2) = true ∧
    leads (exec (.regionRaise .ring 2) s) (s.setRegion 2 { s.region 2 with sheet := .raising, sheetRota := 8 }) = true) := by
  decide +kernel

theorem test_FabricObjectsAndFrames_objects :
    let s := ported prep
    let off := { s with hedge := { s.hedge with offLines := [(9, []), (4095, [2])] } }
    (selectorOk (fun m => (s.region 2).configured && slotOwned (s.frames 2) m) 0x3800 = true ∧
    s.pllUsed 1 = false ∧
    leads (exec (.reEnableLine .ring 4095) off) { s with hedge := { s.hedge with offLines := [(9, [])] } } = true ∧
    leads (exec (.peepholeWrite .ring 2 63 0x3800) s) (s.setObj 0x5042 64 0x3800) = true ∧
    leads (exec (.pllSettingsWrite .ring 1 (8 + 1 <<< 7 + 8 <<< 10)) s)
      ((s.setObj 0x5001 2 (8 + 1 <<< 7 + 8 <<< 10)).setObj 0x5001 5 (s.obj 0x5001 5 &&& 13)) = true) := by decide +kernel

theorem test_FabricObjectsAndFrames_frames :
    run.reaches 1024 (.hedge 2 0) 1 = true ∧
    prep.reaches 1024 (.hedge 2 524800) 2 = true ∧
    prep.regionLoadable 2 = true ∧
    run.regionLoadable 2 = false ∧
    answers (exec (.regionWindowWrite 1024 2 532480 [1]) prep) prep 1024 opDecode = true ∧
    answers (exec (.regionWindowWrite 1024 2 0 [1]) run) run 1024 opAck = true ∧
    after (exec (.regionWindowWrite 1024 2 524800 [1, 0xFF]) (flipped prep (hedgeBase 2 / 8 + 65600))) (fun t =>
      gets t 1024 opAck [] && t.errs == [] && t.byte (hedgeBase 2 + 524800) == 1 &&
      t.byte (hedgeBase 2 + 524801) == BitVec.ofNat 8 (0xFF &&& (frameMask 65600 >>> 8))) = true := by decide +kernel

theorem test_FabricObjectsAndFrames_edge :
    let s := (woven run).setObj 0x5001 5 1
    let c := cellRec (s.frames 2) 0
    let pin := fun (mode : Nat) => (s.setByte (hedgeBase 2 + 4099 * 128) 0x26).setObj 0x5022 1 mode
    ((s.region 2).running = true ∧
    clockSource (s.frames 2) 0 % 16 = 2 ∧
    s.cells 2 = [0] ∧
    bitAt c 75 = false ∧
    edgeTakes true (bitAt c 72) = true ∧
    after (exec (.hedgerowClockEdge 2 0 true 77) (woven run)) (fun t => !t.ffAt 2 0 0 && (t.region 2).pins == 77) = true ∧
    after (exec (.hedgerowClockEdge 2 0 true 77) s) (fun t => t.ffAt 2 0 0 &&
      (t.region 2).pins == 77 && t.mem == s.mem) = true ∧
    ((pin 2).bankActive 2 = true ∧ (pin 0).bankActive 2 = false) ∧
    after (exec (.hedgerowClockEdge 2 0 true 77) (pin 2)) (fun t => t.ffAt 2 0 0) = true ∧
    after (exec (.hedgerowClockEdge 2 0 true 77) (pin 0)) (fun t => !t.ffAt 2 0 0 && (t.region 2).pins == 77) = true ∧
    after (exec (.hedgerowClockEdge 2 0 false 77) s) (fun t => !t.ffAt 2 0 0) = true) := by decide +kernel

theorem test_RotaPortAndBanks_port :
    let s := { ported run with phase := .rota 8 }
    (s.ownedSlots = [(2, 0, 5)] ∧
    s.tickEnds = true ∧
    (ported run).tickEnds = false ∧
    s.sig 2 0 (portInput (s.frames 2) 0 39) = true ∧
    s.portField 2 0 0 7 = 1 ∧
    leads (exec .rotaClockTick (ported run)) (ported run) = true ∧
    after (exec .rotaClockTick s) (fun t => (t.hinit 5).tick == 1 && (t.hinit 5).run && (t.hinit 5).rota == 7 &&
      (t.hinit 5).tx == [(1, 1)]) = true ∧
    after (exec .commitPulse { s with hedge := { s.hedge with decided := some (true, 6) } }) (fun t =>
      t.hedge.decided == none && (t.hinit 5).pulse == 1 && (t.hinit 5).rota == 6) = true) := by decide +kernel

/-- Initiator 5 has written its packet words: a read of 8 bytes at `a` in class B. -/
def packing (a : Nat) : HInit := { HInit.blank with
  busy := true, start := true,
  packet := [(0, BitVec.ofNat 32 a), (1, BitVec.ofNat 32 (bits a 32 16 + 3 <<< 16 + 1 <<< 19))] }

theorem test_RotaPortAndBanks_packets :
    let s := prep.setHinit 5 (packing (configBase + 0x2000000))
    let lost := prep.setHinit 5 (packing (4 * cellarBytes))
    let busy := fun (op : Nat) => prep.setHinit 5 { HInit.blank with busy := true, answer := some (none, op, [9]) }
    let who : Asker := { Asker.plain 1029 with home := 1035, cls := 2, size := 1, user := true }
    let sent := { prep.setHinit 5 { HInit.blank with busy := true, answer := some (some who, opData, [9]) } with
      opn := { prep.opn with trans := [⟨1029, 0, 1034, 0, true, false, .access 1 2 false⟩] } }
    let refused := sent.setHinit 5 { HInit.blank with busy := true, answer := some (some who, opDecode, []) }
    let unpowered := { prep with power := { prep.power with vstby := false } }
    let done := fun (op : BitVec 4) => prep.setHinit 5 { HInit.blank with done := true, code := op, data := 9 }
    ((packing (configBase + 0x2000000)).fields = (configBase + 0x2000000, .read 8, 2) ∧
    placeOf (configBase + 0x2000000) = some (.config 0x2000000) ∧
    placeOf (4 * cellarBytes) = none ∧
    s.wayTo 1029 2 1034 = true ∧
    s.gate (.config 0x2000000) = 0 ∧
    configListed 0x2000000 8 = true ∧
    after (exec (.packetStart 5) s) (fun t => t.mem == [] && t.answer == s.answer &&
      t.opn.trans == [⟨1029, 0, 1034, 0, true, false, .access 8 2 false⟩] &&
      t.hinit 5 == { packing (configBase + 0x2000000) with
        start := false, answer := some (some { who with size := 8 }, opData, List.replicate 8 0) }) = true ∧
    after (exec (.packetStart 5) lost) (fun t => gets t 1029 opDecode [] &&
      t.hinit 5 == { packing (4 * cellarBytes) with start := false, answer := some (none, opDecode, []) }) = true ∧
    leads (exec (.packetDone 5 40 .arrives) (busy opData)) (done 0) = true ∧
    leads (exec (.packetDone 5 40 .arrives) (busy opShuttered)) ((done (BitVec.ofNat 4 opShuttered)).bump 0x5085 5) = true ∧
    after (exec (.packetDone 5 40 .arrives) sent) (fun t => gets t 1029 opData [9] && t.opn.trans == [] &&
      t.obj (statObj 1029) 5 == 40 && (t.hinit 5) == { HInit.blank with done := true, data := 9 }) = true ∧
    (who.init = 1029 ∧ who.user = true ∧
      netGood .response ((respWord (answerFlit who.source who opDecode 0)).setWidth 144 ^^^ 1) = false) ∧
    leads (exec (.packetDone 5 40 ⟨2, [1]⟩) refused)
      (((refused.setHinit 5 { HInit.blank with busy := true }).bump 0x4800 2).fire 1026 2) = true ∧
    leads (exec (.bankSupplySample 2 900) unpowered) unpowered = true ∧
    leads (exec (.packetDone 5 40 .arrives) prep) prep = true) := by decide +kernel

theorem test_RotaPortAndBanks_banks :
    let s := { supplied run with allset := ⟨true, true, true, false⟩ }
    let two : Region × Fin 16384 := (2, 16383)
    (declaredVio (s.frames 2) = 1800 ∧
    vioGood 1710 1800 = true ∧
    vioGood 1709 1800 = false ∧
    after (exec (.bankSupplySample 2 899) s) (fun t => t.obj 0x5022 1 == 0 && t.obj 0x5022 2 == 899) = true ∧
    after (exec (.bankSupplySample 3 900) s) (fun t => t.obj 0x5023 1 == 1) = true ∧
    after (exec (.bankSupplySample 2 1710) s) (fun t => t.obj 0x5022 1 == 2) = true ∧
    after (exec (.globalContention 4095 (1, 7) two) s) (fun t => t.hedge.offLines == [(4095, [1, 2])] && t.obj 0x5000 1 == 1 &&
      t.obj 0x5000 2 == 4095 + 1 <<< 12 + 7 <<< 16) = true) := by decide +kernel

/-- Trough 255 in direction `dir` (1 outbound of the far side), far position `p`, design position `d`. -/
def trough (dir p d : Nat) : State := ((prep.setObj 0x51FF 1 dir).setObj 0x51FF 5 p).setObj 0x51FF 6 d

theorem test_TroughProducer :
    let s := trough 1 510 0
    let base := troughBase 255 + 0x8000
    let checked := (trough 1 511 0).setObj 0x51FF 2 (2 + 3 <<< 4)
    let result := (checked.tallyCheck 3 0).1.tallyResult 3
    (troughFull 510 0 = false ∧
    troughFull 1024 0 = true ∧
    troughFull 1023 0 = false ∧
    s.reaches 1024 (.trough 255 0) 8 = true ∧
    s.reaches 1024 (.trough 255 8) 8 = true ∧
    answers (exec (.push 1024 255 9) (trough 2 0 0)) (trough 2 0 0) 1024 opDecode = true ∧
    answers (exec (.push 1024 255 9) (trough 1 1024 0)) (trough 1 1024 0) 1024 opBusy = true ∧
    after (exec (.push 1024 255 9) (trough 1 1024 0)) (fun t => t.obj 0x51FF 0xA == 1 && t.obj 0x51FF 5 == 1024) = true ∧
    after (exec (.push 1024 255 9) s) (fun t => gets t 1024 opAck [] && t.obj 0x51FF 5 == 511 &&
      t.mem == [(base + 4080, 9)] && !(t.trough 255).eop.getLsbD 510) = true ∧
    after (exec (.pushEop 1024 255 9) s) (fun t => t.obj 0x51FF 5 == 512 && (t.trough 255).eop.getLsbD 510) = true ∧
    after (exec (.push 1024 255 9) (trough 1 2047 1536)) (fun t => t.obj 0x51FF 5 == 0) = true ∧
    (checked.tallyCheck 3 result).2 = true ∧
    after (exec (.push 1024 255 (BitVec.ofNat 64 result)) checked) (fun t => t.obj 0x51FF 5 == 512) = true ∧
    after (exec (.push 1024 255 (BitVec.ofNat 64 (result + 1))) checked) (fun t => t.obj 0x51FF 5 == 0) = true) := by
  decide +kernel

theorem test_TroughConsumerAndBankView_pop :
    let base := troughBase 255 + 0x8000
    let s := { trough 2 511 512 with mem := [(base + 4088, 9)] }
    let inside := trough 2 3 9
    let whole := trough 2 3 512
    (admissible 511 512 (s.thresh 255) = true ∧
    admissible 512 512 (s.thresh 255) = false ∧
    s.reaches 1024 (.trough 255 0x10) 8 = true ∧
    s.reaches 1024 (.trough 255 0x28) 8 = true ∧
    after (exec (.pop 1024 255) s) (fun t => gets t 1024 opData [9, 0, 0, 0, 0, 0, 0, 0] &&
      t.obj 0x51FF 5 == 512 && (t.trough 255).popStatus == 3 && t.mem == s.mem) = true ∧
    after (exec (.pop 1024 255) ((trough 2 512 512).setObj 0x51FF 4 7)) (fun t => t.obj 0x51FF 9 == 1 &&
      gets t 1024 opData [7, 0, 0, 0, 0, 0, 0, 0] && t.obj 0x51FF 5 == 512) = true ∧
    after (exec (.drop 1024 255) whole) (fun t => t.obj 0x51FF 5 == 512 && !(t.trough 255).mark &&
      gets t 1024 opAck []) = true ∧
    after (exec (.drop 1024 255) inside) (fun t => t.obj 0x51FF 5 == 9 && (t.trough 255).mark &&
      t.obj 0x51FF 0xC == 6) = true) := by decide +kernel

theorem test_TroughConsumerAndBankView_view :
    let s := trough 1 510 0
    let base := troughBase 255 + 0x8000
    (s.reaches 1024 (.trough 255 (0x8000 + 4088)) 8 = true ∧
    s.reaches 1024 (.trough 255 0x30) 8 = true ∧
    (trough 2 3 9).reaches 1024 (.trough 255 0x38) 8 = true ∧
    answers (exec (.bankViewWrite 1024 255 4088 [1, 2, 3, 4, 5, 6, 7, 8]) s)
      (s.setBytes (base + 4088) [1, 2, 3, 4, 5, 6, 7, 8]) 1024 opAck = true ∧
    after (exec (.publish 1024 255 1) s) (fun t => t.obj 0x51FF 5 == 511) = true ∧
    after (exec (.publish 1024 255 2) s) (fun t => t.obj 0x51FF 5 == 512) = true ∧
    after (exec (.publish 1024 255 0x10001) s) (fun t => t.obj 0x51FF 5 == 512) = true ∧
    ((trough 2 3 9).trough 255).packetLeft 3 9 512 = 6 ∧
    after (exec (.troughRelease 1024 255 6) (trough 2 3 9)) (fun t => t.obj 0x51FF 5 == 9) = true ∧
    after (exec (.troughReset .ring 255) (trough 1 510 7)) (fun t => t.obj 0x51FF 5 == 0 && t.obj 0x51FF 6 == 0) = true) := by
  decide +kernel

theorem test_Tallies :
    let s := prep.setObj 0x520F 1 32
    let snoops := s.setObj 0x520F 6 2
    let crc := crcBits 32 (s.obj 0x520F 2 % 2 ^ 32) (s.obj 0x520F 7 % 2 ^ 32) (byteBits (bitAt (s.obj 0x520F 4) 0) [1, 2])
    let waits := { s.setObj 0x520F 6 1 with snooped := [(15, [1, 2])] }
    (Tbl.get [] s.snooped 15 = [] ∧
    s.reaches 1024 (.tally 15 0) 2 = true ∧
    answers (exec (.tallyFeed 1024 15 [1, 2]) s) ((s.setObj 0x520F 7 crc).setObj 0x520F 0xC 2) 1024 opAck = true ∧
    after (exec (.tallyFeed 1024 15 [1, 2]) s) (fun t => t.obj 0x520F 7 == crc && t.obj 0x520F 0xC == 2) = true ∧
    answers (exec (.tallyFeed 1024 15 [1, 2]) snoops) snoops 1024 opDecode = true ∧
    leads (exec (.tallySnoopFeed 15 [1, 2]) snoops) ((snoops.setObj 0x520F 7 crc).setObj 0x520F 0xC 2) = true ∧
    after (exec (.tallySnoopFeed 15 []) waits) (fun t => t.snooped == [] && t.obj 0x520F 7 == crc) = true ∧
    leads (exec (.tallyRestart .ring 15) (s.setObj 0x520F 3 (2 ^ 32 + 5))) ((s.setObj 0x520F 3 (2 ^ 32 + 5)).setObj 0x520F 7 5) = true ∧
    leads (exec (.tallyRunningWrite .ring 15 0x1FFFFFFFF) s) (s.setObj 0x520F 7 0xFFFFFFFF) = true) := by decide +kernel

/-- Task 7 of priority 3 in state `st` with count `n` of `init`, which core 2 may run; core 2 is out of reset. -/
def tasked (st n init : Nat) : State :=
  let s := prep.setTask 7 (3 <<< 112 + st <<< 125 + n <<< 128 + init <<< 140 + 4 <<< 152 + 0x1234 <<< 64)
  let s1 := if st = 3 then s.setReady 3 [7] else s
  s1.setCore 2 { CoreRec.rest with held := false, task := if st = 4 then some 7 else none }

/-- The verger has taken one command, which it performs for a cycle. -/
def commanded (s : State) : State := ({ s with verger := ⟨[], [], s.vergerCycle⟩ } : State).peak 0x5300 4 1

/-- What a command error leaves (R345). -/
def commandErr (s : State) : State := ((commanded s).bump 0x5300 5).fire 1347 1

theorem test_TaskCommands_arm :
    ((tasked 0 0 5).reaches 1024 (.verger 0x30000) 8 = true ∧
    (tasked 0 0 5).verger = .rest ∧
    (tasked 0 0 5).armRefused ((tasked 0 0 5).task 7) = false ∧
    after (exec (.arm 1024 7) (tasked 0 0 5)) (fun t => t.task 7 == (tasked 1 5 5).task 7 && gets t 1024 opAck []) =
      true ∧
    after (exec (.arm 1024 7) (tasked 0 0 0)) (fun t => t.readyList 3 == [7] && tState (t.task 7) == 3 &&
      (t.core 2).dispatch) = true ∧
    answers (exec (.arm 1024 7) (tasked 1 5 5)) (commandErr (tasked 1 5 5)) 1024 opAck = true ∧
    after (exec (.arm 1024 7) (tasked 1 5 5)) (fun t => t.obj 0x5300 5 == 1 && t.obj 0x5300 4 == 1) = true ∧
    prep.armRefused (prep.task 8) = true ∧
    answers (exec (.arm 1024 8) prep) (commandErr prep) 1024 opAck = true) := by decide +kernel

/-- The verger is busy, and `n` commands wait in its queue. -/
def queued (n : Nat) : State := { tasked 1 5 5 with verger := ⟨List.replicate n (1024, 0), [], 9⟩ }

theorem test_TaskCommands_queue :
    (queued 255).reaches 1024 (.verger 0x30000) 8 = true ∧
    (queued 256).reaches 1024 (.verger 0x30000) 8 = true ∧
    after (exec (.cancel 1024 7) (queued 255)) (fun t => gets t 1024 opAck [] && t.obj 0x5300 4 == 256 &&
      t.verger == ⟨List.replicate 255 (1024, 0) ++ [(1024, 0x73)], [], 9⟩ && t.tasks == (queued 255).tasks) = true ∧
    after (exec (.cancel 1024 7) (queued 256)) (fun t => t.answer == prep.answer &&
      t.verger.queue.length == 256 && t.verger.held.map (fun e => (e.1.init, e.2)) == [(1024, 0x73)] &&
      t.tasks == (queued 256).tasks) = true := by decide +kernel

theorem test_TaskCommands_signal_and_cancel :
    (answers (exec (.signal 1024 7 0) (tasked 1 5 5)) (commandErr (tasked 1 5 5)) 1024 opAck = true ∧
    (tasked 1 5 5).reaches 1024 (.verger 0x30000) 8 = true ∧
    after (exec (.signal 1024 7 4) (tasked 1 5 5)) (fun t => tCount (t.task 7) == 1 && tState (t.task 7) == 1) = true ∧
    after (exec (.signal 1024 7 5) (tasked 1 5 5)) (fun t => tState (t.task 7) == 3 && t.readyList 3 == [7]) = true ∧
    after (exec (.signal 1024 7 5) (tasked 0 5 5)) (fun t => t.obj 0x5300 6 == 1 && tState (t.task 7) == 0) = true ∧
    after (exec (.cancel 1024 7) (tasked 2 0 5)) (fun t => tState (t.task 7) == 0) = true ∧
    after (exec (.cancel 1024 7) (tasked 3 0 5)) (fun t => tState (t.task 7) == 0 && t.readyList 3 == []) = true ∧
    answers (exec (.cancel 1024 7) (tasked 4 0 5)) (commandErr (tasked 4 0 5)) 1024 opAck = true) := by decide +kernel

theorem test_CoresTakeAndEndTasks :
    let value := leBytes 8 (7 + 1 <<< 13 + 0x1234 <<< 16)
    ((tasked 3 0 5).choose 2 = some 7 ∧
    (tasked 0 0 5).choose 2 = none ∧
    (tasked 3 0 5).reaches 1090 (.verger 0x31020) 8 = true ∧
    (tasked 4 0 5).reaches 1090 (.verger 0x30000) 8 = true ∧
    (tasked 4 0 5).reaches 1091 (.verger 0x30000) 8 = true ∧
    after (exec (.take 2) (tasked 3 0 5)) (fun t => gets t 1090 opData value &&
      (t.core 2).task == some 7 && tState (t.task 7) == 4 && tAffinity (t.task 7) == some 2 && t.readyList 3 == []) = true ∧
    after (exec (.take 2) (tasked 0 0 5)) (fun t => gets t 1090 opData (leBytes 8 0) && t.ready == []) = true ∧
    answers (exec (.take 2) (tasked 4 0 5)) (tasked 4 0 5) 1090 opData value = true ∧
    after (exec (.done 1090) (tasked 4 0 5)) (fun t => (t.core 2).task == none && tState (t.task 7) == 0 &&
      t.obj 0x5312 4 == 1) = true ∧
    after (exec (.yield 1090) (tasked 4 0 5)) (fun t => (t.core 2).task == none && tState (t.task 7) == 3 &&
      tResume (t.task 7) && t.readyList 3 == [7]) = true ∧
    (tasked 4 0 5).runner 1091 = none ∧
    (tasked 4 0 5).runner 1024 = none ∧
    answers (exec (.done 1091) (tasked 4 0 5)) (commandErr (tasked 4 0 5)) 1091 opAck = true ∧
    answers (exec (.yield 1024) (tasked 4 0 5)) (commandErr (tasked 4 0 5)) 1024 opAck = true ∧
    answers (exec (.commandError 1024 0) prep) (commandErr prep) 1024 opAck = true ∧
    answers (exec (.commandError 1024 6) prep) (commandErr prep) 1024 opAck = true) := by decide +kernel

theorem test_DelayListsAndCoreCommands :
    let delayed := fun (wake : Nat) => (prep.setTask 7 (2 <<< 125 + 3 <<< 123 + 4 <<< 152 + wake <<< 192)).setObj 0x5301 4 1
    let asked := (tasked 4 0 5).setCore 2 { (tasked 4 0 5).core 2 with preempt := some 9 }
    let cached := prep.setCore 2 { CoreRec.rest with icache := [(7, [1])], dcache := [(8, [2])] }
    let ready := prep.setCore 2 { CoreRec.rest with entry := some 0x1000 }
    ((delayed 0).delayList 3 = [7] ∧
    (delayed 0).wakeDue 3 0 = true ∧
    (delayed 1).wakeDue 3 1 = false ∧
    after (exec (.delayListDue 3) (delayed 0)) (fun t => tState (t.task 7) == 3) = true ∧
    leads (exec (.delayListDue 3) (delayed 1)) (delayed 1) = true ∧
    after (exec (.preEmptOverrun 2) asked) (fun t => (t.core 2).preempt == none && t.obj 0x5300 9 == 1) = true ∧
    leads (exec (.cacheCommand .ring 2 1) cached) (cached.setCore 2 { cached.core 2 with icache := [] }) = true ∧
    leads (exec (.cacheCommand .ring 2 3) cached) (prep.setCore 2 .rest) = true ∧
    after (exec (.coreHoldReset .ring 2) (tasked 4 0 5)) (fun t => (t.core 2).held && (t.core 2).task == none &&
      tState (t.task 7) == 3 && !tResume (t.task 7)) = true ∧
    leads (exec (.coreRelease .ring 2) { ready with dev := .fault }) ({ ready with dev := .fault }.bump 0x1010 0xB) = true ∧
    after (exec (.coreRelease .ring 2) ready) (fun t => !(t.core 2).held && (t.core 2).pc == 0x1000) = true) := by
  decide +kernel

/-- Core 2 at scratchpad offset 0x100 with the word `w` there in its instruction cache; x5 = 7, x6 = 9, and the trap
vector at 0x40. -/
def coreAt (w : Nat) : State :=
  let pc := scratchBase + 0x100
  prep.setCore 2 { CoreRec.rest with
    held := false, pc := BitVec.ofNat 64 pc, regs := [(5, 7), (6, 9)], csrs := [(0x305, 0x40)],
    icache := [(pc / 64, leBytes 4 w ++ List.replicate 60 0)] }

theorem test_CoreExecution_traps :
    let s := coreAt 0x73
    let timer := s.setCore 2 { s.core 2 with mtip := true, csrs := [(0x300, 8), (0x304, 0x80), (0x305, 0x41)] }
    let pc := BitVec.ofNat 64 (scratchBase + 0x100)
    (s.coreRuns 2 = true ∧
    s.interrupt 2 = none ∧
    timer.interrupt 2 = some 7 ∧
    after (exec (.mtimecmpReached 2) s) (fun t => (t.core 2).mtip) = true ∧
    after (exec (.reservationTimeout 2) (s.setCore 2 { s.core 2 with reservation := some 9 })) (fun t => t == s) = true ∧
    after (exec (.coreAccessFault 2 .load 0x80) s) (fun t => t.csr 2 0x341 == pc && t.csr 2 0x342 == 5 &&
      t.csr 2 0x343 == 0x80 && (t.core 2).pc == 0x40) = true ∧
    after (exec (.coreInstruction 2) s) (fun t => t.csr 2 0x341 == pc && t.csr 2 0x342 == 11 && t.csr 2 0x343 == 0 &&
      (t.core 2).pc == 0x40) = true ∧
    leads (exec (.coreInstruction 2) (s.setCore 2 { s.core 2 with wait := some (false, 0x80, 8) }))
      (s.setCore 2 { s.core 2 with wait := some (false, 0x80, 8) }) = true ∧
    after (exec (.coreInstruction 2) timer) (fun t => t.csr 2 0x341 == pc && t.csr 2 0x300 == 0x80 &&
      t.csr 2 0x342 == BitVec.ofNat 64 (7 + 2 ^ 63) && (t.core 2).pc == 0x40 + 28) = true) := by decide +kernel

theorem test_CoreExecution_operations :
    let add := coreAt 0x006283B3
    let addi := coreAt 0xFFF28393
    ((add.homeOf (scratchBase + 0x103)).isSome = true ∧
    opReg 0x006283B3 false 7 9 = some 16 ∧
    opImm 0xFFF28393 false 7 = some 6 ∧
    after (exec (.coreInstruction 2) add) (fun t => t.reg 2 7 == 16 && t.reg 2 5 == 7 &&
      (t.core 2).pc == BitVec.ofNat 64 (scratchBase + 0x104) && t.csr 2 0xB02 == 1 && t.mem == []) = true ∧
    after (exec (.coreInstruction 2) addi) (fun t => t.reg 2 7 == 6) = true) := by decide +kernel

/-- Watch unit 0 in state `st`. -/
def watching (st : Nat) : State := run.setObj 0x5400 2 st

theorem test_WatchCommands :
    let s := { watching 4 with mem := [(watchBase 0, 5), (watchBase 0 + offProbe, 6)] }
    let staged := (watching 1).setWatch 0 { WatchRec.rest with staged := [(0, 0)] }
    (s.reachedBy .ring = true ∧
    s.armAbort 0 = none ∧
    after (exec (.watchArm .ring 0) s) (fun t => t.watchState 0 == 1 && t.obj 0x5400 4 == 16777216 / 72 &&
      t.mem == [(watchBase 0 + offProbe, 6)]) = true ∧
    leads (exec (.forceTrigger .ring 0) (watching 1)) ((watching 1).setWatch 0 { WatchRec.rest with force := true }) = true ∧
    leads (exec (.watchStop .ring 0) (watching 2))
      (((watching 2).setWatch 0 { WatchRec.rest with stopping := true }).setObj 0x5400 2 4) = true ∧
    after (exec (.watchStop .ring 0) staged) (fun t => t.watchState 0 == 3) = true ∧
    after (exec (.watchReset .ring 0) s) (fun t => t.watchState 0 == 0 && t.mem == s.mem) = true) := by decide +kernel

theorem test_WatchEndsAndWindow_ends :
    let a := 5 * 65536 + 16 * 9
    let spill := ((((watching 3).setObj 0x5401 1 0).setObj 0x5401 5 (5 * 65536)).setObj 0x3800 1 2).setWatch 0
      { WatchRec.rest with staged := [(2, 9)] }
    let s := { spill with mem := [(a, 1), (watchBase 0 + 32, 7)] }
    (s.reaches 1114 (.cellar (a / 64 * 64)) 64 = true ∧
    (watching 3).spillIdle 0 = true ∧
    leads (exec (.postComplete 0) (watching 2)) (((watching 2).setObj 0x5400 2 4).fire 1324 1) = true ∧
    after (exec (.postComplete 0) ((watching 2).setWatch 0 { WatchRec.rest with staged := [(2, 9)] })) (fun t =>
      t.watchState 0 == 3) = true ∧
    leads (exec (.drainComplete 0) (watching 3)) (((watching 3).setObj 0x5400 2 4).fire 1324 1) = true ∧
    after (exec (.spillWrite 0) s) (fun t => (t.watch 0).staged == [] &&
      t.mem == [(a, 7), (watchBase 0 + 32, 7)]) = true) := by decide +kernel

theorem test_WatchEndsAndWindow_window :
    let ok := fun (off n : Nat) => larderSize n && (upFrom off n).all watchListed
    let entry := fun (off e : Nat) => ((watching 4).windowPut 0 off ((leBytes 2 e).map (fun b => (b, true)))).entriesOk 0 off 2
    (ok (offTemplate + 4088) 8 = true ∧
    ok (offTemplate + 4096) 1 = false ∧
    ok offCond 3 = false ∧
    (watching 4).watchWritable 0 = true ∧
    (watching 1).watchWritable 0 = false ∧
    (watching 4).reaches 1024 (.watch 0 (offTemplate + 0x11)) 1 = true ∧
    (watching 1).reaches 1024 (.watch 0 offCond) 1 = true ∧
    (watching 4).reaches 1024 (.watch 0 offCond) 16 = true ∧
    windowByte 0 (offTemplate + 0x11) 255 = 0x3F ∧
    answers (exec (.watchWindowWrite 1024 0 (offTemplate + 4096) [1]) (watching 4)) (watching 4) 1024 opDecode = true ∧
    answers (exec (.watchWindowWrite 1024 0 offCond (List.replicate 16 1)) (watching 4)) (watching 4) 1024 opDecode =
      true ∧
    answers (exec (.watchWindowWrite 1024 0 (offTemplate + 0x11) [255]) (watching 4))
      { watching 4 with mem := [(watchBase 0 + offTemplate + 0x11, 0x3F)] } 1024 opAck = true ∧
    (entry (offProbe + 2) 63 = true ∧ entry (offProbe + 2) 64 = false ∧ entry offProbe 64 = true) ∧
    (entry (offSelect + 1022) 0xFFF = true ∧ entry offSelect 0x1000 = false) ∧
    answers (exec (.watchWindowWrite 1024 0 (offProbe + 2) [64, 0]) (watching 4)) (watching 4) 1024 opDecode = true ∧
    answers (exec (.watchWindowWrite 1024 0 (offProbe + 2) [63, 0]) (watching 4))
      { watching 4 with mem := [(watchBase 0 + offProbe + 2, 63)] } 1024 opAck = true ∧
    answers (exec (.watchWindowWrite 1024 0 offCond [1]) (watching 1)) (watching 1) 1024 opAck = true) := by
  decide +kernel

/-- A module whose port 3 takes part in the steeple, as its slave port, in steeple state `st`. -/
def slave (st : Nat) : State :=
  (((run.setObj 0x2201 6 8).setObj 0x2200 7 3).setObj 0x2200 1 st).setObj 0x2201 1 5

theorem test_SteepleNetwork_time :
    let msg := steepleMsg 0 5 9 (stampBody (100 * 2 ^ 32))
    let s := { slave 3 with steeple := { SteepleRec.rest with pair := some (200 * 2 ^ 32, 220 * 2 ^ 32) } }
    ((run.setObj 0x2100 1 4).obj 0x2100 1 = 4 ∧
    leads (exec .referencePeriod (run.setObj 0x2100 1 4)) (run.setObj 0x2100 1 4) = true ∧
    leads (exec .referencePeriod { run with power := { run.power with reference := false } })
      { run with power := { run.power with reference := false } } = true ∧
    after (exec .referencePeriod run) (fun t => t.mtime == 1 &&
      t.steeple == { run.steeple with value := 10 * 2 ^ 32, base := run.strokeClock }) = true ∧
    (slave 3).steepleTakes 3 0 msg = true ∧
    (slave 3).steepleTakes 4 0 msg = false ∧
    leads (exec (.sync 4 msg 0) (slave 3)) ((slave 3).bump 0x2244 3) = true ∧
    after (exec (.sync 3 msg (BitVec.ofNat 64 (130 * 2 ^ 32))) (slave 3)) (fun t =>
      t.steeple.sync == some (100 * 2 ^ 32, 130 * 2 ^ 32)) = true ∧
    after (exec (.sync 3 msg (BitVec.ofNat 64 (130 * 2 ^ 32))) s) (fun t => t.obj 0x2200 5 == 5 * 256 &&
      t.obj 0x2200 6 == 25 * 256) = true) := by decide +kernel

theorem test_SteepleNetwork_delay :
    let req := steepleMsg 1 5 9 0
    let resp := steepleMsg 9 5 9 (stampBody (400 * 2 ^ 32))
    let master := (slave 1).setObj 0x2243 2 1
    let asked := { slave 3 with steeple := { SteepleRec.rest with asked := some (9, some (300 * 2 ^ 32)) } }
    (master.steepleTakes 3 1 req = true ∧
    leads (exec (.delayReq 3 req (BitVec.ofNat 64 (400 * 2 ^ 32))) master) (master.steepleSend 3 resp) = true ∧
    after (exec (.delayResp 3 resp) asked) (fun t => t.steeple.pair == some (300 * 2 ^ 32, 400 * 2 ^ 32) &&
      t.steeple.asked == none) = true ∧
    after (exec .syncTimeout (slave 3)) (fun t => t.obj 0x2200 1 == 4 && bitAt (t.obj 0x2200 4) 0) = true ∧
    leads (exec .syncTimeout (slave 1)) (slave 1) = true) := by decide +kernel

theorem test_SteepleNetwork_master :
    let msg := steepleMsg 11 5 0 ((1 <<< 16 + 2 <<< 8 + 3) <<< 56 + 0 <<< 48 + 77)
    let own := ((slave 1).setObj 0x2201 2 200).setObj 0x4030 2 3
    let heard := own.setAnnounce 3 (some (BitVec.ofNat 80 msg.toNat))
    let master := (own.setObj 0x2243 2 1)
    (own.steepleTakes 3 11 msg = true ∧
    after (exec (.announce 3 msg) own) (fun t => t.obj 0x2200 7 == 3 && t.obj 0x2243 2 == 2 && t.obj 0x2244 2 == 0) = true ∧
    after (exec (.announceExpiry 3) heard) (fun t => t.obj 0x2200 7 == 0xFF && t.obj 0x2243 2 == 1) = true ∧
    after (exec (.steepleSendDue 3 .sync) master) (fun t => (t.port 3).out.steeple == [steepleMsg 0 5 0 0] &&
      t.steeple.seqs == [(48, 1)]) = true ∧
    after (exec (.steepleSendDue 3 .delayReq) (own.setObj 0x2243 2 2)) (fun t =>
      (t.port 3).out.steeple == [steepleMsg 1 5 0 0]) = true ∧
    own.winner.map (fun c => c.port) = some 32 ∧
    after (exec (.steepleSendDue 3 .announce) master) (fun t =>
      ((t.port 3).out.steeple.map (fun m : BitVec 112 => (bits m.toNat 108 4, bits m.toNat 72 8, bits m.toNat 48 8))) ==
        [(11, 200, 0)]) = true) := by decide +kernel

/-- Pulse output 7 in mode `mode` and state 1, due at 50 ns, at the time of `ns` ns. -/
def pulsing (mode ns : Nat) : State :=
  let s := ((run.setObj 0x2217 1 mode).setObj 0x2217 6 1).setObj 0x2217 3 1000
  { s with steeple := { SteepleRec.rest with value := ns * 2 ^ 32, pulses := [(7, ⟨50, .idle⟩)] } }

theorem test_PulsesAndCaptures_pulses :
    let ready := (((run.setObj 0x2217 1 1).setObj 0x2217 2 50).setObj 0x2217 4 100)
    let on : PulseSpan := .time (50 * 2 ^ 32) (150 * 2 ^ 32)
    let single := (pulsing 1 50).setObj 0x2217 4 100
    let each := (pulsing 2 50).setObj 0x2217 4 100
    let rota := ((pulsing 3 50).setObj 0x2217 2 5).setObj 0x2217 4 100
    let under := (pulsing 1 49).setPulse 7 ⟨50, .time 0 (50 * 2 ^ 32)⟩
    let past := (pulsing 1 49).setPulse 7 ⟨50, .time 0 (40 * 2 ^ 32)⟩
    (reached (pulsing 1 50).now 50 = true ∧
    reached (pulsing 1 49).now 50 = false ∧
    (pulsing 1 50).now = 50 * 2 ^ 32 ∧
    ready.pulseRanges 7 = true ∧
    leads (exec (.pulseArm .ring 7) ready) ((ready.setPulse 7 ⟨50, .idle⟩).setObj 0x2217 6 1) = true ∧
    leads (exec (.pulseDisarm .ring 7) (pulsing 1 50)) (((pulsing 1 50).setPulse 7 .rest).setObj 0x2217 6 0) = true ∧
    after (exec (.pulseFire 7) single) (fun t => t.pulse 7 == ⟨50, on⟩ && t.obj 0x2217 6 % 128 == 2) = true ∧
    after (exec (.pulseFire 7) each) (fun t => t.pulse 7 == ⟨1050, on⟩ && t.obj 0x2217 6 % 128 == 1) = true ∧
    rota.phase = .rota 5 ∧
    after (exec (.pulseFire 7) rota) (fun t => t.pulse 7 == ⟨50, .strokes 5000 5100⟩ && t.obj 0x2217 6 % 128 == 1) = true ∧
    leads (exec (.pulseFire 7) (rota.setObj 0x2217 2 4)) (rota.setObj 0x2217 2 4) = true ∧
    (under.pulseOn 7 = true ∧ past.pulseOn 7 = false) ∧
    leads (exec (.pulseFire 7) under) under = true ∧
    leads (exec (.pulseFire 7) past) (past.setPulse 7 ⟨50, .idle⟩) = true) := by decide +kernel

theorem test_PulsesAndCaptures_captures :
    let s := run.setObj 0x2227 1 1
    let stamp : Stamp := ⟨1, 2, 3⟩
    let full := { s.setObj 0x2227 6 16 with steeple := { s.steeple with captures := [(7, List.replicate 16 stamp)] } }
    let one := { s.setObj 0x2227 6 1 with steeple := { s.steeple with captures := [(7, [stamp])] } }
    let near := { s with steeple := { s.steeple with base := 100, edges := [(7, 100)] } }
    let asleep := s.setObj 0x2100 1 2
    (leads (exec (.captureEdge 7 false) s) s = true ∧
    leads (exec (.captureEdge 7 true) near) near = true ∧
    leads (exec (.captureEdge 7 true) (s.setObj 0x2100 1 4)) (s.setObj 0x2100 1 4) = true ∧
    leads (exec (.captureEdge 7 true) asleep) ((asleep.captureEdge 7).wakeUp 4) = true ∧
    after (exec (.captureEdge 7 true) s) (fun t => t.obj 0x2227 6 == 1 &&
      Tbl.get [] t.steeple.captures 7 == [⟨s.valueAt ((s.steeple.sub : Int) - 2) % 2 ^ 64, 5000, s.rotaRecord⟩]) = true ∧
    after (exec (.captureEdge 7 true) full) (fun t => t.obj 0x2227 6 == 16 + 32 &&
      Tbl.get [] t.steeple.captures 7 == List.replicate 16 stamp) = true ∧
    leads (exec (.capturePop .ring 7) one) (one.setCapture 7 [] 0) = true) := by decide +kernel

/-- The image of a record of kind `kind`, instance 0, unsigned, for stepping 0x42 (R398). -/
def recordImage (kind : Nat) (payload : List Byte) : List Byte :=
  leBytes 4 0x46435747 ++ leBytes 2 0x6508 ++ leBytes 2 kind ++ leBytes 4 payload.length ++ [0, 1, 1] ++ leBytes 49 0 ++
    payload

/-- A copy with SEQ 5 of an image: envelope, then image (R397). -/
def storedCopy (img : List Byte) : List Byte :=
  let env := leBytes 4 5 ++ leBytes 4 img.length ++ leBytes 4 0
  env ++ leBytes 4 (copyCrc env img) ++ img

/-- DEFAULT_PULLS of PULL code 1 for bank 0. -/
def pulls : List Byte := recordImage 3 (1 :: List.replicate 15 0)

/-- The write buffer holds `pulls`, for a write of area 3. -/
def toWrite : State :=
  { (prep.setObj 0x2302 1 3).setObj 0x2302 2 80 with mem := memAt (configBase + 0x2000000) pulls }

/-- Area 3 holds a copy of `pulls` in bank 0. -/
def written : State := { prep.setObj 0x2302 1 3 with mem := memAt (copyAddr 3 0) (storedCopy pulls) }

set_option maxRecDepth 100000 in
theorem test_StoreCommandsAndPatrol_write :
    let bad := toWrite.setObj 0x2302 1 4
    (toWrite.reachedBy .ring = true ∧
    toWrite.storeClosed = false ∧
    (areaInfo 3).isSome = true ∧
    toWrite.judgeImage 3 (toWrite.bytes (configBase + 0x2000000) 80) = 0 ∧
    bad.judgeImage 4 (bad.bytes (configBase + 0x2000000) 80) = 6 ∧
    after (exec (.storeWrite .ring) toWrite) (fun t => t.store.command == some (1, 3, 0) && t.obj 0x2302 4 == 1 &&
      t.obj 0x2300 1 == 2 && t.leAt (copyAddr 3 0) 8 == 1 + 80 * 2 ^ 32 &&
      t.bytes (copyAddr 3 0 + 16) 80 == pulls) = true ∧
    leads (exec (.storeWrite .ring) bad) (bad.storeEnd 3 6) = true) := by decide +kernel

set_option maxRecDepth 100000 in
theorem test_StoreCommandsAndPatrol_commands :
    written.selectedBank 3 = some 0 ∧
    written.applyAccepted 3 = true ∧
    written.store.command = none ∧
    after (exec (.storeErase .ring) written) (fun t => t.store.command == some (2, 3, 0) && t.obj 0x2302 4 == 1 &&
      t.mem == written.mem) = true ∧
    after (exec (.storeMirror .ring) written) (fun t => t.store.command == some (3, 3, 1) &&
      t.bytes (copyAddr 3 1 + 16) 80 == pulls && t.bytes (copyAddr 3 0 + 16) 80 == pulls) = true ∧
    after (exec (.storeApply .ring) written) (fun t => t.obj 0x2302 4 == 2 && t.obj 0x2302 5 == 0 &&
      t.forceOf 3 == written.recordOf 3 && t.power.pulls == 1 :: List.replicate 11 0 && t.mem == written.mem) = true := by
  decide +kernel

set_option maxRecDepth 100000 in
theorem test_StoreCommandsAndPatrol_completes :
    let erase := { written with store := { StoreRec.rest with command := some (2, 3, 0) } }
    let write := { written with
      store := { StoreRec.rest with command := some (1, 3, 0) },
      mem := (written.setLe (copyAddr 3 0 + 12) 4 (2 ^ 32 - 1 - written.leAt (copyAddr 3 0 + 12) 4)).mem }
    (after (exec .storeCommandComplete erase) (fun t => t.store.command == none && t.obj 0x2302 4 == 2 &&
      t.bytes (copyAddr 3 0) 16 == List.replicate 16 0 && t.bytes (copyAddr 3 0 + 16) 80 == pulls) = true ∧
    after (exec .storeCommandComplete write) (fun t => t.store.command == none && t.obj 0x2302 4 == 2 &&
      t.obj 0x2302 5 == 0 && t.mem == written.mem) = true ∧
    after (exec .storeCommandComplete { written with store := { StoreRec.rest with command := some (1, 3, 0) } })
      (fun t => t.obj 0x2302 4 == 3 && t.obj 0x2302 5 == 3) = true ∧
    (written.setObj 0x2300 4 1).storeClosed = false ∧
    after (exec .storePatrol (written.setObj 0x2300 4 1)) (fun t => t.mem == written.mem && t.obj 0x2300 1 == 3 &&
      t.obj 0x2301 3 == 0x10 + 1 <<< 9 + 5 <<< 32) = true) := by decide +kernel

theorem test_KeysAndAttestation :
    let s := (prep.setObj 0x1100 6 99).setObj 0x1100 5 3
    let report := { prep.setObj 0x1110 3 1 with store := { StoreRec.rest with report := [1, 2] } }
    (s.reachedBy .ring = true ∧
    (upFrom 0 4).filter s.slotGood = [0, 1] ∧
    leads (exec (.keyProgram .ring 3) s) ((s.setObj 0x1100 4 99).setObj 0x1100 5 11) = true ∧
    leads (exec (.keyRevoke .ring 1) s) (s.setObj 0x1100 5 35) = true ∧
    prep.obj 0x1110 3 ≠ 1 ∧
    after (exec .attestReady report) (fun t => t.obj 0x1110 3 == 2 && t.mem == memAt (configBase + 0x2400000) [1, 2]) =
      true) := by decide +kernel

theorem test_StartUp_undercoat :
    ({ prep with dev := .undercoat }).steps1to3.1.faultArea = some 1 ∧
    after (exec .undercoat { prep with dev := .undercoat }) (fun t => t.dev == .fault && t.obj 0x2300 2 == 1 &&
      t.allset.cfgFail) = true := by decide +kernel

theorem test_StartUp_commands :
    let halted := (prep.setObj 0x2401 7 9)
    let s := { halted with dev := .halt }
    (s.reachedBy .ring = true ∧
    s.obj 0x2401 9 = 2 ^ 64 - 1 ∧
    after (exec (.restartCommand .ring) prep) (fun t => t.dev == .undercoat) = true ∧
    after (exec (.restartCommand .ring) { prep with dev := .fault }) (fun t => t.dev == .undercoat) = true ∧
    after (exec (.reset .ring) (s.setObj 0x2403 6 1)) (fun t => t.dev == .undercoat && t.obj 0x2401 7 == 9 &&
      t.obj 0x2403 6 == 0) = true ∧
    after (exec (.settle .ring) s) (fun t => t.dev == .hold && t.obj 0x2401 7 == 0) = true) := by decide +kernel

/-- The loader runs, cellar 0 is READY, and 64 bytes are named at offset 0 whose KIND is `kind`. -/
def staged (kind : Nat) : State :=
  let s := ((prep.setObj 0x2304 2 64).setObj 0x3800 1 2).setCore 15 { CoreRec.rest with held := false, entry := some 64 }
  { s with load := { LoadRec.rest with entry := some 64 }, mem := memAt 0 (leBytes 6 0 ++ leBytes 1 kind) }

theorem test_LoadingAndAllset_load :
    let held := { staged 1 with crofts := (sheeted prep 1 .down false).crofts }
    ((staged 1).reachedBy .ring = true ∧
    (staged 1).stageReady 0 64 = true ∧
    (staged 1).loaderRuns = true ∧
    after (exec (.loadCommand .ring) held) (fun t => t.load.running && t.load.length == 64 && t.obj 0x2380 1 == 1 &&
      t.obj 0x2380 3 == 0xFFFF && t.dev == .prep && (t.croft 129).mode == 0) = true ∧
    after (exec (.loadCommand .ring) { staged 2 with dev := .set }) (fun t => t.load.running && t.dev == .set) = true ∧
    { LoadRec.rest with running := true }.running = true ∧
    leads (exec .loadComplete prep) prep = true) := by decide +kernel

theorem test_LoadingAndAllset_allset :
    let s := { prep with dev := .set }
    let released := { s with allset := ⟨true, false, false, false⟩ }
    let dark := { prep with power := { prep.power with vstby := false } }
    (s.allsetWaits = 0 ∧
    prep.allsetWaits ≠ 0 ∧
    leads (exec .allsetRelease s) released = true ∧
    leads (exec .allsetRelease prep) prep = true ∧
    leads (exec (.hostHoldWrite .ring 1) released) (s.setObj 0x2304 5 1) = true ∧
    leads (exec (.hostHoldWrite .ring 0) s) s = true ∧
    leads (exec (.allsetSeen true) { prep with power := PowerRec.rest })
      { prep with power := PowerRec.rest, allset := ⟨false, true, false, false⟩ } = true ∧
    leads (exec (.allsetSeen true) dark) dark = true ∧
    leads (exec (.allsetSeen true) (prep.setObj 0x2100 1 2))
      ({ prep.setObj 0x2100 1 2 with allset := ⟨false, true, false, false⟩ }.wakeUp 6) = true ∧
    leads (exec (.allsetSeen true) prep) { prep with allset := ⟨false, true, false, false⟩ } = true ∧
    after (exec (.allsetSeen true) released) (fun t => t.allset == ⟨true, true, true, false⟩) = true) := by decide +kernel

/-- A state in STANDBY with VSTBY good and VMAIN as `on` says. -/
def asleep (on : Bool) : State := { State.reset with power := { PowerRec.rest with vmain := on } }

theorem test_SuppliesAndWaking_supplies :
    let dead := { State.reset with power := { PowerRec.rest with vstby := false } }
    let auto := { State.reset.setObj 0x2100 7 1 with power := { PowerRec.rest with vstby := false, vmain := true } }
    let caused := { State.reset with power := { PowerRec.rest with cause := some 8 } }
    let kept := { (prep.setObj 0x1100 5 3).setObj 0x2001 1 9 with mem := [(0, 5), (configBase, 7)] }
    (leads (exec .vstbyGood State.reset) State.reset = true ∧
    leads (exec .vstbyGood dead) State.reset = true ∧
    after (exec .vstbyGood auto) (fun t => t.dev == .waking && t.obj 0x2100 1 == 0 && t.obj 0x2100 0xA == 7) = true ∧
    after (exec .vstbyLoss kept) (fun t => t.dev == .standby && !t.power.vstby && t.obj 0x2100 1 == 4 &&
      t.obj 0x1100 5 == 3 && t.byte configBase == 7 && t.byte 0 == 0) = true ∧
    leads (exec .vmainGood (asleep true)) (asleep true) = true ∧
    leads (exec .vmainGood ((asleep false).setObj 0x2100 7 0)) ((asleep true).setObj 0x2100 7 0) = true ∧
    after (exec .vmainGood caused) (fun t => t.dev == .waking && t.obj 0x2100 0xA == 8) = true ∧
    leads (exec .powerFail (asleep true)) (asleep false) = true ∧
    after (exec .powerFail kept) (fun t => t.dev == .standby && t.obj 0x2100 0xA == 0xFE && t.obj 0x2001 1 == 9 &&
      t.byte configBase == 7 && t.byte 0 == 0 && !t.power.vmain) = true) := by decide +kernel

theorem test_SuppliesAndWaking_clocks :
    let waking := { asleep true with dev := .waking, objs := [] }
    let running := { run with power := { run.power with reference := true } }
    let held := { prep with power := { prep.power with reference := false },
                            steeple := { SteepleRec.rest with sub := 40 } }
    (after (exec (.waking 3 true) waking) (fun t => t.dev == .undercoat && t.power.brdid == 3 && t.power.green) = true ∧
    after (exec (.waking 3 false) waking) (fun t => t.dev == .waking && t.obj 0x2101 5 == 1 && t.power.brdid == 3) =
      true ∧
    after (exec .referenceArrival { waking with power := { waking.power with waits := true } }) (fun t =>
      t.dev == .undercoat) = true ∧
    leads (exec .referenceArrival prep) prep = true ∧
    leads (exec .referenceArrival held) { held.keepHeldTime with power := prep.power } = true ∧
    (held.keepHeldTime.steeple.value = held.nowValue ∧ held.nowValue ≠ held.steeple.value) ∧
    prep.pllPowered (.strokeHamlet 7) = true ∧
    leads (exec (.pllLock (.strokeHamlet 7)) prep) (prep.setObj 0x2101 4 0x80) = true ∧
    leads (exec (.pllLock (.fabric 3)) prep) prep = true ∧
    leads (exec (.pllLock (.fabric 3)) (prep.setObj 0x5001 4 65536)) ((prep.setObj 0x5001 4 65536).setObj 0x5001 5 8) =
      true ∧
    leads (exec (.pllLock .core) (asleep true)) (asleep true) = true ∧
    after (exec .referenceLoss running) (fun t => t.halts.contains 5 && bitAt (t.obj 0x2101 5) 1 &&
      t.obj 0x2200 1 == 4 && t.dev == .run && !t.power.reference) = true ∧
    after (exec .referenceLoss { prep with power := running.power }) (fun t => t.halts == [] &&
      t.dev == .prep) = true) := by decide +kernel

theorem test_SleepStates_standby :
    prep.reachedBy .ring = true ∧
    after (exec (.standbyCommand .ring) prep) (fun t => t.dev == .standby && t.obj 0x2100 1 == 4 && t.crofts == []) =
      true ∧
    leads (exec (.wakeCommand .ring) prep) prep = true ∧
    leads (exec (.wakeAlarmWrite .ring 3 0x1FFFFFFFF) prep) (prep.setObj 0x2102 4 0x1FFFFFFFF) = true ∧
    leads (exec (.wakeAlarmWrite .ring 0 (2 ^ 33 + 5)) prep) (prep.setObj 0x2102 1 5) = true ∧
    (asleep true).primaryClosed = false ∧
    after (exec (.wakeCommand .ring) (asleep true)) (fun t => t.dev == .waking && t.obj 0x2100 0xA == 2) = true ∧
    leads (exec (.wakeCommand .ring) (asleep false))
      { asleep false with power := { PowerRec.rest with cause := some 2 } } = true ∧
    leads (exec .standbyWakeTimer (asleep true)) (asleep true) = true ∧
    after (exec .standbyWakeTimer ((asleep true).setObj 0x2100 8 60)) (fun t => t.dev == .waking &&
      t.obj 0x2100 0xA == 8) = true := by decide +kernel

/-- A device in PREP that may sleep, down to state `deep`, with a wake alarm `ns` away where `ns` is not 0. -/
def drowsy (deep ns : Nat) : State :=
  let s := (prep.setObj 0x2100 3 1).setObj 0x2100 2 deep
  if ns = 0 then s else s.setObj 0x2102 1 (2 ^ 32 + ns)

theorem test_SleepStates_choice :
    let dozing := (prep.setObj 0x2100 3 1).setObj 0x2100 1 2
    let armed := { dozing with power := { prep.power with armed := some 0 } }
    (prep.mustRun = false ∧
    (drowsy 3 500).mustRun = false ∧
    (drowsy 3 500).chosenState = 0 ∧
    leads (exec .powerStateChoice (drowsy 3 500)) (drowsy 3 500) = true ∧
    (drowsy 3 501).chosenState = 1 ∧
    (drowsy 3 400000).chosenState = 1 ∧
    (drowsy 3 400001).chosenState = 2 ∧
    (drowsy 4 0).chosenState = 3 ∧
    after (exec .powerStateChoice (drowsy 3 501)) (fun t => t.obj 0x2100 1 == 1 && t.power.armed == some 451) = true ∧
    after (exec .powerStateChoice (drowsy 3 400001)) (fun t => t.obj 0x2100 1 == 2 && t.dev == .prep) = true ∧
    after (exec .powerStateChoice (drowsy 4 0)) (fun t => t.obj 0x2100 1 == 3) = true ∧
    leads (exec (.powerStateWake .tcap) dozing) dozing = true ∧
    leads (exec (.powerStateWake .eventSource) dozing) dozing = true ∧
    after (exec (.powerStateWake .tcap) (dozing.setObj 0x2220 1 3)) (fun t => t.obj 0x2100 1 == 0 &&
      t.obj 0x2100 0xA == 4) = true ∧
    after (exec (.powerStateWake .armed) armed) (fun t => t.obj 0x2100 1 == 0 && t.obj 0x2100 0xA == 1) = true ∧
    leads (exec (.powerStateWake .ring) prep) prep = true) := by decide +kernel

theorem test_PowerDomainsAndAging_domains :
    let cellar3 := prep.setObj 0x2111 1 1099
    let core15 := (prep.setObj 0x2111 1 1115)
    let cut3 := { cellar3 with power := { prep.power with cut := [11], stack := [0, 0, 0, 95] } }
    let hot7 := { (prep.setObj 0x2111 1 1063).setObj 0x2120 8 95 with power := { prep.power with cut := [7] } }
    (cellar3.cellarNamed 3 = false ∧
    leads (exec (.domainOff .ring) cellar3) ((cellar3.loseCellar 3).setOff 1099 true) = true ∧
    after (exec (.domainOn .ring) (cellar3.setOff 1099 true)) (fun t => t.power.off == [] && t.obj (cObj 3) 1 == 1) = true ∧
    leads (exec (.domainOn .ring) cellar3) cellar3 = true ∧
    after (exec (.domainRestore .ring) cut3) (fun t => t.power.cut == [] && t.obj (cObj 3) 1 == 1) = true ∧
    (core15.core 15).held = true ∧
    after (exec (.domainOff .ring) core15) (fun t => t.power.off == [1115]) = true ∧
    after (exec (.domainOn .ring) (core15.setOff 1115 true)) (fun t => t.power.off == []) = true ∧
    after (exec (.domainRestore .ring) hot7) (fun t => t.power.cut == [] && t.shutState 1023 == 3) = true) := by
  decide +kernel

theorem test_PowerDomainsAndAging_aging :
    let busy := { prep with power := { prep.power with aging := true } }
    (prep.power.aging = false ∧
    leads (exec (.agingMeasure (some .ring)) prep) busy = true ∧
    (prep.setObj 0x2130 1 24).greenOn = true ∧
    leads (exec (.agingMeasure none) (prep.setObj 0x2130 1 24)) (busy.setObj 0x2130 1 24) = true ∧
    busy.measured 0x2148 1 = true ∧
    after (exec (.agingPassComplete [⟨0x2148, 1, some (-300, 60)⟩]) busy) (fun t => !t.power.aging &&
      t.obj 0x2130 3 == 1 && t.obj 0x2148 1 == 0x003CFED4) = true ∧
    after (exec (.agingPassComplete [⟨0x2148, 1, some (-301, 4095)⟩]) busy) (fun t =>
      t.obj 0x2148 1 == 0x1FFFFED3) = true) := by decide +kernel

theorem test_HeatAndShutdowns_heat :
    let r : Readings := ⟨[70, 71, 72, 73, 74, 75, 76, -5].map (fun c => (c - 9) :: List.replicate 14 (c - 3) ++ [c]),
      [60, 1, 2, 3, 4, 5, 6, 7], [50, 51, 52, 53], 12000, 3300, 900, 77⟩
    let unpowered := { prep with power := { prep.power with vstby := false } }
    let warm := prep.setObj 0x2120 0xC 1
    let hot := ((prep.setObj 0x2120 0xC 1).setObj 0x2120 1 94)
    let due := { run.setObj 0x2120 0xC 7 with power := { run.power with rotas := 1024 } }
    (after (exec (.sensorRead r) prep) (fun t => t.obj 0x2120 1 == 70 && t.obj 0x2120 8 == 0xFB && t.obj 0x2120 9 == 60 &&
      t.power.stack == [50, 51, 52, 53] && t.obj 0x2103 1 == 12000 && t.obj 0x2103 4 == 77) = true ∧
    after (exec (.sensorRead { r with green := [1, 95, 3, 4, 5, 6, 7, 8] }) prep) (fun t => t.obj 0x2120 0xC ==
      dieValue 95 (t.objInt 0x2120 0xB 8)) = true ∧
    leads (exec (.sensorRead r) unpowered) unpowered = true ∧
    leads (exec .thermalLevelFall warm) (warm.setObj 0x2120 0xC 0) = true ∧
    leads (exec .thermalLevelFall hot) hot = true ∧
    due.obj 0x2121 7 ≤ due.power.rotas ∧
    after (exec .thermalRequest due) (fun t => t.power.rotas == 0 && t.bell.thermal == some due.requestExec &&
      t.obj 0x2120 0xD == 1) = true) := by decide +kernel

theorem test_HeatAndShutdowns_shutdowns :
    let stack := { run with power := { run.power with stack := [0, 0, 0, 110] }, mem := [(0, 1), (3 * cellarBytes, 9)] }
    (after (exec (.safetyShutdown (.cellar 3)) stack) (fun t => t.power.cut == [11] && t.obj (cObj 3) 1 == 0 &&
      t.halts.contains 6 && t.mem == [(0, 1)]) = true ∧
    after (exec (.safetyShutdown .green) (prep.setObj 0x2120 9 110)) (fun t => t.dev == .standby &&
      t.obj 0x2100 1 == 4 && t.obj 0x2100 0xA == 0xFE) = true) := by decide +kernel

theorem test_HeatAndShutdowns_hamlet :
    after (exec (.safetyShutdown (.hamlet 7)) (run.setObj 0x2120 8 115)) (fun t => t.power.cut == [7] &&
      t.halts.contains 6 && (t.croft 1023).mode == 0) = true := by decide +kernel

/-- A module with ring address 5 whose expected alive value is 1, its primary receiver locked. -/
def ringed : State :=
  { (prep.setObj 0x1010 1 5).setObj 0x1010 4 1 with ring := { RingRec.rest with lockP := true } }

/-- A good frame. -/
def frame (type dest alive : Nat) (payload : List Byte) : RingFrame := ⟨makeFrame type dest 0 alive 0 payload, false⟩

/-- Whether a RESPONSE is due and carries `payload`. -/
def responds (o : Host.Outcome State Fault Refusal) (alive : Nat) (payload : List Byte) : Bool :=
  after o (fun t => t.ring.due == some (makeFrame 3 0 5 alive (aliveNext alive) payload, true, .nothing) &&
    t.obj 0x1010 4 == aliveNext alive && t.obj 0x1010 8 == 1)

theorem test_RingCommandsAndAnswers_read :
    let f := frame 1 5 1 [0x01, 0x24, 0x07]
    let s := ringed.setObj 0x2401 7 0x1234
    (s.hears .primary = true ∧
    s.route .primary f.bytes = .consume ∧
    (s.bump 0x1010 8).frameFault f = none ∧
    fType f.bytes = 1 ∧
    fAlive f.bytes = s.obj 0x1010 4 ∧
    s.obj 0x2100 1 = 0 ∧
    after (exec (.read .primary f) s) (fun t => t.ring.due.isSome && t.obj 0x1010 4 == 2) = true ∧
    s.ring.due = none ∧
    s.ring.move = none ∧
    responds (exec (.read .primary (frame 1 5 1 [0xFF, 0x0F, 0])) s) 1 (leBytes 4 abNoObject) = true) := by
  decide +kernel

theorem test_RingCommandsAndAnswers_write :
    let f := frame 2 5 1 [0x02, 0x21, 0x04, 8, 9, 0, 0, 0, 0, 0, 0, 0]
    (ringed.route .primary f.bytes = .consume ∧
    (ringed.bump 0x1010 8).frameFault f = none ∧
    responds (exec (.writeObject .primary f) ringed) 1 [0, 0, 0, 0] = true ∧
    after (exec (.writeObject .primary f) ringed) (fun t => t.obj 0x2102 4 == 9) = true) := by decide +kernel

theorem test_RingCommandsAndAnswers_memory :
    let a := leBytes 6 (configBase + 0x2000000)
    let r := frame 6 5 1 (a ++ [8])
    let w := frame 7 5 1 (a ++ [8] ++ leBytes 8 9)
    let lost := frame 6 5 1 (leBytes 6 (2 ^ 47) ++ [8])
    let busy := { ringed with opn := { ringed.opn with
      parked := [⟨{ Asker.plain 1113 with home := 1035 }, .config 0x2000000, .read 8⟩] } }
    (ringed.route .primary r.bytes = .consume ∧
    (ringed.bump 0x1010 8).frameFault r = none ∧
    (ringed.bump 0x1010 8).frameFault w = none ∧
    (ringed.bump 0x1010 8).frameFault lost = none ∧
    ringed.reaches 1113 (.config 0x2000000) 8 = true ∧
    busy.waitsFor 1034 1113 = true ∧
    responds (exec (.mread .primary r) ringed) 1 (leBytes 4 0 ++ List.replicate 8 0) = true ∧
    responds (exec (.mwrite .primary w) ringed) 1 (leBytes 4 0) = true ∧
    after (exec (.mwrite .primary w) ringed) (fun t => t.mem == [(configBase + 0x2000000, 9)]) = true ∧
    responds (exec (.mread .primary lost) ringed) 1 (leBytes 4 (abMemory opDecode)) = true ∧
    after (exec (.mread .primary r) busy) (fun t => t.ring.due == none &&
      t.ring.move == some ⟨r.bytes, true, 0, [], none⟩) = true) := by decide +kernel

theorem test_RingCommandsAndAnswers_moved :
    let a := leBytes 6 (configBase + 0x2000000)
    let bs := (frame 6 5 1 (a ++ [8])).bytes
    let got := fun (op : Nat) (data : List Byte) => { ringed with
      ring := { ringed.ring with move := some ⟨bs, true, 0, [], some (op, data)⟩ } }
    (after (exec .response (got opData (leBytes 8 9))) (fun t => t.ring.move == none && t.ring.due == none &&
      t.ring.sentP == [makeFrame 3 0 5 1 1 (leBytes 4 0 ++ leBytes 8 9)]) = true ∧
    after (exec .response (got opShuttered [])) (fun t => t.ring.move == none && t.obj 0x1010 0xB == 1 &&
      t.ring.sentP == [makeFrame 3 0 5 1 1 (leBytes 4 (abMemory opShuttered))]) = true) := by decide +kernel

theorem test_RingCommandsAndAnswers_answers :
    let again := { ringed.setObj 0x1010 4 2 with ring := { ringed.ring with stored := some [7] } }
    let f := frame 1 5 1 [0x01, 0x24, 0x07]
    let b := frame 2 0x7FFF 0 [0x02, 0x21, 0x04, 8, 9, 0, 0, 0, 0, 0, 0, 0]
    let a := frame 4 0 0 [0x00, 0x40, 0, 0]
    let open2 := { ringed.setObj 0x1010 6 1 with ring := { ringed.ring with lockB := true, lossB := false } }
    let refused := { ringed with ring := { ringed.ring with refused := [[1], [2]] } }
    (leads (exec .response refused) { refused with ring := { refused.ring with sentP := [[1]], refused := [[2]] } } = true ∧
    after (exec (.read .primary (frame 1 5 9 [0x01, 0x24, 0x07])) ringed) (fun t => t.ring.due == none &&
      t.ring.refused == [makeFrame 3 0 5 9 1 (leBytes 4 abSequence)] && t.obj 0x1010 4 == 1 && t.obj 0x1010 0xB == 1) = true ∧
    leads (exec .response { ringed with ring := { ringed.ring with due := some ([1], true, .nothing) } })
      { ringed with ring := { ringed.ring with sentP := [[1]], stored := some [1] } } = true ∧
    (again.bump 0x1010 8).frameFault f = none ∧
    fAlive f.bytes = alivePrev (again.obj 0x1010 4) ∧
    leads (exec (.read .primary f) again) ((again.bump 0x1010 8).sendP [7]) = true ∧
    (ringed.bump 0x1010 8).frameFault b = none ∧
    fDest b.bytes = ringBroadcast ∧
    after (exec (.broadcastWrite b) ringed) (fun t => t.obj 0x2102 4 == 9 && t.ring.sentP == [b.bytes]) = true ∧
    ringed.frameFault a = none ∧
    ringed.branchClosed = true ∧
    open2.branchClosed = false ∧
    after (exec (.assign .primary a) ringed) (fun t => t.obj 0x1010 1 == 0x4000 && t.obj 0x1010 2 == 0 &&
      t.ring.sentP == [withNext a.bytes 0x4001]) = true ∧
    after (exec (.assign .primary a) open2) (fun t => t.obj 0x1010 1 == 0x4000 && t.obj 0x1010 2 == 0x4001 &&
      t.ring.assign && t.ring.sentB == [withNext a.bytes 0x4001]) = true) := by decide +kernel

theorem test_RingForwardingAndStiles_frames :
    let open2 := { ((ringed.setObj 0x1010 6 1).setObj 0x1010 2 6).setObj 0x1010 3 9 with
      ring := { ringed.ring with lockB := true, lossB := false } }
    let away := frame 1 9 1 [0, 0, 0]
    let up := frame 1 10 1 [0, 0, 0]
    let none' := frame 1 0x4001 1 [0, 0, 0]
    let bad : RingFrame := ⟨(frame 1 5 1 [0, 0, 0]).bytes, true⟩
    (open2.hears .primary = true ∧
    open2.hears .branch = true ∧
    open2.route .primary away.bytes = .toBranch ∧
    after (exec (.frameForward .primary away) open2) (fun t => t.ring.sentB == [away.bytes]) = true ∧
    open2.route .primary up.bytes = .toPrimary ∧
    after (exec (.frameForward .primary up) open2) (fun t => t.ring.sentP == [up.bytes]) = true ∧
    open2.route .primary none'.bytes = .drop ∧
    leads (exec (.ringFrameDiscard .primary none') open2) (open2.bump 0x1010 0xA) = true ∧
    open2.route .primary bad.bytes = .consume ∧
    leads (exec (.ringFrameDiscard .primary bad) open2) ((open2.bump 0x1010 8).bump 0x1010 0xA) = true) := by
  decide +kernel

/-- Source 2048 is enabled for target `tgt` and instance `inst`. -/
def sourced (tgt inst : Nat) : State := prep.setObj 0x6080 1 (1 + tgt <<< 5 + inst <<< 8)

theorem test_RingForwardingAndStiles_rest :
    let s := (((sourced 3 0).setObj 0x6080 0x11 1).setObj 0x6080 0x13 5).setObj 0x1010 1 5
    let two := { (s.setObj 0x6080 2 (1 + 3 <<< 5)).setObj 0x6080 0x11 3 with ring := { s.ring with notes := [2048, 2049] } }
    let shut := { ringed with ring := { ringed.ring with closedP := some 20 } }
    let away := frame 1 9 1 [0, 0, 0]
    let open2 := { ringed.setObj 0x1010 6 1 with ring := { ringed.ring with lockB := true, lossB := false, closedB := true } }
    (s.evPowered = true ∧
    s.evPending 2048 = true ∧
    s.primaryClosed = false ∧
    after (exec (.notify 2048) s) (fun t => t.ring.sentP == [makeFrame 5 0 5 0 0 [0, 8, 0, 0, 5, 0]]) = true ∧
    leads (exec (.notify 2048) (s.setObj 0x1010 1 0)) (s.setObj 0x1010 1 0) = true ∧
    (two.notifies 2048 = true ∧ two.notifies 2049 = true ∧ two.evFirst 2049 2048 = 2048) ∧
    leads (exec (.notify 2049) two) two = true ∧
    after (exec (.notify 2048) two) (fun t => t.ring.notes == [2049]) = true ∧
    shut.primaryClosed = true ∧
    after (exec (.frameForward .primary away) shut) (fun t => t.ring.sentP == [away.bytes]) = true ∧
    ringed.reachedBy .ring = true ∧
    after (exec (.stileClosePrimary .ring 20) ringed) (fun t => t.ring.closedP == some 20) = true ∧
    after (exec (.stileCloseBranch .ring) ringed) (fun t => t.ring.closedB) = true ∧
    after (exec (.stileOpenBranch .ring) open2) (fun t => !t.ring.closedB) = true ∧
    after (exec .branchLockLoss open2) (fun t => !t.ring.lockB && t.ring.lossB &&
      bitAt (t.obj (evIndex 1363) (0x13 + 1363 % 16)) 0) =
      true) := by decide +kernel

theorem test_EventsFire :
    let pend := (sourced 2 63).setObj 0x6080 0x11 1
    let unmasked := { sourced 2 63 with msixEnable := true, mem := memAt (msixTable + 63 * 16 + 12) [1] }
    let waiting := { unmasked with msixPending := 1#64 <<< 63 }
    let both := { waiting with msixPending := 3#64 <<< 62,
                               mem := memAt (msixTable + 62 * 16 + 12) [1] ++ memAt (msixTable + 63 * 16 + 12) [1] }
    let dark := { prep with power := { prep.power with vstby := false } }
    (causeListed 1363 3 = false ∧
    leads (exec (.eventFire 1363 3) prep) prep = true ∧
    causeListed 2048 0 = true ∧
    leads (exec (.eventFire 2048 0) prep) (prep.setObj 0x6080 0x13 1) = true ∧
    leads (exec (.eventFire 2048 0) pend) ((pend.setObj 0x6080 0x13 1).setObj 0x6080 0x12 1) = true ∧
    after (exec (.eventFire 2048 0) (sourced 1 15)) (fun t => t.evPending 2048 && bitAt (t.obj 0x531F 3) 2) = true ∧
    unmasked.msixBlocked 63 = false ∧
    after (exec (.eventFire 2048 0) unmasked) (fun t => t.msixSent == [63]) = true ∧
    leads (exec (.softwareRaise .ring 4095) prep) (prep.fire 4095 0) = true ∧
    leads (exec (.msixPendingSend 63) waiting) { unmasked with msixSent := [63] } = true ∧
    (both.vectorBefore 62 63 = true ∧ both.vectorBefore 63 62 = false) ∧
    leads (exec (.msixPendingSend 62) both) { both with msixPending := 1#64 <<< 63, msixSent := [62] } = true ∧
    leads (exec (.msixPendingSend 63) both) both = true ∧
    leads (exec (.eventFire 2048 0) dark) dark = true ∧
    prep.msixBlocked 63 = true ∧
    leads (exec (.msixPendingSend 63) prep) prep = true) := by decide +kernel

theorem test_HostAndTestPorts_endpoint :
    let cold := { prep with pcie := { PcieRec.rest with perst := true } }
    (prep.granted 1143 = true ∧
    after (exec (.configurationRequest (.write 4 0) 9) { prep with pcie := PcieRec.rest }) (fun t =>
      t.pcie.completion == some (2, [])) = true ∧
    after (exec (.configurationRequest (.msix true false) 0x45) cold) (fun t => t.pcie.served && t.obj 0x1020 2 == 0x45 &&
      t.pcie.completion == some (0, []) && t.msixEnable && !t.msixFuncMask) = true ∧
    after (exec (.configurationRequest (.write 7 0x80000012) 0x45) cold) (fun t =>
      t.pcie.bar2 == 0x8000001000000000 && t.pcie.bar0 == 0) =
      true ∧
    after (exec (.configurationRequest (.write 6 0xFFFFFFFF) 0x45) cold) (fun t => t.pcie.bar2 == 0) = true ∧
    after (exec (.configurationRequest (.read 6) 0x45) cold) (fun t => t.pcie.completion == some (0, [0xC, 0, 0, 0])) = true ∧
    after (exec (.configurationRequest .msixRead 0x45) cold) (fun t => t.pcie.completion == some (0, t.msixCapability)) = true ∧
    after (exec (.configurationRequest .aerRead 0x45) { prep with pcie := { cold.pcie with aborted := some ⟨0, 9, 8⟩ } })
      (fun t => (t.pcie.completion.map (fun c => (c.1, c.2.length, c.2.take 4))) == some (0, 20, [0, 0x80, 0, 0])) = true ∧
    after (exec (.configurationRequest .aerClear 0x45) { prep with pcie := { cold.pcie with aborted := some ⟨0, 9, 8⟩ } })
      (fun t => t.pcie.completion == some (0, []) && t.pcie.aborted == none) = true ∧
    leads (exec (.perst true) { prep with pcie := PcieRec.rest }) cold = true ∧
    after (exec (.perst false) { prep with msixEnable := true, mem := [(0, 1), (msixTable, 3)] }) (fun t =>
      t.pcie == .rest && !t.msixEnable && t.mem == [(0, 1)] && t.dev == .prep) = true ∧
    leads (exec (.bar0Access 0 (.read 8)) cold) cold = true) := by decide +kernel

theorem test_HostAndTestPorts_windows :
    let off := (0x2102 - 0x1000) * 0x800 + 4 * 8
    let moving := { prep with pcie := { prep.pcie with moves := [⟨0, 0, .read 8, 0, [], none⟩] } }
    (prep.pcie.served = true ∧
    off < 0x2880000 ∧
    slotAccess (off + 4) 4 = true ∧
    after (exec (.bar0Access (off + 4) (.read 4)) (prep.setObj 0x2102 4 0x123456789)) (fun t =>
      t.pcie.completion == some (0, [1, 0, 0, 0])) = true ∧
    after (exec (.bar0Access off (.write [1, 2, 0, 0, 0, 0, 0, 0])) prep) (fun t => t.obj 0x2102 4 == 0x201) = true ∧
    placeOf (prep.obj 0x1020 1 + configBase + 0x2000000) = some (.config 0x2000000) ∧
    prep.reaches 1112 (.config 0x2000000) 4 = true ∧
    placeOf (prep.obj 0x1020 1 + 4 * cellarBytes) = none ∧
    after (exec (.bar2Access (configBase + 0x2000000) (.read 4)) prep) (fun t =>
      t.pcie.completion == some (0, [0, 0, 0, 0])) = true ∧
    after (exec (.bar2Access (configBase + 0x2000000) (.write [1, 2, 3, 4])) prep) (fun t => gets t 1112 opAck [] &&
      t.bytes (configBase + 0x2000000) 4 == [1, 2, 3, 4]) = true ∧
    after (exec (.bar2Access (4 * cellarBytes) (.read 4)) prep) (fun t => t.pcie.completion == some (4, [])) = true ∧
    after (exec (.bar2Access (4 * cellarBytes) (.write [1])) prep) (fun t => t.obj 0x1020 4 == 1 &&
      t.pcie.aborted == some ⟨2, 4 * cellarBytes, 1⟩) = true ∧
    after (exec (.bar0Access (off + 4) (.write (List.replicate 8 1))) prep) (fun t => gets t 1112 opDecode [] &&
      t.obj 0x1020 4 == 1 && t.pcie.aborted == some ⟨0, off + 4, 8⟩) = true ∧
    after (exec (.bar2Access 8 (.read 4)) moving) (fun t => t.pcie.moves ==
      [⟨0, 0, .read 8, 0, [], none⟩, ⟨8, prep.obj 0x1020 1 + 8, .read 4, 0, [], none⟩]) = true) := by
  decide +kernel

theorem test_HostAndTestPorts_octet :
    let s := { prep with mirror := { MirrorRec.rest with selector := 0x42102 } }
    let held := { prep with allset := ⟨true, true, false, false⟩ }
    let start := { s with mirror := { s.mirror with selector := 0x42403 } }
    let loaded := fun (u : State) (code : BitVec 8) (testEn : Bool) =>
      { u with tap := ⟨code, testEn, .runTestIdle, u.freeKey 0, u.tap.sampled⟩ }.freeNext
    let dark := { prep with power := { prep.power with vstby := false } }
    (octetAccess 24 8 = true ∧
    objRow s.selected.1 s.selected.2 ≠ none ∧
    (s.reaches 1024 (.mirror offOctet) 1 = true) ∧
    (s.reaches 1024 (.mirror offOctet) 32 = true) ∧
    answers (exec (.octetDataWrite 1024 0 [5]) s) { s with mirror := { s.mirror with
      buffer := 5 :: List.replicate 31 0 } } 1024 opAck = true ∧
    answers (exec (.octetDataWrite 1112 0 [5]) s) { s with mirror := { s.mirror with
      buffer := 5 :: List.replicate 31 0 } } 1112 opAck = true ∧
    after (exec (.octetDataWrite 1112 0 (5 :: List.replicate 31 0)) s) (fun t => t.obj 0x2102 4 == 5) = true ∧
    start.selected = (0x2403, 4) ∧
    after (exec (.octetDataWrite 1024 0 (5 :: List.replicate 31 0)) start) (fun t => t.obj 0x2403 4 == 5 &&
      gets t 1024 opAck []) = true ∧
    prep.tapDriving = false ∧
    (prep.greenOn = true ∧ (loaded prep 6 false).tapDriving = true ∧ (loaded prep 6 true).tapDriving = false) ∧
    leads (exec (.tapInstruction 3 true) prep) (loaded prep 3 true) = true ∧
    leads (exec (.tapInstruction 2 true) prep) { loaded prep 2 true with
      tap := ⟨2, true, .runTestIdle, prep.freeKey 0, some (loaded prep 2 true).landSample⟩ } = true ∧
    leads (exec (.tapInstruction 6 false) held)
      { loaded held 6 false with allset := ⟨false, true, false, false⟩ } = true ∧
    leads (exec (.tapInstruction 6 false) dark) dark = true ∧
    leads (exec .tapInstructionExit dark) dark = true ∧
    after (exec .tapInstructionExit (loaded prep 6 false)) (fun t => !t.tapDriving && t.tapData == .idcode &&
      t.tap.code == 1 && t.tap.fsm == .testLogicReset) = true) := by decide +kernel

/-- Croft 1023 in mode 1 whose BP 63 holds payload `p` at word 9. -/
def evaluating (p : Nat) : State :=
  prep.setCroft 1023 (({ CroftRec.blank with mode := 1 }).setWord 63 9 (makeWord (BitVec.ofNat 72 p)))

/-- Operands A = 1 (0xFFF), B = 0 (0xFFE), C = 1, D as given; truth table 0x0020 (V = 5) or 0x2020. -/
def evalWord (cls hold d tt : Nat) : Nat :=
  hold <<< 4 + cls <<< 5 + 0xFFF <<< 8 + 0xFFE <<< 20 + 0xFFF <<< 32 + d <<< 44 + tt <<< 56

theorem test_BpStroke :
    let held := evaluating (evalWord 0 1 0xFFE 0x20)
    let plain := evaluating (evalWord 0 0 0xFFE 0x20)
    let latch := evaluating (evalWord 1 0 0x1FF 0x20)
    (fetchPayload (plain.croft 1023) 9 63 = evalWord 0 0 0xFFE 0x20 ∧
    wHold (evalWord 0 1 0xFFE 0x20) = true ∧
    wClass (evalWord 1 0 0x1FF 0x20) = 1 ∧
    wD (evalWord 1 0 0x1FF 0x20) = 0x1FF ∧
    (((plain.croftStroke 1023 9).1.croft 1023).bp 63).out = true ∧
    (((plain.croftStroke 1023 9).1.croft 1023).bp 63).hist = 1#1024 <<< 9 ∧
    (((held.croftStroke 1023 9).1.croft 1023).bp 63).out = false ∧
    (((latch.croftStroke 1023 9).1.croft 1023).bp 63).out = true ∧
    (((latch.croftStroke 1023 9).1.croft 1023).bp 63).wmask = 1#512 <<< 511 ∧
    (((latch.croftStroke 1023 9).1.croft 1023).bp 63).wval = 1#512 <<< 511) := by decide +kernel

theorem test_StrokeClockByGrade :
    let s13 := { prep with fuse := { prep.fuse with grade := 13 } }
    (prep.fuse.grade = 16 ∧
    leads (exec (.registerWrite .ring 0x2101 2 [13]) prep) (prep.setObj 0x2101 2 13) = true ∧
    s13.reachedBy .ring = true ∧
    leads (exec (.registerWrite .ring 0x2101 2 [16]) s13) (s13.bump 0x1010 0xB) = true ∧
    s13.strokeClock = 13) := by decide +kernel

theorem test_PopOnEmpty :
    let s := (trough 2 9 9).setObj 0x51FF 4 7
    (admissible 9 9 (s.thresh 255) = false ∧
    s.reaches 1024 (.trough 255 0x10) 8 = true ∧
    after (exec (.pop 1024 255) s) (fun t => gets t 1024 opData [7, 0, 0, 0, 0, 0, 0, 0] &&
      t.obj 0x51FF 5 == 9 && (t.trough 255).popStatus == 0) = true ∧
    admissible (s.obj 0x51FF 7) (s.trough 255).window (s.thresh 255) = false ∧
    (s.designPop 255).2.item = 7) := by decide +kernel

theorem test_GangResults :
    gangResult 0 0x0800 11 = some true ∧
    gangResult 1 0xFFFE 0 = some false ∧
    gangResult 2 0x0001 0 = some true ∧
    gangResult 3 0x8001 0 = some false := by decide

end Sys2Proof.Tests
end

section
/-!
PROOF. Speed grades (R2): the setting of the stroke clock, and what the record of a refused write leaves as it was.
-/

namespace Sys2Proof.Machine

open Sys2Proof

/-! ## What the record of an access leaves as it was -/

/-- `t` has the fuses and the memory of `s`, and the same value of object `i.sub`. -/
structure State.Keeps (i sub : Nat) (s t : State) : Prop where
  fuse : t.fuse = s.fuse
  obj : t.obj i sub = s.obj i sub
  mem : t.mem = s.mem

theorem keeps_refl (i sub : Nat) (s : State) : State.Keeps i sub s s := ⟨rfl, rfl, rfl⟩

/-- The stroke clock rests on its object and the grade alone (R2, R3). -/
theorem strokeClock_of_keeps {s t : State} (h : State.Keeps 0x2101 2 s t) : t.strokeClock = s.strokeClock := by
  simp only [State.strokeClock, h.obj, h.fuse]

section Keeps

variable {i sub : Nat} {s t : State}

theorem keeps_ite {p : Prop} [Decidable p] {u : State} (ht : State.Keeps i sub s t) (hu : State.Keeps i sub s u) :
    State.Keeps i sub s (if p then t else u) := by
  split
  · exact ht
  · exact hu

theorem keeps_setObj {j b : Nat} (v : Nat) (hk : objKey i sub ≠ objKey j b) (h : State.Keeps i sub s t) :
    State.Keeps i sub s (t.setObj j b v) :=
  ⟨h.fuse, (obj_setObj_other t v hk).trans h.obj, h.mem⟩

theorem keeps_bump {j b : Nat} (n : Nat) (hk : objKey i sub ≠ objKey j b) (h : State.Keeps i sub s t) :
    State.Keeps i sub s (t.bump j b n) :=
  keeps_setObj _ hk h

theorem keeps_peak {j b : Nat} (v : Nat) (hk : objKey i sub ≠ objKey j b) (h : State.Keeps i sub s t) :
    State.Keeps i sub s (t.peak j b v) :=
  keeps_ite (keeps_setObj v hk h) h

/-- The mirror's record of a refusal (R473) stands outside the object store. -/
theorem keeps_noteMirror (who j b c : Nat) (h : State.Keeps i sub s t) :
    State.Keeps i sub s (t.noteMirror who j b c) where
  fuse := by simp only [State.noteMirror, h.fuse]
  obj := by simpa only [State.noteMirror, State.obj] using h.obj
  mem := by simp only [State.noteMirror, h.mem]

/-- Bytes that wait for a tally (R326) have landed nowhere yet. -/
theorem keeps_snoopBy (u : State) (kind inst : Nat) (bs : List Byte) (h : State.Keeps i sub s t) :
    State.Keeps i sub s (t.snoopBy u kind inst bs) := by
  unfold State.snoopBy
  induction upFrom 0 16 generalizing t with
  | nil => exact h
  | cons n ns ih =>
    rw [List.foldl_cons]
    exact ih (keeps_ite ⟨h.fuse, h.obj, h.mem⟩ h)

/-- A latency that is a free value is a note for the statistics (R184). -/
theorem keeps_sampleWait (init : Nat) (grant : Bool) (h : State.Keeps i sub s t) :
    State.Keeps i sub s (t.sampleWait init grant) := ⟨h.fuse, h.obj, h.mem⟩

/-- The statistics of the packet initiators (R190) stand above every object of the blocks below 0x4880. -/
theorem objKey_ne_statObj (hi : i < 0x4880) (hsub : sub < 256) (init b : Nat) :
    objKey i sub ≠ objKey (statObj init) b := by
  unfold objKey statObj
  omega

theorem keeps_countLatency (hi : i < 0x4880) (hsub : sub < 256) (init lat : Nat) (h : State.Keeps i sub s t) :
    State.Keeps i sub s (t.countLatency init lat) := by
  have hk := objKey_ne_statObj hi hsub init
  exact keeps_bump _ (hk _) (keeps_bump _ (hk _) (keeps_peak _ (hk _) (keeps_ite (keeps_setObj _ (hk _) h) h)))

/-- An answered transaction touches the statistics of its initiator alone (R184). -/
theorem keeps_countAnswer (hi : i < 0x4880) (hsub : sub < 256) (who : Asker) (op : Nat)
    (h : State.Keeps i sub s t) : State.Keeps i sub s (t.countAnswer who op) := by
  have hk := objKey_ne_statObj hi hsub who.init
  have sized := fun n => keeps_bump n (hk 2) (keeps_bump 1 (hk 1) h)
  have counted := fun n => keeps_ite (p := op = opData ∨ op = opAck) (sized n) (keeps_bump 1 (hk 7) (sized n))
  refine keeps_ite h ?_
  split
  · exact keeps_countLatency hi hsub _ _ (counted _)
  · exact keeps_sampleWait _ _ (counted _)

/-- A write over a path counts as a transaction of its initiator and touches nothing below the statistics. -/
theorem keeps_viaAnswer (hi : i < 0x4880) (hsub : sub < 256) (u : State) (via : Via) (n v : Nat)
    (h : State.Keeps i sub s t) : State.Keeps i sub s (u.viaAnswer via n v t) := by
  unfold State.viaAnswer
  split
  · exact h
  · exact keeps_countAnswer hi hsub _ _ (keeps_snoopBy u _ _ _ h)

/-- A refusal is recorded in the ring's objects (0x1010) or the mirror's record (R468, R471, R473). -/
theorem keeps_viaRefused (hi : i ≠ 0x1010) (hsub : sub < 256) (j b c : Nat) (via : Via)
    (h : State.Keeps i sub s t) : State.Keeps i sub s (t.viaRefused j b c via) := by
  have hk : ∀ e < 256, objKey i sub ≠ objKey 0x1010 e := fun e he hEq => hi ((objKey_inj hsub he).mp hEq).1
  cases via with
  | ring => exact keeps_bump 1 (hk 0xB (by decide)) h
  | broadcast => exact keeps_setObj _ (hk 0xE (by decide)) (keeps_bump 1 (hk 0xD (by decide)) h)
  | bar0 => exact keeps_noteMirror _ _ _ _ h
  | mirror init => exact keeps_noteMirror _ _ _ _ h

end Keeps

/-! ## The stroke clock's object (R2, R453) -/

theorem objSubs_strokeClock : objSubs 0x2101 = some subs2101 := by decide +kernel

theorem findSub_strokeClock : findSub 2 subs2101 = some ⟨2, 2, 1, .rw, 0⟩ := by decide

theorem tableShut_strokeClock (s : State) : s.tableShut 0x2101 2 = false := rfl

theorem noteRefusal_strokeClock (s : State) (v c : Nat) : s.noteRefusal 0x2101 2 v c = s := rfl

theorem writeObj_strokeClock (s : State) (v : Nat) :
    s.writeObj 0x2101 2 v = plainWrite (s.writeStrokeClock v) := rfl

/-- A write of the stroke clock in one byte is a write of the object in its own size. -/
theorem exec_registerWrite_strokeClock (via : Via) (b : Byte) (s : State) :
    exec (.registerWrite via 0x2101 2 [b]) s = .next (s.rowWrite via 0x2101 2 b.toNat) := by
  have hb : objBits 0x2101 2 / 8 = 1 := by
    simp only [objBits, objRow, objSubs_strokeClock, findSub_strokeClock]
  rw [State.rowWrite, hb]
  rfl

/-- In PREP every grade takes 1.3 GHz. -/
theorem writeStrokeClock_slow {s : State} (h : s.dev = .prep) :
    s.writeStrokeClock 13 = .ok (s.setObj 0x2101 2 13) := by
  simp [State.writeStrokeClock, h]

/-- An S13 device refuses 1.6 GHz in every device state. -/
theorem writeStrokeClock_fast_refused {s : State} (h : s.fuse.grade = 13) :
    s.writeStrokeClock 16 = .error abState := by
  simp [State.writeStrokeClock, h]

/-- R470: the management write of an object whose chapter refuses the value is the chapter's abort. -/
theorem manage_refused {s : State} {i sub v c : Nat} {subs : List SubRow} {row : SubRow}
    (hs : objSubs i = some subs) (hf : findSub sub subs = some row) (hacc : row.acc = .wo ∨ row.acc = .rw)
    (hopen : s.tableShut i sub = false) (hw : s.writeObj i sub v = .error c) :
    s.manage i sub row.size v = .error c := by
  simp only [State.manage, dictWrite_eq hs hf]
  rcases hacc with e | e <;> simp [e, State.accessRefused, hopen, State.writeByCode, hw]

/-- Settles O59: an S16 device takes the S13 stroke clock in PREP by the write of its object; on an S13 device the
write of 1.6 GHz is refused, and the record of a refusal reaches neither the object, nor the fuses, nor memory. -/
theorem strokeClockByGrade : Obligations.StrokeClockByGrade := by
  unfold Obligations.StrokeClockByGrade
  constructor
  · intro via s hreach _ hprep
    have taken : s.writeObj 0x2101 2 13 = .ok (s.setObj 0x2101 2 13, .nothing) := by
      rw [writeObj_strokeClock, writeStrokeClock_slow hprep, plainWrite]
    rw [exec_registerWrite_strokeClock]
    exact congrArg Host.Outcome.next (rowWrite_done hreach objSubs_strokeClock findSub_strokeClock (.inr rfl)
      (tableShut_strokeClock s) (by decide) taken)
  · intro via s hreach hgrade
    have refused : s.writeObj 0x2101 2 16 = .error abState := by
      rw [writeObj_strokeClock, writeStrokeClock_fast_refused hgrade, plainWrite]
    have kept : State.Keeps 0x2101 2 s (s.rowWrite via 0x2101 2 16) := by
      rw [rowWrite_refused hreach objSubs_strokeClock findSub_strokeClock (.inr rfl) (tableShut_strokeClock s) refused,
        noteRefusal_strokeClock]
      exact keeps_viaAnswer (by decide) (by decide) s via _ _
        (keeps_viaRefused (by decide) (by decide) _ _ _ via (keeps_refl _ _ s))
    exact ⟨manage_refused objSubs_strokeClock findSub_strokeClock (.inr rfl) (tableShut_strokeClock s) refused,
      _, exec_registerWrite_strokeClock via 16 s, strokeClock_of_keeps kept, kept.obj, kept.mem⟩

end Sys2Proof.Machine
end

section
/-!
PROOF. The gang results (R75): the model's whole-word tests and its parity, read bit by bit.
-/

namespace Sys2Proof.Machine

open Sys2Proof

/-! ## A word as its bits -/

theorem eq_allOnes_iff_getLsbD {w : Nat} {x : BitVec w} :
    x = BitVec.allOnes w ↔ ∀ i : Fin w, x.getLsbD i.val = true := by
  rw [BitVec.eq_of_getLsbD_eq_iff]
  constructor
  · intro h i
    rw [h i.val i.isLt, BitVec.getLsbD_allOnes, decide_eq_true i.isLt]
  · intro h i hi
    rw [h ⟨i, hi⟩, BitVec.getLsbD_allOnes, decide_eq_true hi]

theorem ne_zero_iff_getLsbD {w : Nat} {x : BitVec w} : x ≠ 0 ↔ ∃ i : Fin w, x.getLsbD i.val = true := by
  rw [Ne, BitVec.eq_of_getLsbD_eq_iff, Fin.exists_iff]
  simp only [BitVec.ofNat_eq_ofNat, BitVec.getLsbD_zero, not_forall, Bool.not_eq_false]

/-- `parity` takes its bits by halving; a fold over bit numbers from `lo` on takes the same bits of `n` shifted by
`lo`, and an accumulator `acc` of the XOR stands in front of them. -/
theorem foldl_xor_testBit_upFrom (n : Nat) : ∀ (k lo : Nat) (acc : Bool),
    (upFrom lo k).foldl (fun x i => x != n.testBit i) acc = (acc != parity k (n >>> lo)) := by
  intro k
  induction k with
  | zero => intro lo acc; simp [upFrom, parity]
  | succ k ih =>
    intro lo acc
    have lowBit : n.testBit lo = (n >>> lo % 2 == 1) := by
      rw [Nat.testBit_eq_decide_div_mod_eq, Nat.shiftRight_eq_div_pow, Bool.beq_eq_decide_eq]
    have halved : n >>> lo / 2 = n >>> (lo + 1) := (Nat.shiftRight_succ n lo).symm
    rw [upFrom, List.foldl_cons, ih, parity, lowBit, halved]
    exact Bool.xor_assoc ..

/-- The parity of a word is the XOR of its bits, taken in order. -/
theorem parity_toNat_eq_foldl_getLsbD {w : Nat} (x : BitVec w) (k : Nat) :
    parity k x.toNat = (upFrom 0 k).foldl (fun b i => b != x.getLsbD i) false := by
  have fold := foldl_xor_testBit_upFrom x.toNat k 0 false
  rw [Nat.shiftRight_zero, Bool.false_bne] at fold
  exact fold.symm

/-! ## The four sub-operations -/

theorem gangResult_mux16 (data : BitVec 16) (s : Fin 16) : gangResult 0 data s.val = some (data.getLsbD s.val) := by
  rw [gangResult, Nat.mod_eq_of_lt s.isLt]

theorem gangResult_and16 (data : BitVec 16) (select : Nat) :
    gangResult 1 data select = some (decide (∀ i : Fin 16, data.getLsbD i.val = true)) :=
  congrArg some (decide_eq_decide.mpr eq_allOnes_iff_getLsbD)

theorem gangResult_or16 (data : BitVec 16) (select : Nat) :
    gangResult 2 data select = some (decide (∃ i : Fin 16, data.getLsbD i.val = true)) := by
  have nonzero : (data != 0) = decide (∃ i : Fin 16, data.getLsbD i.val = true) := by
    rw [Bool.eq_iff_iff, bne_iff_ne, decide_eq_true_iff, ne_zero_iff_getLsbD]
  rw [gangResult, nonzero]

theorem gangResult_xor16 (data : BitVec 16) (select : Nat) :
    gangResult 3 data select = some ((upFrom 0 16).foldl (fun x i => x != data.getLsbD i) false) :=
  congrArg some (parity_toNat_eq_foldl_getLsbD data 16)

/-- Settles O58: one sub-operation at a time. -/
theorem gangResults : Obligations.GangResults := by
  unfold Obligations.GangResults
  exact fun data s =>
    ⟨gangResult_mux16 data s, gangResult_and16 data s, gangResult_or16 data s, gangResult_xor16 data s⟩

end Sys2Proof.Machine
end

section
/-!
PROOF. A pop on empty (R312), of the far side and of the design; and what a packet access leaves as it was on its way
to its target and back (R172 to R176).
-/

namespace Sys2Proof.Machine

open Sys2Proof

/-! ## The way of an access (R172 to R176) -/

/-- `t` is `s` but for what carries an access: the reservations (R176), the open transactions (R175), the free values
that stand for latencies, and what tallies snoop (R326). -/
def State.Carried (s t : State) : Prop :=
  t = { s with opn := { s.opn with rsvs := t.opn.rsvs, rsvOrder := t.opn.rsvOrder, trans := t.opn.trans,
                                   samples := t.opn.samples },
               freeCtr := t.freeCtr, snooped := t.snooped }

section Carried

variable {s t u : State}

theorem carried_refl (s : State) : s.Carried s := rfl

theorem carried_trans (h : s.Carried t) (g : t.Carried u) : s.Carried u := by
  unfold State.Carried at h g ⊢
  rw [g, h]

theorem carried_ite {p : Prop} [Decidable p] (ht : s.Carried t) (hu : s.Carried u) :
    s.Carried (if p then t else u) := by
  split
  · exact ht
  · exact hu

theorem carried_setRsv (s : State) (k i : Nat) (r : Rsv) : s.Carried (s.setRsv k i r) := rfl

theorem carried_askBuffers (s : State) (k i cls n tag : Nat) (net : Bool) :
    s.Carried (s.askBuffers k i cls n tag net) := rfl

theorem carried_sampleWait (s : State) (init : Nat) (grant : Bool) : s.Carried (s.sampleWait init grant) := rfl

theorem carried_openTrans (s : State) (o : Trans) : s.Carried (s.openTrans o) :=
  carried_ite (carried_refl s) rfl

theorem carried_endTrans (s : State) (init tag : Nat) : s.Carried (s.endTrans init tag) := rfl

theorem carried_snoopBy (s u : State) (kind inst : Nat) (bs : List Byte) : s.Carried (s.snoopBy u kind inst bs) :=
  List.foldlRecOn (motive := fun v => s.Carried v) _ _ (carried_refl s)
    (fun _ h _ _ => carried_ite (carried_trans h rfl) h)

theorem carried_useBuffer (s : State) (k i : Nat) : s.Carried (s.useBuffer k i) := carried_setRsv ..

theorem carried_buffered (s : State) (k init cls : Nat) : s.Carried (s.buffered k init cls) :=
  carried_ite (carried_useBuffer ..) (carried_trans (carried_trans (carried_trans (carried_askBuffers ..)
    (carried_setRsv ..)) (carried_sampleWait ..)) (carried_useBuffer ..))

theorem carried_sendRsv (s : State) (k init cls : Nat) : s.Carried (s.sendRsv k init cls) :=
  carried_trans (carried_askBuffers ..) (carried_openTrans ..)

theorem carried_freeBuffer (s : State) (who : Asker) : s.Carried (s.freeBuffer who) := by
  have freed := carried_setRsv s (who.home - 1) who.init
  refine carried_ite (carried_refl s) ?_
  split
  · exact carried_ite (freed _) (carried_trans (freed _) (carried_sendRsv ..))
  · exact freed _

theorem State.Carried.obj (h : s.Carried t) (i sub : Nat) : t.obj i sub = s.obj i sub := by rw [h]; rfl

theorem State.Carried.troughs (h : s.Carried t) : t.troughs = s.troughs := by rw [h]

theorem State.Carried.trough (h : s.Carried t) (n : Nat) : t.trough n = s.trough n := by
  rw [State.trough, State.trough, h.troughs]

theorem State.Carried.answer (h : s.Carried t) : t.answer = s.answer := by rw [h]

theorem State.Carried.retired (h : s.Carried t) : t.opn.retired = s.opn.retired := by rw [h]

theorem State.Carried.gate (h : s.Carried t) (p : Place) : t.gate p = s.gate p := by rw [h]; rfl

theorem State.Carried.targetShut (h : s.Carried t) (k : Nat) : t.targetShut k = s.targetShut k := by rw [h]; rfl

theorem State.Carried.pathShut (h : s.Carried t) (i k : Nat) : t.pathShut i k = s.pathShut i k := by rw [h]; rfl

theorem State.Carried.thresh (h : s.Carried t) (n : Nat) : t.thresh n = s.thresh n := by
  simp only [State.thresh, h.obj]

end Carried

/-! ## The transaction of an access (R175) -/

theorem opn_snoopBy (s u : State) (kind inst : Nat) (bs : List Byte) : (s.snoopBy u kind inst bs).opn = s.opn := by
  refine List.foldlRecOn (motive := fun v : State => v.opn = s.opn) _ _ rfl ?_
  intro v h n _
  split
  · exact h
  · exact h

theorem trans_buffered (s : State) (k init cls : Nat) : (s.buffered k init cls).opn.trans = s.opn.trans := by
  unfold State.buffered
  split
  · rfl
  · simp only [State.useBuffer, State.sampleWait, State.askBuffers, State.setRsv, freeNext_opn]

theorem trans_openTrans {s : State} {o : Trans}
    (h : s.opn.trans.any (fun x => x.init == o.init && x.tag == o.tag) = false) :
    (s.openTrans o).opn.trans = s.opn.trans ++ [o] := by
  simp [State.openTrans, h]

/-- A transaction opens behind those that are open: the first of its kind stays the first. -/
theorem find_openTrans {s : State} {q : Trans → Bool} {o : Trans} (x : Trans) (h : s.opn.trans.find? q = some o) :
    (s.openTrans x).opn.trans.find? q = some o := by
  unfold State.openTrans
  split
  · exact h
  · rw [List.find?_append, h, Option.some_or]

theorem find_freeBuffer {s : State} (who : Asker) {q : Trans → Bool} {o : Trans} (h : s.opn.trans.find? q = some o) :
    (s.freeBuffer who).opn.trans.find? q = some o := by
  unfold State.freeBuffer
  split
  · exact h
  · dsimp only
    split
    · split
      · exact h
      · exact find_openTrans _ h
    · exact h

/-! ## An access that reaches its target and is answered -/

theorem wayTo_iff {s : State} {init cls t : Nat} : s.wayTo init cls t = true ↔
    packetInit init = true ∧ reservedInit init = false ∧ s.classHeld cls = false ∧ s.waitsFor t init = false ∧
      s.bufferAt t init cls = true ∧ s.targetShut t = false ∧ s.pathShut init t = false ∧
      s.opn.trans.any (fun o => o.init == init && o.tag == s.freshTag init) = false := by
  simp only [State.wayTo, Bool.and_eq_true, Bool.not_eq_true', and_assoc]

theorem reaches_iff {s : State} {init n : Nat} {p : Place} : s.reaches init p n = true ↔
    s.wayTo init (initClass init) p.target = true ∧ s.listed n p = true ∧ s.gate p = 0 ∧
      packetSize p.offset n = true := by
  simp only [State.reaches, Bool.and_eq_true, beq_iff_eq, and_assoc]

/-- The transaction that the answer to `who` ends: its user is that of the request, and the answer is not lost. -/
def State.awaits (s : State) (who : Asker) : Prop :=
  ∃ o, s.opn.trans.find? (fun x => x.init == who.init && x.tag == who.tag) = some o ∧ o.user = who.user ∧
    o.spoiled = false

/-- A request sent under a tag that is free awaits its answer, and a target with power that is not shuttered serves
it. -/
theorem send_open {s : State} {p : Parked} (hshut : s.targetShut p.place.target = false)
    (hway : s.pathShut p.asker.init p.place.target = false) (hgate : s.gate p.place = 0)
    (hfresh : s.opn.trans.any (fun o => o.init == p.asker.init && o.tag == s.freshTag p.asker.init) = false) :
    ∃ v, s.Carried v ∧ v.awaits { p.asker with tag := s.freshTag p.asker.init } ∧
      s.send p = v.serve { p.asker with tag := s.freshTag p.asker.init } p.acc p.place := by
  let who := { p.asker with tag := s.freshTag p.asker.init }
  let o : Trans := ⟨who.init, who.tag, p.place.target, 0, who.user, false, .access who.size who.cls who.write⟩
  let v := (s.openTrans o).snoop 3 who.init p.acc.sent
  have hv : s.Carried v := carried_trans (carried_openTrans ..) (carried_snoopBy ..)
  have opened : v.opn.trans = s.opn.trans ++ [o] := by
    rw [← trans_openTrans hfresh]
    exact congrArg OpnRec.trans (opn_snoopBy ..)
  have noneBefore : s.opn.trans.find? (fun x => x.init == who.init && x.tag == who.tag) = none := by
    simpa using hfresh
  refine ⟨v, hv, ⟨o, ?_, rfl, rfl⟩, ?_⟩
  · rw [opened, List.find?_append, noneBefore]
    simp [o, who]
  · rw [State.send, hshut, hway, ← reach_served ((hv.gate _).trans hgate)]
    rfl

/-- The requester of an access that `init` sends to place `p` in state `s`. -/
def State.sender (s : State) (init : Nat) (user : Bool) (p : Place) (acc : PAccess) : Asker :=
  { requester init (initClass init) user acc with home := p.target + 1, lane := p.offset % 8, tag := s.freshTag init }

/-- An access that reaches its target is served there. -/
theorem request_served {s : State} {init : Nat} {p : Place} {acc : PAccess} (h : s.reaches init p acc.size = true)
    (user : Bool) : ∃ v, s.Carried v ∧ v.awaits (s.sender init user p acc) ∧
      s.request init user (some p) acc = v.serve (s.sender init user p acc) acc p := by
  obtain ⟨way, listed, gate, -⟩ := reaches_iff.mp h
  obtain ⟨-, -, -, -, -, targetOpen, pathOpen, fresh⟩ := wayTo_iff.mp way
  let b := s.buffered p.target init (initClass init)
  have hb : s.Carried b := carried_buffered ..
  have same : b.opn.trans = s.opn.trans := trans_buffered ..
  have tag : b.freshTag init = s.freshTag init := by
    rw [State.freshTag, State.freshTag, same, hb.retired]
  obtain ⟨v, hv, waits, served⟩ := send_open (s := b)
    (p := ⟨{ requester init (initClass init) user acc with home := p.target + 1, lane := p.offset % 8 }, p, acc⟩)
    ((hb.targetShut _).trans targetOpen) ((hb.pathShut ..).trans pathOpen) ((hb.gate _).trans gate)
    (by rw [same]; exact tag ▸ fresh)
  have who : { requester init (initClass init) user acc with
      home := p.target + 1, lane := p.offset % 8, tag := b.freshTag init } = s.sender init user p acc := by
    rw [tag]; rfl
  refine ⟨v, carried_trans hb hv, who ▸ waits, ?_⟩
  rw [State.request, requestIn_way way listed, ← who]
  exact served

/-- The target's answer, but SHUTTERED, to an open transaction of no user comes to the initiator as it was sent. -/
theorem reply_arrives_carried {s : State} {who : Asker} {op : Nat} (data : List Byte) (hop : op ≠ opShuttered)
    (hw : s.awaits who) (hvia : who.via = none) (hfate : who.fate = .arrives) (huser : who.user = false) :
    ∃ v, s.Carried v ∧ s.reply who op data = v.arrive who op data := by
  obtain ⟨o, found, user, whole⟩ := hw
  rw [huser] at user
  have found' := find_freeBuffer who found
  rw [← if_neg (c := op = opShuttered) (t := s.bump 0x4800 5) (e := s) hop] at found'
  refine ⟨(s.freeBuffer who).endTrans who.init who.tag,
    carried_trans (carried_freeBuffer ..) (carried_endTrans ..), ?_⟩
  rw [reply_arrives op data hvia found' (by rw [hfate]; rfl) whole (by simp [user]), if_neg hop, user, ← huser]

/-! ## The statistics of an answer (R184, R190) -/

/-- `t` has the troughs and the last answer of `s`, and the objects of `s` but for the statistics of `init`. -/
structure State.Counted (init : Nat) (s t : State) : Prop where
  answer : t.answer = s.answer
  troughs : t.troughs = s.troughs
  obj : ∀ i sub, i ≠ statObj init → sub < 256 → t.obj i sub = s.obj i sub

section Counted

variable {init : Nat} {s t u : State}

theorem counted_refl (s : State) : s.Counted init s := ⟨rfl, rfl, fun _ _ _ _ => rfl⟩

theorem counted_ite {p : Prop} [Decidable p] (ht : s.Counted init t) (hu : s.Counted init u) :
    s.Counted init (if p then t else u) := by
  split
  · exact ht
  · exact hu

theorem counted_setObj {b : Nat} (hb : b < 256) (v : Nat) (h : s.Counted init t) :
    s.Counted init (t.setObj (statObj init) b v) where
  answer := h.answer
  troughs := h.troughs
  obj i sub hi hsub := by
    rw [obj_setObj_other t v (fun e => hi ((objKey_inj hsub hb).mp e).1), h.obj i sub hi hsub]

theorem counted_bump {b : Nat} (hb : b < 256) (n : Nat) (h : s.Counted init t) :
    s.Counted init (t.bump (statObj init) b n) :=
  counted_setObj hb _ h

theorem counted_peak {b : Nat} (hb : b < 256) (v : Nat) (h : s.Counted init t) :
    s.Counted init (t.peak (statObj init) b v) :=
  counted_ite (counted_setObj hb v h) h

theorem counted_carried (h : s.Counted init t) (g : t.Carried u) : s.Counted init u where
  answer := g.answer.trans h.answer
  troughs := g.troughs.trans h.troughs
  obj i sub hi hsub := (g.obj i sub).trans (h.obj i sub hi hsub)

/-- A latency counts in one of 16 bins. -/
theorem latencyBin_le (lat : Nat) : latencyBin lat ≤ 15 := by
  unfold latencyBin
  split
  · exact Nat.zero_le _
  · split
    · exact Nat.le_refl _
    · have short : lat < 2 ^ 18 := by omega
      have := (Nat.log2_lt (by omega)).mpr short
      omega

theorem counted_countLatency (lat : Nat) (h : s.Counted init t) : s.Counted init (t.countLatency init lat) :=
  counted_bump (by have := latencyBin_le lat; omega) 1 (counted_bump (by decide) lat (counted_peak (by decide) lat
    (counted_ite (counted_setObj (by decide) lat h) h)))

theorem counted_countAnswer (s : State) (who : Asker) (op : Nat) : s.Counted who.init (s.countAnswer who op) := by
  have sized : ∀ n, s.Counted who.init ((s.bump (statObj who.init) 1).bump (statObj who.init) 2 n) := fun n =>
    counted_bump (by decide) n (counted_bump (by decide) 1 (counted_refl s))
  have judged := fun n => counted_ite (p := op = opData ∨ op = opAck) (sized n)
    (counted_bump (b := 7) (by decide) 1 (sized n))
  refine counted_ite (counted_refl s) ?_
  split
  · exact counted_countLatency _ (judged _)
  · exact counted_carried (judged _) (carried_sampleWait ..)

end Counted

/-- An answer that no user waits for is recorded and counted (R184), and may be snooped (R326). -/
theorem counted_arrive (s : State) {who : Asker} (op : Nat) (data : List Byte) (hr : reservedInit who.init = false)
    (huser : who.user = false) :
    State.Counted who.init { s with answer := ⟨who, op, data⟩ } (s.arrive who op data) := by
  have counted := counted_countAnswer { s with answer := ⟨who, op, data⟩ } who op
  simp only [State.arrive, hr, State.deliver, huser, Bool.not_false, Bool.false_eq_true, if_true, if_false]
  exact counted_ite (counted_carried counted (carried_snoopBy ..)) counted

/-! ## A pop on empty (R310, R312) -/

theorem exec_pop (init : Initiator) (t : Fin 256) (s : State) :
    exec (.pop init t) s = .next (s.request init.val false (some (.trough t.val 0x10)) (.read 8)) := rfl

theorem serve_pop (s : State) (who : Asker) (t : Nat) :
    s.serve who (.read 8) (.trough t 0x10) =
      (s.farPop t).1.reply who (s.farPop t).2.1 (s.farPop t).2.2 := rfl

/-- What a far side's pop on empty does to the trough: it is counted, and POP_STATUS shows VALID 0 (R317, R323). -/
def State.poppedEmpty (s : State) (t : Nat) : State :=
  (s.bump (tObj t) 9).setTrough t { s.trough t with popStatus := 0 }

theorem farPop_empty {s : State} {t : Nat} (hdir : s.obj (tObj t) 1 = 2)
    (hempty : admissible (s.obj (tObj t) 5) (s.obj (tObj t) 6) (s.thresh t) = false) :
    s.farPop t = (s.poppedEmpty t, opData, leBytes 8 (s.obj (tObj t) 4)) := by
  simp [State.farPop, State.troughDir, State.poppedEmpty, hdir, hempty]

/-- The count of a trough's pops on empty is no other object of it. -/
theorem obj_bump_popsOnEmpty (s : State) (t : Nat) {sub : Nat} (h : sub < 256) (h9 : sub ≠ 9) :
    (s.bump (tObj t) 9).obj (tObj t) sub = s.obj (tObj t) sub :=
  obj_setObj_other s _ (fun e => h9 ((objKey_inj h (by decide)).mp e).2)

theorem obj_poppedEmpty (s : State) (t : Nat) {sub : Nat} (h : sub < 256) (h9 : sub ≠ 9) :
    (s.poppedEmpty t).obj (tObj t) sub = s.obj (tObj t) sub :=
  obj_bump_popsOnEmpty s t h h9

theorem trough_poppedEmpty (s : State) (t : Nat) :
    (s.poppedEmpty t).trough t = { s.trough t with popStatus := 0 } :=
  trough_setTrough_same ..

theorem awaits_poppedEmpty {s : State} {who : Asker} (t : Nat) (h : s.awaits who) : (s.poppedEmpty t).awaits who := h

/-- The troughs' objects are no statistics of an initiator with an entry (R190, R323). -/
theorem tObj_ne_statObj {init : Nat} (h : packetInit init = true) (t : Nat) : tObj t ≠ statObj init := by
  simp only [packetInit, Bool.and_eq_true, decide_eq_true_eq] at h
  unfold tObj statObj
  omega

/-- The far side's POP on empty, from the request of its initiator to the answer. -/
theorem exec_pop_empty {init : Initiator} {t : Fin 256} {s : State}
    (hreach : s.reaches init.val (.trough t.val 0x10) 8 = true) (hdir : s.obj (tObj t.val) 1 = 2)
    (hempty : admissible (s.obj (tObj t.val) 5) (s.obj (tObj t.val) 6) (s.thresh t.val) = false) :
    ∃ u, exec (.pop init t) s = .next u ∧ u.answered init.val opData (leBytes 8 (s.obj (tObj t.val) 4)) ∧
      u.obj (tObj t.val) 5 = s.obj (tObj t.val) 5 ∧ (u.trough t.val).popStatus = 0 := by
  obtain ⟨packet, unreserved, -⟩ := wayTo_iff.mp (reaches_iff.mp hreach).1
  obtain ⟨v, hv, waits, served⟩ := request_served (acc := .read 8) hreach false
  let who := s.sender init.val false (.trough t.val 0x10) (.read 8)
  have popped : v.farPop t.val = (v.poppedEmpty t.val, opData, leBytes 8 (s.obj (tObj t.val) 4)) := by
    rw [farPop_empty ((hv.obj _ _).trans hdir) (by rw [hv.obj, hv.obj, hv.thresh, hempty]), hv.obj]
  obtain ⟨w, hw, replied⟩ := reply_arrives_carried (who := who) (op := opData) (leBytes 8 (s.obj (tObj t.val) 4))
    (by decide) (awaits_poppedEmpty t.val waits) rfl rfl rfl
  have counted := counted_arrive w (who := who) opData (leBytes 8 (s.obj (tObj t.val) 4)) unreserved rfl
  refine ⟨w.arrive who opData (leBytes 8 (s.obj (tObj t.val) 4)), ?_, ?_, ?_, ?_⟩
  · rw [exec_pop, served, serve_pop, popped, ← replied]
  · rw [State.answered, counted.answer]
    exact ⟨rfl, rfl, rfl⟩
  · calc (w.arrive who opData _).obj (tObj t.val) 5
      _ = w.obj (tObj t.val) 5 := counted.obj _ _ (tObj_ne_statObj packet _) (by decide)
      _ = v.obj (tObj t.val) 5 := (hw.obj _ _).trans (obj_poppedEmpty v t.val (by decide) (by decide))
      _ = s.obj (tObj t.val) 5 := hv.obj _ _
  · calc ((w.arrive who opData _).trough t.val).popStatus
      _ = (w.trough t.val).popStatus := by rw [State.trough, counted.troughs]; rfl
      _ = 0 := by rw [hw.trough, trough_poppedEmpty]

theorem obj_foul (s : State) (i sub : Nat) : s.foul.obj i sub = s.obj i sub := by
  unfold State.foul State.chargeFoul
  split <;> rfl

/-- The design's pop on empty (R312, R321): the idle item, with the strict trough's foul (R315), and the count of it. -/
theorem designPop_empty {s : State} {t : Nat}
    (hempty : admissible (s.obj (tObj t) 7) (s.trough t).window (s.thresh t) = false) :
    s.designPop t = (if s.troughStrict t then (s.bump (tObj t) 9).foul else s.bump (tObj t) 9,
      ⟨s.obj (tObj t) 4, 8⟩) := by
  simp [State.designPop, hempty]

theorem obj_designPop_empty {s : State} {t : Nat}
    (hempty : admissible (s.obj (tObj t) 7) (s.trough t).window (s.thresh t) = false) :
    (s.designPop t).1.obj (tObj t) 7 = s.obj (tObj t) 7 := by
  have counted := obj_bump_popsOnEmpty s t (sub := 7) (by decide) (by decide)
  rw [designPop_empty hempty]
  dsimp only
  split
  · exact (obj_foul ..).trans counted
  · exact counted

/-- Settles O60: the far side's POP by the way of its access, the design's by its own equation. -/
theorem popOnEmpty : Obligations.PopOnEmpty := by
  unfold Obligations.PopOnEmpty
  intro t s
  constructor
  · intro init hreach hdir hempty
    obtain ⟨u, popped, answered, position, status⟩ := exec_pop_empty hreach hdir hempty
    exact ⟨u, popped, answered, position, by rw [status]; rfl⟩
  · intro hempty
    have result : (s.designPop t.val).2 = ⟨s.obj (tObj t.val) 4, 8⟩ := congrArg Prod.snd (designPop_empty hempty)
    have status : (s.designPop t.val).2.status = 8 := congrArg TResult.status result
    exact ⟨congrArg TResult.item result, by rw [status]; decide, obj_designPop_empty hempty⟩

end Sys2Proof.Machine
end
